-- ==== Sys2Proof/Word.lean ====
section
/-!
DEFINITION. The words and the small data types of the ZM-58: what crosses the cab link, what one block hands to
another, and the names the spec writes in capitals. No behaviour.
-/

namespace Sys2Proof

abbrev Byte := BitVec 8
/-- The 32-bit microsecond count of R73. -/
abbrev TimeTag := BitVec 32
abbrev Word16 := BitVec 16

/-! ### Ports, characters, queues, timers -/

/-- The machine port and the display port. As a direction, the port a frame was accepted at. -/
inductive Port where
  | mp
  | dp
deriving DecidableEq, Repr

/-- One thing for each port. -/
structure PerPort (α : Type) where
  mp : α
  dp : α
deriving DecidableEq, Repr

/-- The characters of R1. -/
inductive Character where
  | data (b : Byte)
  | space
  | start
  | endMark
  | abort
  | codingError
deriving DecidableEq, Repr

/-- The marker that closes a frame sent (R12). -/
inductive EndMark where
  | endMark
  | abort
deriving DecidableEq, Repr

/-- The two sample queues of R50. -/
inductive QueueId where
  | fast
  | slow
deriving DecidableEq, Repr

/-- One thing for each sample queue. -/
structure PerQueue (α : Type) where
  fast : α
  slow : α
deriving DecidableEq, Repr

/-- The five interval timers, in the order of R74. -/
inductive TimerId where
  | tf
  | ts
  | tr
  | td
  | tc
deriving DecidableEq, Repr

/-! ### Roles, keys, faults -/

/-- The roles of R43, in the order of its table. -/
inductive Role where
  | headP
  | rodP
  | boom
  | tilt
  | speed
  | pitch
  | park
deriving DecidableEq, Repr

/-- A notification of the signal table (R44): a write, with the slot's new value and time tag, or an expiry to
STALE. -/
inductive Notice where
  | written (role : Role) (value : Int) (tag : TimeTag)
  | stale (role : Role)
deriving DecidableEq, Repr

/-- The key functions of R34, in the order of its table. -/
inductive KeyFunction where
  | nextTarget
  | select1
  | select2
  | select3
  | select4
  | newTarget
  | closeLoad
  | deleteLast
  | zero
deriving DecidableEq, Repr

/-- The thirteen fault flags, in the order of R191. -/
inductive FaultFlag where
  | mpDown
  | dpDown
  | toMpDrop
  | toDpDrop
  | reportDrop
  | signalStale
  | converterCheck
  | acqOverrun
  | targetsFull
  | unallocated
  | logMissed
  | overlayFit
  | calTimeout
deriving DecidableEq, Repr

/-- The fault set of R192: bit n for the n-th flag of R191. -/
abbrev FaultSet := BitVec 13

/-! ### Lift results (R105) -/

inductive Grade where
  | good
  | marginal
  | rejected
deriving DecidableEq, Repr

/-- The reasons of a lift result, in the order of R105. -/
inductive Reason where
  | fewSamples
  | fewBins
  | liftSlow
  | liftFast
  | spread
  | tiltMoved
  | slope
  | accel
  | noCal
  | signalLost
  | range
deriving DecidableEq, Repr

/-- A reason set: bit n for the n-th reason (R194). -/
abbrev ReasonSet := BitVec 11

/-- A lift result record (R105). -/
structure LiftResult where
  sequence : Word16
  tag : TimeTag
  payload : Option Int
  grade : Grade
  reasons : ReasonSet
  samples : Nat
  binsCovered : Nat
  spread : Option Int
  rate : Option Int
  meanPitch : Option Int
  calFlag : Bool
deriving DecidableEq, Repr

/-- The bin force table of a flagged result (R100): the mean force of each covered bin, in N. -/
abbrev BinForces := Vector (Option Int) 16

/-! ### Buckets, targets, loads -/

inductive BucketGrade where
  | good
  | marginal
  | unweighed
deriving DecidableEq, Repr

/-- A bucket credit (R151): the lift sequence is absent, and the payload 0, for an unweighed bucket. -/
structure Credit where
  sequence : Option Word16
  payload : Int
  grade : BucketGrade
  tag : TimeTag
deriving DecidableEq, Repr

/-- A bucket entry (R147). -/
structure BucketEntry where
  sequence : Option Word16
  payload : Int
  grade : BucketGrade
  tag : TimeTag
  shift : Word16
deriving DecidableEq, Repr

/-- FREE, OPEN and FULL of R146. -/
inductive TargetState where
  | free
  | opened
  | full
deriving DecidableEq, Repr

/-- The events of a TARGET report (R149). -/
inductive TargetEvent where
  | opened
  | selected
  | state
  | capacity
  | removed
  | closed
deriving DecidableEq, Repr

/-- The figures of one slot that a TARGET report carries (R149); `slot` is none for an empty pointer. -/
structure TargetFigures where
  slot : Option (Fin 4)
  state : TargetState
  id : Nat
  capacity : Nat
  accumulated : Int
  buckets : Nat
  overloaded : Bool
  current : Bool
deriving DecidableEq, Repr

/-- The contents of a TARGET report (R193). -/
structure TargetReport where
  event : TargetEvent
  figures : TargetFigures
  removed : Option BucketEntry
deriving DecidableEq, Repr

/-- The contents of a BUCKET report (R193): `total` is the slot's accumulated payload, or the shift's unallocated
payload for slot none. -/
structure BucketReport where
  slot : Option (Fin 4)
  entry : BucketEntry
  total : Int
  buckets : Nat
  state : TargetState
  overloaded : Bool
deriving DecidableEq, Repr

inductive CloseCause where
  | operator
  | dispatch
  | command
deriving DecidableEq, Repr

/-! ### Calibration -/

inductive RunState where
  | off
  | collecting
  | review
deriving DecidableEq, Repr

inductive CalKind where
  | empty
  | reference
  | zero
deriving DecidableEq, Repr

/-- The causes of R124. -/
inductive CalCause where
  | started
  | collected
  | accepted
  | discarded
  | timeout
  | config
deriving DecidableEq, Repr

/-- The contents of a CAL report (R124). -/
structure CalReport where
  run : RunState
  cause : CalCause
  kind : CalKind
  keyStarted : Bool
  accepted : Nat
  refused : Nat
  candidateValid : Bool
  activeValid : Bool
deriving DecidableEq, Repr

/-! ### Shift figures -/

/-- The tracker's six shift counters (R142). -/
structure TrackerFigures where
  cycles : Nat
  returned : Nat
  timeSum : Nat
  timeCount : Nat
  strays : Nat
  reversals : Nat
deriving DecidableEq, Repr

/-- The five shift totals of load accounting (R164). -/
structure AccountFigures where
  weighed : Int
  buckets : Nat
  unweighed : Nat
  loads : Nat
  unallocated : Int
deriving DecidableEq, Repr

/-- What an arrival at the shift assembly carries besides its closing number (R176). -/
inductive ShiftPart where
  | boundary
  | tracker (f : TrackerFigures)
  | account (f : AccountFigures)
deriving DecidableEq, Repr

/-! ### Management requests -/

/-- A diverted management request (R186): the port it came in at, the source node and tag its response echoes, its
command code (0 for an empty request) and the data bytes that follow the code. -/
structure Request where
  port : Port
  source : BitVec 4
  tag : Byte
  code : Byte
  data : List Byte
deriving DecidableEq, Repr

end Sys2Proof
end

