-- ==== Sys2Proof/Syntax.lean ====
section
/-!
DEFINITION. The commands of the part: one constructor for each row of spec/opcode_table.json, in its order. A
command is an event from outside, a request that one block hands to another, or a management command with the
request frame that carried it.
-/

namespace Sys2Proof

inductive Instr where
  /-- Power-up or the reset pin, with the straps NODE[3:0] as sampled (R4, R17). -/
  | powerReset (straps : BitVec 4)
  /-- One complete character at an ingress side (R1, R8). -/
  | characterReceived (port : Port) (c : Character)
  /-- 2 ms without a character (R6). -/
  | ingressDown (port : Port)
  /-- The egress arbiter of a port starts a frame (R16). -/
  | arbiterStart (port : Port)
  /-- The end marker of a port's transmission has been sent (R14). -/
  | transmissionComplete (port : Port)
  /-- The 100 ms release limit runs out (R22). -/
  | releaseLimitExpiry
  /-- A slot's staleness timer reaches its timeout (R41). -/
  | stalenessExpiry (slot : Fin 32)
  /-- A set request for a fault flag (R191). -/
  | faultSet (flag : FaultFlag)
  /-- A BOOM write reaches the weighing engine: the slot's new value and time tag (R93, R95). -/
  | weighSample (angle : Int) (tag : TimeTag)
  /-- A SPEED write reaches the weighing engine (R97). -/
  | speedSample (speed : Int) (tag : TimeTag)
  /-- A stale notification reaches the weighing engine (R99). -/
  | weighStaleNotice (role : Role)
  /-- A notification reaches the cycle tracker (R129). -/
  | candidateEvaluation (notice : Notice)
  /-- A TD expiry reaches the cycle tracker; it answers the start request of this number (R132). -/
  | dwellEnd (start : Nat)
  /-- An unflagged lift result reaches the cycle tracker (R139). -/
  | pendingLift (result : LiftResult)
  /-- A reversal notice reaches the cycle tracker (R141). -/
  | reversalNotice
  /-- A flagged lift result reaches the calibration unit with its bin force table (R115). -/
  | calLift (result : LiftResult) (forces : BinForces)
  /-- A bucket credit reaches load accounting (R151). -/
  | bucketCredit (credit : Credit)
  /-- A pending-lift notice reaches load accounting (R150). -/
  | pendingLiftNotice
  | nextTarget
  /-- SELECT_1 to SELECT_4 name slots 0 to 3 (R34, R156). -/
  | selectKey (slot : Fin 4)
  | newTarget
  | closeLoad
  | deleteLast
  /-- A ZERO key reaches the calibration unit (R114). -/
  | zero
  /-- A dispatch arrival with its id and capacity (R154). -/
  | dispatchArrival (id : Nat) (capacity : Nat)
  /-- A dispatch departure with its id (R159). -/
  | dispatchDeparture (id : Nat)
  /-- The conversion in flight completes with this result (R61). -/
  | conversionComplete (result : BitVec 12)
  /-- An expiry of TF or TS reaches its queue (R55). -/
  | queueTrigger (queue : QueueId)
  | tfExpiry
  | tsExpiry
  | trExpiry
  | tdExpiry
  | tcExpiry
  /-- A start request: a one-shot's carries its reload, and its number among its user's starts (R74, R76). -/
  | timerStart (timer : TimerId) (reload : Option Nat) (start : Nat)
  /-- A stop request (R74). -/
  | timerStop (timer : TimerId)
  /-- A TC expiry reaches the calibration unit; it answers the start request of this number (R122). -/
  | calDeadline (start : Nat)
  | secondEvent
  /-- The shift boundary reaches the cycle tracker, with the closing and the new shift number (R84, R142). -/
  | trackerShiftClose (closing : Word16) (new : Word16)
  /-- The shift boundary reaches load accounting (R84, R164). -/
  | accountShiftClose (closing : Word16) (new : Word16)
  /-- An arrival at the shift assembly (R176). -/
  | shiftAssemblyArrival (closing : Word16) (part : ShiftPart)
  /-- A TR expiry reaches the report engine (R178). -/
  | statusReport
  | liftResultReport (result : LiftResult)
  | bucketReport (report : BucketReport)
  | targetReport (report : TargetReport)
  | calReport (report : CalReport)
  /-- The FAULT report request, with the whole set after the change (R177). -/
  | faultReport (set : FaultSet)
  | loadDrain
  | unknownCommand (req : Request)
  | identify (req : Request)
  | readEntry (req : Request)
  | readState (req : Request)
  | readClock (req : Request)
  | readCounters (req : Request)
  | readFaults (req : Request)
  | readTotals (req : Request)
  | calStatus (req : Request)
  | targetOpen (req : Request)
  | targetSelect (req : Request)
  | targetClose (req : Request)
  | deleteLastBucket (req : Request)
  | latchTotals (req : Request)
  | readLoadLog (req : Request)
  | clearFaults (req : Request)
  | clearCounters (req : Request)
  | enterConfig (req : Request)
  | writeEntry (req : Request)
  | commit (req : Request)
  | setClock (req : Request)
  | calStart (req : Request)
  | calAccept (req : Request)
  | calDiscard (req : Request)
  /-- QUEUE_CONTROL with the operation ARM (R64). -/
  | arm (req : Request)
  /-- QUEUE_CONTROL with the operation DISARM (R65). -/
  | disarm (req : Request)
  /-- QUEUE_CONTROL with the operation TRIGGER (R66). -/
  | trigger (req : Request)
  | softReset (req : Request)
  | bypass (req : Request)
deriving DecidableEq, Repr

end Sys2Proof
end

