-- ==== Sys2Proof/Decode.lean ====
section
/-!
DEFINITION. The command a word spells by the bits of spec/opcode_table.json. No row of the table gives bits: the
commands of the part are events, requests between its blocks, and frames on the cab link, whose codes `commandOf`
reads (R192). So no word spells a command (log 31).
-/

namespace Sys2Proof

/-- The command a word of this many bits spells: none. -/
def decodeTableWord (_nbits _w : Nat) : Option Instr := none

end Sys2Proof
end

