-- ==== Sys2Proof/Config.lean ====
section
/-!
DEFINITION. What the spec leaves open, as constants without a value: nothing can be proved about any of them but
that it exists. Each is named in a row of notes/assumptions.
-/

namespace Sys2Proof

/-- The result of the n-th conversion that the model itself lets complete (R47: "A word's result is whatever the
converter yields"). The analog inputs are outside the part. Log 5. -/
opaque Config.converterResult : Nat → BitVec 12

/-- A quotient whose divisor is 0, by its dividend. The spec's rules make every divisor non-zero in the states a
run reaches (R89, R91, R169) and give no quotient for 0. Log 6. -/
opaque Config.quotientByZero : Int → Int

/-- What a signed 32-bit field holds for an exact figure beyond its range, where no rule clamps the figure (R105): some
content of the field. Log 32. -/
opaque Config.beyondField : Int → BitVec 32

/-- The bin that takes a sample accumulated below the window start, by its boom angle, θs and θe. A boom may fall back
to there without a reversal (R95), and R89 gives the bin of a sample from θs up alone. Log 41. -/
opaque Config.binBelowStart : Int → Int → Int → BitVec 4

end Sys2Proof
end

