-- ==== Sys2Proof/Machine/State.lean ====
section
/-!
DEFINITION. The state of the part as plain data, block by block (00, Block Overview), the reasons a step can stop,
and the state after a power reset (R17, R25, R45, R46, R72, R86, R108, R109, R112, R144, R167, R181, R182, R185,
R191).
-/

namespace Sys2Proof.Machine

/-! ### Link unit -/

/-- The relay states, in the order 01, section 1.8, lists them. -/
inductive RelayState where
  | bypass
  | takeover
  | relay
  | release
deriving DecidableEq, Repr

/-- A frame in progress: the first 66 frame bytes and the count of all of them (R8). -/
structure FrameIn where
  stored : List Byte
  count : Nat
deriving DecidableEq, Repr

/-- DOWN, HUNT (with whether material was taken, R7) and ALIGNED (between frames or with a frame in progress). -/
inductive IngressMode where
  | down
  | hunt (material : Bool)
  | aligned (frame : Option FrameIn)
deriving DecidableEq, Repr

/-- One ingress side: its state, its run of SPACE characters (R7, R17) and the µs since its last character (R6). -/
structure Ingress where
  mode : IngressMode
  spaces : Nat
  silence : Nat
deriving DecidableEq, Repr

/-- An entry of a relay queue (R12). -/
structure RelayEntry where
  bytes : List Byte
  mark : EndMark
deriving DecidableEq, Repr

/-- The kinds of originate entry (R13). A LOAD report is told apart because its end is signalled (R14). -/
inductive OrigKind where
  | response
  | report
  | loadReport
deriving DecidableEq, Repr

/-- An entry of an originate queue (R13). -/
structure OrigEntry where
  kind : OrigKind
  bytes : List Byte
deriving DecidableEq, Repr

/-- Where the frame being sent stands: the head of the relay queue, or a place in the originate queue. -/
inductive TxSource where
  | relay
  | originate (index : Nat)
deriving DecidableEq, Repr

/-- A transmission in progress (R14): the frame, its end marker and the µs left to the end of the marker. -/
structure Transmission where
  source : TxSource
  bytes : List Byte
  mark : EndMark
  left : Nat
deriving DecidableEq, Repr

/-- One egress side: its transmitter, its minimum-gap count with the µs spent in the SPACE being sent (R15), and its
pass-over count (R16). -/
structure Egress where
  tx : Option Transmission
  gap : Nat
  spaceUs : Nat
  passOver : Nat
deriving DecidableEq, Repr

/-- The 100 ms release limit (R19, R22). -/
inductive ReleaseLimit where
  | stopped
  | running (left : Nat)
  | expired
deriving DecidableEq, Repr

/-- The eight link counters of a port, in the order of R24. -/
structure LinkCounters where
  good : Nat
  checkErrors : Nat
  runts : Nat
  giants : Nat
  aborts : Nat
  huntDiscards : Nat
  relayDrops : Nat
  busyDrops : Nat
deriving DecidableEq, Repr

/-- The link unit. The queues are named by the egress port they feed. -/
structure Link where
  straps : BitVec 4
  node : BitVec 4
  relay : RelayState
  ingress : PerPort Ingress
  relayQ : PerPort (List RelayEntry)
  origQ : PerPort (List OrigEntry)
  egress : PerPort Egress
  limit : ReleaseLimit
  gapInUse : Nat
  gapEntry : Nat
  counters : PerPort LinkCounters
deriving DecidableEq, Repr

/-! ### Frame matcher and signal table -/

inductive FieldWidth where
  | bit
  | one
  | two
  | four
deriving DecidableEq, Repr

/-- A field descriptor (R28). -/
structure FieldDesc where
  offset : Nat
  width : FieldWidth
  bit : Nat
  lowFirst : Bool
  signed : Bool
deriving DecidableEq, Repr

/-- The direction an entry applies to (R27). -/
inductive MatchDirection where
  | fromMp
  | fromDp
  | either
deriving DecidableEq, Repr

/-- The action of a match entry with its action data (R27). -/
inductive MatchAction where
  | extract (fields : List (FieldDesc × Fin 32))
  | key (offset : Nat)
  | target (id : FieldDesc) (capacity : Option FieldDesc) (departure : Option FieldDesc)
  | page (set : Nat)
deriving DecidableEq, Repr

/-- A match entry (R27). -/
structure MatchEntry where
  enable : Bool
  direction : MatchDirection
  classValue : Byte
  classMask : Byte
  sourceValue : BitVec 4
  sourceMask : BitVec 4
  byte0Value : Byte
  byte0Mask : Byte
  minLength : Nat
  consume : Bool
  action : MatchAction
deriving DecidableEq, Repr

/-- A key map entry (R34). -/
structure KeyEntry where
  inUse : Bool
  raw : Byte
  function : KeyFunction
deriving DecidableEq, Repr

/-- The configured part of a slot (R39). -/
structure SlotConfig where
  gain : Int
  shift : Nat
  offset : Int
  timeout : Nat
deriving DecidableEq, Repr

inductive Freshness where
  | never
  | fresh
  | stale
deriving DecidableEq, Repr

/-- The source of a slot's last write (R39). -/
inductive WriteSource where
  | entry (n : Nat)
  | word (n : Nat)
  | unset
deriving DecidableEq, Repr

/-- A running staleness timer: the µs since the write, and the timeout in force when it was started (R41). -/
structure StaleTimer where
  elapsed : Nat
  limit : Nat
deriving DecidableEq, Repr

/-- The live part of a slot (R39). -/
structure SlotLive where
  value : Int
  tag : TimeTag
  fresh : Freshness
  writes : Word16
  source : WriteSource
  timer : Option StaleTimer
deriving DecidableEq, Repr

/-- The matcher counters (R38). -/
structure MatcherCounters where
  short : Nat
  unmapped : Nat
  dispatch : Nat
deriving DecidableEq, Repr

structure Signals where
  matchTable : Vector MatchEntry 24
  keyMap : Vector KeyEntry 16
  roles : Vector (Option (Fin 32)) 7
  config : Vector SlotConfig 32
  slots : Vector SlotLive 32
  counters : MatcherCounters
deriving DecidableEq, Repr

/-! ### Acquisition unit -/

/-- A sample word (R49); no channel is UNUSED, no destination is NONE. -/
structure SampleWord where
  channel : Option (Fin 11)
  settle : Nat
  brk : Bool
  last : Bool
  dest : Option (Fin 32)
deriving DecidableEq, Repr

/-- A result entry (R51). -/
structure ResultEntry where
  raw : BitVec 12
  tag : TimeTag
  valid : Bool
deriving DecidableEq, Repr

inductive QueueMode where
  | off
  | single
  | continuous
deriving DecidableEq, Repr

inductive TriggerSource where
  | command
  | timer
deriving DecidableEq, Repr

/-- A queue setup record (R52). `resume` is the byte of the resume policy as written, 0 AT_WORD and 1 AT_SUBQUEUE;
the fast queue's is kept and ignored (R192). -/
structure QueueSetup where
  mode : QueueMode
  trigger : TriggerSource
  arm : Bool
  resume : Byte
deriving DecidableEq, Repr

/-- The queue states, in the order of R53. -/
inductive QueueState where
  | off
  | idle
  | active
  | paused
  | pending
  | suspended
deriving DecidableEq, Repr

/-- A sample queue: state, position, sub-queue start (R53) and flags (R54). -/
structure SampleQueue where
  state : QueueState
  position : Nat
  subStart : Nat
  complete : Bool
  pause : Bool
  overrun : Bool
deriving DecidableEq, Repr

/-- The conversion in flight (R47): its queue, its word and the µs left. -/
structure Conversion where
  queue : QueueId
  word : Nat
  left : Nat
deriving DecidableEq, Repr

structure Acquisition where
  words : Vector SampleWord 48
  boundary : Nat
  results : Vector ResultEntry 48
  setup : PerQueue QueueSetup
  queues : PerQueue SampleQueue
  conversion : Option Conversion
  released : Bool
  /-- the model's own: how many free converter results have been used (log 5) -/
  freeReads : Nat
deriving DecidableEq, Repr

/-! ### Time base -/

/-- An interval timer (R74): its reload, the µs left to its expiry, whether it runs, and the number of the start
request it runs under (log 25). -/
structure Timer where
  reload : Nat
  left : Nat
  running : Bool
  start : Nat
deriving DecidableEq, Repr

structure Timers where
  tf : Timer
  ts : Timer
  tr : Timer
  td : Timer
  tc : Timer
deriving DecidableEq, Repr

/-- The six fields of the shift clock (R80), and a clock value (R146). -/
structure Clock where
  year : Nat
  month : Nat
  day : Nat
  hour : Nat
  minute : Nat
  second : Nat
deriving DecidableEq, Repr

/-- A shift boundary (R83). -/
structure ShiftEntry where
  enable : Bool
  hour : Nat
  minute : Nat
deriving DecidableEq, Repr

structure TimeBase where
  tag : TimeTag
  timers : Timers
  timerTable : Vector Nat 3
  clock : Clock
  valid : Bool
  /-- µs to the next second event (R80) -/
  secondLeft : Nat
  /-- time tag of the last second event or SET_CLOCK (R82) -/
  lastSecond : TimeTag
  shiftTable : Vector ShiftEntry 3
  shiftNumber : Word16
deriving DecidableEq, Repr

/-! ### Calibration records, weighing engine, calibration unit -/

/-- A calibration record (R109). A force whose present flag is clear is absent; its value reads 0. -/
structure CalRecord where
  empty : Vector (Option Int) 16
  reference : Vector (Option Int) 16
  mref : Nat
  zeroOffset : Int
  rate : Nat
  minDelta : Nat
deriving DecidableEq, Repr

/-- The weigh parameter record (R87), fields in the order of its table. -/
structure WeighRecord where
  thetaS : Int
  thetaE : Int
  hysteresis : Nat
  headArea : Nat
  rodArea : Nat
  minSamples : Nat
  minBins : Nat
  spreadGood : Nat
  spreadReject : Nat
  tiltLimit : Nat
  pitchLimit : Nat
  accelLimit : Nat
  pitchCoeff : Nat
  rateBand : Nat
  pressureMax : Nat
  ratedLoad : Nat
  zeroLimit : Nat
deriving DecidableEq, Repr

inductive WeighState where
  | disabled
  | armed
  | window
  | spent
deriving DecidableEq, Repr

/-- One bin of the window record: sample count, force sum, payload sum. -/
structure BinSum where
  count : Nat
  force : Int
  payload : Int
deriving DecidableEq, Repr

/-- The window record (R94, R96). -/
structure WindowRecord where
  entryTag : TimeTag
  entryAngle : Int
  highest : Int
  calFlag : Bool
  cal : CalRecord
  samples : Nat
  bins : Vector BinSum 16
  tiltMin : Option Int
  tiltMax : Option Int
  pitchSum : Int
  pitchCount : Nat
  accelSeen : Bool
  accelMax : Nat
deriving DecidableEq, Repr

/-- The last SPEED write of the speed memory (R97). -/
structure SpeedWrite where
  speed : Int
  tag : TimeTag
deriving DecidableEq, Repr

structure Weighing where
  params : WeighRecord
  state : WeighState
  window : WindowRecord
  speed : Option SpeedWrite
  accel : Option Int
  sequence : Word16
  reversals : Nat
  last : Option LiftResult
deriving DecidableEq, Repr

/-- The run record (R112). -/
structure RunRecord where
  kind : CalKind
  keyStarted : Bool
  lifts : Nat
  mref : Nat
  accepted : Nat
  refused : Nat
  binSums : Vector Int 16
  binLifts : Vector Nat 16
  rateSum : Int
  cause : CalCause
deriving DecidableEq, Repr

structure Calibration where
  active : CalRecord
  candidate : CalRecord
  deadline : Nat
  run : RunState
  record : RunRecord
  /-- start requests sent to TC (log 25) -/
  starts : Nat
  /-- the last start request is open: no stop request has gone to TC since, and its expiry has not been taken -/
  startOpen : Bool
deriving DecidableEq, Repr

/-! ### Cycle tracker -/

/-- The work-cycle phases, in the order of their codes (R133). -/
inductive Phase where
  | unknown
  | parked
  | dig
  | lift
  | carry
  | dump
  | ret
deriving DecidableEq, Repr

/-- The cycle record (R126), fields in the order of its table. -/
structure CycleRecord where
  thetaDig : Int
  thetaCarry : Int
  tauDump : Int
  pDig : Nat
  parkedDwell : Nat
  digDwell : Nat
  liftDwell : Nat
  carryDwell : Nat
  dumpDwell : Nat
  returnDwell : Nat
deriving DecidableEq, Repr

structure Tracker where
  phase : Phase
  candidate : Option Phase
  pending : Option LiftResult
  cycleStart : Option TimeTag
  dumped : Bool
  figures : TrackerFigures
  params : CycleRecord
  /-- start requests sent to TD (log 25) -/
  starts : Nat
  /-- the last start request is open: no stop request has gone to TD since, and its expiry has not been taken -/
  startOpen : Bool
deriving DecidableEq, Repr

/-! ### Load accounting -/

/-- A target slot (R146). -/
structure TargetSlot where
  state : TargetState
  id : Nat
  capacity : Nat
  accumulated : Int
  buckets : Nat
  unweighed : Nat
  marginal : Nat
  folded : Nat
  foldedPayload : Int
  list : List BucketEntry
  opened : Clock
  firstBucket : Clock
  lastBucket : Clock
  overloaded : Bool
deriving DecidableEq, Repr

/-- A load record that joined the log (R161). -/
structure LoadRecord where
  sequence : Nat
  id : Nat
  capacity : Nat
  payload : Int
  buckets : Nat
  unweighed : Nat
  marginal : Nat
  opened : Clock
  closed : Clock
  cause : CloseCause
  overloaded : Bool
  shift : Word16
  missed : Nat
deriving DecidableEq, Repr

/-- The load log (R160), oldest record first. -/
structure LoadLog where
  records : List LoadRecord
  next : Nat
  missed : Nat
  spent : Bool
  inFlight : Bool
deriving DecidableEq, Repr

/-- The totals snapshot (R165). -/
structure Snapshot where
  latched : Bool
  totals : AccountFigures
  figures : TrackerFigures
  shift : Word16
  clock : Clock
  tag : TimeTag
deriving DecidableEq, Repr

/-- The accounting record (R145), in percent. -/
structure AccountRecord where
  full : Nat
  tolerance : Nat
deriving DecidableEq, Repr

structure Accounts where
  slots : Vector TargetSlot 4
  pointer : Option (Fin 4)
  overloadAhead : Bool
  log : LoadLog
  totals : AccountFigures
  shift : Word16
  snapshot : Snapshot
  params : AccountRecord
  openRefusals : Nat
  unknownDepartures : Nat
  unallocatedCredits : Nat
deriving DecidableEq, Repr

/-! ### Overlay and report engine -/

/-- The overlay items, in the order of R169. -/
inductive Item where
  | accPayload
  | remaining
  | targetFill
  | buckets
  | lastBucket
  | pending
  | bucketFill
  | targetId
  | targetSlot
  | phase
  | shiftPayload
  | shiftLoads
  | shiftCycles
  | meanCycle
  | statusBits
deriving DecidableEq, Repr

/-- An overlay entry (R168): `wide` is width 4, otherwise 2; `fill` is FILL, otherwise LEAVE. -/
structure OverlayEntry where
  enable : Bool
  set : Nat
  offset : Nat
  wide : Bool
  item : Item
  divisor : Nat
  fill : Bool
deriving DecidableEq, Repr

inductive Route where
  | off
  | mp
  | dp
  | both
deriving DecidableEq, Repr

/-- The report kinds, in the order of R173. -/
inductive ReportKind where
  | liftResult
  | bucket
  | target
  | load
  | shift
  | status
  | fault
  | cal
deriving DecidableEq, Repr

/-- The state of a LOAD report copy (R179). -/
inductive CopyState where
  | absent
  | queued
  | completed
  | discarded
deriving DecidableEq, Repr

/-- An open shift assembly (R176). -/
structure Assembly where
  closing : Word16
  tracker : Option TrackerFigures
  account : Option AccountFigures
deriving DecidableEq, Repr

structure Reports where
  overlay : Vector OverlayEntry 16
  routes : Vector Route 8
  nodes : PerPort (BitVec 4)
  tags : PerPort Byte
  memory : PerPort (Option (Vector (Option Int) 8))
  changes : PerPort Nat
  drain : PerPort CopyState
  assembly : Option Assembly
  lastClosing : Option Word16
deriving DecidableEq, Repr

/-! ### Management unit -/

inductive ConfigState where
  | unconfigured
  | config
  | run
deriving DecidableEq, Repr

/-- The management unit; a set of command groups has bit 0 INFO, 1 OPERATE, 2 CONFIG, 3 CONTROL (R185, R192). -/
structure Management where
  config : ConfigState
  written : PerPort (BitVec 4)
  inForce : PerPort (BitVec 4)
  faults : FaultSet
deriving DecidableEq, Repr

/-! ### The whole part -/

/-- The state of the part. `handed` holds the requests that one block has handed to another and that are not yet
taken, in the order of handing; `pending` the commands that wait, the first to be taken first. -/
structure State where
  link : Link
  sig : Signals
  acq : Acquisition
  time : TimeBase
  weigh : Weighing
  cal : Calibration
  trk : Tracker
  acc : Accounts
  rep : Reports
  mgt : Management
  handed : List Instr
  pending : List Instr
deriving DecidableEq, Repr

/-- The part never stops: the spec gives every command an outcome (00, Refusals), so no step raises a fault. -/
inductive Fault where
deriving DecidableEq, Repr

/-- Why the model has no meaning for a command. -/
inductive Refusal where
  /-- Raised by `exec` alone, for a row whose meaning is not written yet. Safe: the model stops where the part goes
  on. -/
  | notModelled (mnemonic : String)
deriving DecidableEq, Repr

/-! ### Power reset -/

/-- All six fields 0: the clock value while the clock is invalid (R146). -/
def Clock.zero : Clock := ⟨0, 0, 0, 0, 0, 0⟩

/-- A FREE slot: every field 0 or clear (R146). -/
def TargetSlot.free : TargetSlot :=
  ⟨.free, 0, 0, 0, 0, 0, 0, 0, 0, [], Clock.zero, Clock.zero, Clock.zero, false⟩

def TrackerFigures.zero : TrackerFigures := ⟨0, 0, 0, 0, 0, 0⟩

def AccountFigures.zero : AccountFigures := ⟨0, 0, 0, 0, 0⟩

def Timer.off : Timer := ⟨0, 0, false, 0⟩

/-- Power-reset content of a calibration record (R109). -/
def CalRecord.initial : CalRecord :=
  ⟨Vector.replicate 16 none, Vector.replicate 16 none, 0, 0, 0, 0⟩

/-- A cleared window record (R107; log 2). -/
def WindowRecord.cleared : WindowRecord :=
  ⟨0, 0, 0, false, CalRecord.initial, 0, Vector.replicate 16 ⟨0, 0, 0⟩, none, none, 0, 0, false, 0⟩

def LinkCounters.zero : LinkCounters := ⟨0, 0, 0, 0, 0, 0, 0, 0⟩

/-- The power-reset match entry: disabled, EXTRACT with no fields (R46). -/
def MatchEntry.initial : MatchEntry :=
  ⟨false, .fromMp, 0, 0, 0, 0, 0, 0, 0, false, .extract []⟩

def KeyEntry.initial : KeyEntry := ⟨false, 0, .nextTarget⟩

def SlotConfig.initial : SlotConfig := ⟨1, 0, 0, 0⟩

def SlotLive.initial : SlotLive := ⟨0, 0, .never, 0, .unset, none⟩

def SampleWord.unused : SampleWord := ⟨none, 0, false, false, none⟩

def ResultEntry.initial : ResultEntry := ⟨0, 0, false⟩

def QueueSetup.initial : QueueSetup := ⟨.off, .command, false, 0⟩

def WeighRecord.zero : WeighRecord := ⟨0, 0, 0, 0, 0, 0, 0, 0, 0, 0, 0, 0, 0, 0, 0, 0, 0⟩

def CycleRecord.zero : CycleRecord := ⟨0, 0, 0, 0, 0, 0, 0, 0, 0, 0⟩

def RunRecord.initial : RunRecord :=
  ⟨.empty, false, 0, 0, 0, 0, Vector.replicate 16 0, Vector.replicate 16 0, 0, .config⟩

/-- The power-reset overlay entry (R168). -/
def OverlayEntry.initial : OverlayEntry := ⟨false, 0, 0, false, .phase, 1, false⟩

/-- The node number the straps give (R4): 15 is taken as 14. -/
def nodeOfStraps (straps : BitVec 4) : BitVec 4 := if straps = 15 then 14 else straps

/-- The link unit after a power reset (R25). -/
def Link.initial (straps : BitVec 4) : Link :=
  { straps := straps
    node := nodeOfStraps straps
    relay := .takeover
    ingress := ⟨⟨.hunt false, 0, 0⟩, ⟨.hunt false, 0, 0⟩⟩
    relayQ := ⟨[], []⟩
    origQ := ⟨[], []⟩
    egress := ⟨⟨none, 0, 0, 0⟩, ⟨none, 0, 0, 0⟩⟩
    limit := .stopped
    gapInUse := 4
    gapEntry := 4
    counters := ⟨LinkCounters.zero, LinkCounters.zero⟩ }

/-- The matcher and the signal table after a power reset (R45, R46). -/
def Signals.initial : Signals :=
  { matchTable := Vector.replicate 24 MatchEntry.initial
    keyMap := Vector.replicate 16 KeyEntry.initial
    roles := Vector.replicate 7 none
    config := Vector.replicate 32 SlotConfig.initial
    slots := Vector.replicate 32 SlotLive.initial
    counters := ⟨0, 0, 0⟩ }

/-- The acquisition unit after a power reset (R72). -/
def Acquisition.initial : Acquisition :=
  { words := Vector.replicate 48 SampleWord.unused
    boundary := 24
    results := Vector.replicate 48 ResultEntry.initial
    setup := ⟨QueueSetup.initial, QueueSetup.initial⟩
    queues := ⟨⟨.off, 0, 0, false, false, false⟩, ⟨.off, 24, 24, false, false, false⟩⟩
    conversion := none
    released := false
    freeReads := 0 }

/-- The time base after a power reset (R86). -/
def TimeBase.initial : TimeBase :=
  { tag := 0
    timers := ⟨Timer.off, Timer.off, Timer.off, Timer.off, Timer.off⟩
    timerTable := Vector.replicate 3 0
    clock := ⟨2000, 1, 1, 0, 0, 0⟩
    valid := false
    secondLeft := 1000000
    lastSecond := 0
    shiftTable := Vector.replicate 3 ⟨false, 0, 0⟩
    shiftNumber := 0 }

/-- The weighing engine after a power reset (R108). -/
def Weighing.initial : Weighing :=
  { params := WeighRecord.zero
    state := .disabled
    window := WindowRecord.cleared
    speed := none
    accel := none
    sequence := 0
    reversals := 0
    last := none }

/-- The calibration unit after a power reset (R109, R112, R125). -/
def Calibration.initial : Calibration :=
  { active := CalRecord.initial
    candidate := CalRecord.initial
    deadline := 0
    run := .off
    record := RunRecord.initial
    starts := 0
    startOpen := false }

/-- The cycle tracker after a power reset (R144). -/
def Tracker.initial : Tracker :=
  { phase := .unknown
    candidate := none
    pending := none
    cycleStart := none
    dumped := false
    figures := TrackerFigures.zero
    params := CycleRecord.zero
    starts := 0
    startOpen := false }

/-- Load accounting after a power reset (R167). -/
def Accounts.initial : Accounts :=
  { slots := Vector.replicate 4 TargetSlot.free
    pointer := none
    overloadAhead := false
    log := ⟨[], 1, 0, false, false⟩
    totals := AccountFigures.zero
    shift := 0
    snapshot := ⟨false, AccountFigures.zero, TrackerFigures.zero, 0, Clock.zero, 0⟩
    params := ⟨0, 0⟩
    openRefusals := 0
    unknownDepartures := 0
    unallocatedCredits := 0 }

/-- The overlay and report engine after a power reset (R181). -/
def Reports.initial : Reports :=
  { overlay := Vector.replicate 16 OverlayEntry.initial
    routes := Vector.replicate 8 .off
    nodes := ⟨15, 15⟩
    tags := ⟨0, 0⟩
    memory := ⟨none, none⟩
    changes := ⟨0, 0⟩
    drain := ⟨.absent, .absent⟩
    assembly := none
    lastClosing := none }

/-- The management unit after a power reset (R182, R185, R191): MP holds all four groups, DP INFO and OPERATE. -/
def Management.initial : Management :=
  { config := .unconfigured
    written := ⟨0b1111, 0b0011⟩
    inForce := ⟨0b1111, 0b0011⟩
    faults := 0 }

/-- The part right after a power reset that found these straps. -/
def State.afterPowerReset (straps : BitVec 4) : State :=
  { link := Link.initial straps
    sig := Signals.initial
    acq := Acquisition.initial
    time := TimeBase.initial
    weigh := Weighing.initial
    cal := Calibration.initial
    trk := Tracker.initial
    acc := Accounts.initial
    rep := Reports.initial
    mgt := Management.initial
    handed := []
    pending := [] }

/-- The machine right after reset, with every strap pin at 0 (log 1). -/
def State.reset : State := State.afterPowerReset 0

end Sys2Proof.Machine
end

