-- ==== Sys2Proof/Machine/Flags.lean ====
section
/-!
DEFINITION. Sets kept as bit masks (R192: "A set is a bit mask in which bit n stands for the n-th value listed"):
the fault set of R191, the reason set of R105, the command groups of R185; and the valid flag of a calibration
record (R110).
-/

namespace Sys2Proof.Machine

/-- The place of a fault flag in R191's table. -/
def faultIndex : FaultFlag → Nat
  | .mpDown => 0
  | .dpDown => 1
  | .toMpDrop => 2
  | .toDpDrop => 3
  | .reportDrop => 4
  | .signalStale => 5
  | .converterCheck => 6
  | .acqOverrun => 7
  | .targetsFull => 8
  | .unallocated => 9
  | .logMissed => 10
  | .overlayFit => 11
  | .calTimeout => 12

/-- Whether a fault flag is set. -/
def hasFault (set : FaultSet) (f : FaultFlag) : Bool := set.getLsbD (faultIndex f)

/-- The fault set with one flag set. -/
def addFault (set : FaultSet) (f : FaultFlag) : FaultSet := set ||| BitVec.twoPow 13 (faultIndex f)

/-- The place of a reason in R105's list. -/
def reasonIndex : Reason → Nat
  | .fewSamples => 0
  | .fewBins => 1
  | .liftSlow => 2
  | .liftFast => 3
  | .spread => 4
  | .tiltMoved => 5
  | .slope => 6
  | .accel => 7
  | .noCal => 8
  | .signalLost => 9
  | .range => 10

def hasReason (set : ReasonSet) (r : Reason) : Bool := set.getLsbD (reasonIndex r)

/-- The set of the reasons whose condition holds. -/
def reasonsHolding : List (Reason × Bool) → ReasonSet
  | [] => 0
  | (r, holds) :: rest =>
    if holds then reasonsHolding rest ||| BitVec.twoPow 11 (reasonIndex r) else reasonsHolding rest

/-- The command groups of R185. -/
inductive Group where
  | info
  | operate
  | config
  | control
deriving DecidableEq, Repr

def groupIndex : Group → Nat
  | .info => 0
  | .operate => 1
  | .config => 2
  | .control => 3

def hasGroup (set : BitVec 4) (g : Group) : Bool := set.getLsbD (groupIndex g)

/-- R − E of every bin is present and at least the minimum force delta (R110). -/
def CalRecord.deltasHold (c : CalRecord) : Bool :=
  (List.range 16).all fun b =>
    match c.empty[b]?, c.reference[b]? with
    | some (some e), some (some r) => decide ((c.minDelta : Int) ≤ r - e)
    | _, _ => false

/-- The valid flag of a calibration record, from its contents (R110; log 36). -/
def CalRecord.valid (c : CalRecord) : Bool :=
  c.deltasHold && decide (1 ≤ c.minDelta) && decide (500 ≤ c.mref ∧ c.mref ≤ 30000) && decide (c.rate ≠ 0)

end Sys2Proof.Machine
end

