-- ==== Sys2Proof/Machine/Ops.lean ====
section
/-!
DEFINITION. The operations the blocks share: exact arithmetic with the spec's roundings, access to one port, queue or
timer, the update of one block, handing and taking requests, fault flags, the check of a frame, the two kinds of link
queue, the timers, and reading a role's slot.
-/

namespace Sys2Proof

/-! ### One thing for each port or queue -/

def PerPort.get (x : PerPort α) : Port → α
  | .mp => x.mp
  | .dp => x.dp

def PerPort.set (x : PerPort α) (p : Port) (a : α) : PerPort α :=
  match p with
  | .mp => { x with mp := a }
  | .dp => { x with dp := a }

def PerQueue.get (x : PerQueue α) : QueueId → α
  | .fast => x.fast
  | .slow => x.slow

def PerQueue.set (x : PerQueue α) (q : QueueId) (a : α) : PerQueue α :=
  match q with
  | .fast => { x with fast := a }
  | .slow => { x with slow := a }

end Sys2Proof

namespace Sys2Proof.Machine

/-! ### Arithmetic -/

/-- A saturating counter of largest value `top` goes up by one (00, Counters). -/
def satInc (top n : Nat) : Nat := if n < top then n + 1 else top

/-- A saturating counter goes up by `k`. -/
def satAdd (top n k : Nat) : Nat := min top (n + k)

def clampInt (lo hi x : Int) : Int := if x < lo then lo else if hi < x then hi else x

/-- The signed 32-bit range (R40, R91, R161, R171). -/
def clampS32 (x : Int) : Int := clampInt (-2147483648) 2147483647 x

/-- A quotient truncated toward zero (R90, R97, R100, R169, R171). The divisor 0 gives a free value (log 6). -/
def truncDiv (a b : Int) : Int := if b = 0 then Config.quotientByZero a else a.tdiv b

/-- A quotient rounded to the nearest whole number, one half away from zero (R91). -/
def roundDiv (a b : Int) : Int :=
  if b = 0 then Config.quotientByZero a
  else a.sign * b.sign * ((2 * a.natAbs + b.natAbs) / (2 * b.natAbs) : Nat)

/-- The time from `earlier` to `later`, modulo 2^32 µs (R73). -/
def tagDiff (later earlier : TimeTag) : Nat := (later - earlier).toNat

/-! ### One port, one queue, one timer -/

def otherPort : Port → Port
  | .mp => .dp
  | .dp => .mp

def Timers.get (x : Timers) : TimerId → Timer
  | .tf => x.tf
  | .ts => x.ts
  | .tr => x.tr
  | .td => x.td
  | .tc => x.tc

def Timers.set (x : Timers) (i : TimerId) (t : Timer) : Timers :=
  match i with
  | .tf => { x with tf := t }
  | .ts => { x with ts := t }
  | .tr => { x with tr := t }
  | .td => { x with td := t }
  | .tc => { x with tc := t }

/-! ### One block -/

def State.onLink (f : Link → Link) (s : State) : State := { s with link := f s.link }
def State.onSig (f : Signals → Signals) (s : State) : State := { s with sig := f s.sig }
def State.onAcq (f : Acquisition → Acquisition) (s : State) : State := { s with acq := f s.acq }
def State.onTime (f : TimeBase → TimeBase) (s : State) : State := { s with time := f s.time }
def State.onWeigh (f : Weighing → Weighing) (s : State) : State := { s with weigh := f s.weigh }
def State.onCal (f : Calibration → Calibration) (s : State) : State := { s with cal := f s.cal }
def State.onTrk (f : Tracker → Tracker) (s : State) : State := { s with trk := f s.trk }
def State.onAcc (f : Accounts → Accounts) (s : State) : State := { s with acc := f s.acc }
def State.onRep (f : Reports → Reports) (s : State) : State := { s with rep := f s.rep }
def State.onMgt (f : Management → Management) (s : State) : State := { s with mgt := f s.mgt }

/-- Requests are handed on: they join the requests not yet taken, in order (log 4). -/
def State.hand (cs : List Instr) (s : State) : State := { s with handed := s.handed ++ cs }

/-- A command is taken: if it is a request that was handed, it is no longer outstanding (log 4). -/
def State.take (c : Instr) (s : State) : State := { s with handed := s.handed.erase c }

/-- A set request for a fault flag (R191, R177): a clear flag is set and a FAULT report request with the whole set is
handed on; a flag already set changes nothing. -/
def State.setFault (f : FaultFlag) (s : State) : State :=
  if hasFault s.mgt.faults f then s
  else
    let set := addFault s.mgt.faults f
    (s.onMgt fun m => { m with faults := set }).hand [.faultReport set]

/-! ### Frames -/

/-- One bit enters the check register (R3). -/
def crcBit (reg : BitVec 16) (bit : Bool) : BitVec 16 :=
  if reg.msb = bit then reg <<< 1 else (reg <<< 1) ^^^ 0x1021

/-- One byte enters the check register, most significant bit first (R3). -/
def crcByte (reg : BitVec 16) (b : Byte) : BitVec 16 :=
  [7, 6, 5, 4, 3, 2, 1, 0].foldl (fun r i => crcBit r (b.getLsbD i)) reg

/-- The check over bytes taken in order (R3). -/
def crc (bytes : List Byte) : BitVec 16 := bytes.foldl crcByte 0xFFFF

/-- The bytes with their check behind them, high byte first (R3). -/
def withCheck (bytes : List Byte) : List Byte :=
  bytes ++ [(crc bytes).extractLsb' 8 8, (crc bytes).extractLsb' 0 8]

/-- A frame of R192: header, payload and check. -/
def buildFrame (cls : Byte) (dst src : BitVec 4) (tag : Byte) (payload : List Byte) : List Byte :=
  withCheck ([cls, dst ++ src, tag, BitVec.ofNat 8 payload.length] ++ payload)

/-- The time a frame of this many frame bytes occupies the line, in µs: two markers more, 10 µs each (R2, R14). -/
def lineTime (frameBytes : Nat) : Nat := (frameBytes + 2) * 10

/-! ### Link queues -/

/-- The contacts are open and the part carries the traffic: RELAY and RELEASE (R18). -/
def carries : RelayState → Bool
  | .relay => true
  | .release => true
  | .bypass => false
  | .takeover => false

/-- The bypass contacts (R18). -/
def Link.contactsClosed (l : Link) : Bool := !carries l.relay

/-- The frame bytes a relay queue holds (R12). -/
def relayBytes (q : List RelayEntry) : Nat := (q.map fun e => e.bytes.length).sum

/-- A frame fits a relay queue of at most 8 frames and 512 frame bytes (R12). -/
def relayFits (q : List RelayEntry) (e : RelayEntry) : Bool :=
  decide (q.length + 1 ≤ 8 ∧ relayBytes q + e.bytes.length ≤ 512)

def isResponse (e : OrigEntry) : Bool := e.kind == .response

/-- The responses and the reports in an originate queue (R13, R24). -/
def responseCount (q : List OrigEntry) : Nat := q.countP isResponse

def reportCount (q : List OrigEntry) : Nat := q.countP fun e => !isResponse e

/-- An originate queue holds a response (R186). -/
def holdsResponse (q : List OrigEntry) : Bool := q.any isResponse

/-- A port has room for a report: fewer than 11 reports and fewer than 12 frames, and not in BYPASS (R13). -/
def Link.hasRoom (l : Link) (p : Port) : Bool :=
  l.relay != .bypass && decide (reportCount (l.origQ.get p) < 11 ∧ (l.origQ.get p).length < 12)

/-- An entry joins the tail of a port's originate queue (R13). -/
def Link.joinOriginate (l : Link) (p : Port) (e : OrigEntry) : Link :=
  { l with origQ := l.origQ.set p (l.origQ.get p ++ [e]) }

/-- One port's counters change. -/
def Link.count (l : Link) (p : Port) (f : LinkCounters → LinkCounters) : Link :=
  { l with counters := l.counters.set p (f (l.counters.get p)) }

/-- The fault flag of a drop at the relay queue toward a port (R12). -/
def dropFault : Port → FaultFlag
  | .mp => .toMpDrop
  | .dp => .toDpDrop

/-- A frame accepted at port `from` is offered to the relay queue toward the other port: it joins, or is dropped
whole, counted at `from` and reported by TO_DP_DROP or TO_MP_DROP (R12). -/
def State.offerRelay (src : Port) (e : RelayEntry) (s : State) : State :=
  let dst := otherPort src
  if relayFits (s.link.relayQ.get dst) e then
    s.onLink fun l => { l with relayQ := l.relayQ.set dst (l.relayQ.get dst ++ [e]) }
  else
    (s.onLink fun l => l.count src fun c => { c with relayDrops := satInc 65535 c.relayDrops }).setFault
      (dropFault dst)

/-! ### Timers -/

/-- The unit of a timer in µs (R74). -/
def timerUnit : TimerId → Nat
  | .tc => 1000000
  | .tf => 1000
  | .ts => 1000
  | .tr => 1000
  | .td => 1000

/-- The count of a timer: the time left in units, rounded up; 0 while stopped (R74). -/
def timerCount (i : TimerId) (t : Timer) : Nat :=
  if t.running then (t.left + timerUnit i - 1) / timerUnit i else 0

/-- A timer starts from its reload; with reload 0 it is left stopped (R74). -/
def startTimer (i : TimerId) (t : Timer) : Timer :=
  if t.reload = 0 then { t with left := 0, running := false }
  else { t with left := t.reload * timerUnit i, running := true }

/-- A timer stops; its reload is kept (R74). -/
def stopTimer (t : Timer) : Timer := { t with left := 0, running := false }

/-- A reload write reaches a periodic timer (R75): 0 stops it, any other value waits for the next load. -/
def writeReload (v : Nat) (t : Timer) : Timer :=
  if v = 0 then { stopTimer t with reload := 0 } else { t with reload := v }

/-- A start request reaches a timer (R74, R76): the reload it carries, if any, is taken first. -/
def takeStart (i : TimerId) (reload : Option Nat) (start : Nat) (t : Timer) : Timer :=
  match reload with
  | none => { startTimer i t with start := start }
  | some r => { startTimer i { t with reload := r } with start := start }

/-- A timer is running and its expiry is due (R74; log 7). -/
def timerDue (t : Timer) : Bool := t.running && t.left == 0

/-! ### Roles, slots, the clock -/

def roleIndex : Role → Nat
  | .headP => 0
  | .rodP => 1
  | .boom => 2
  | .tilt => 3
  | .speed => 4
  | .pitch => 5
  | .park => 6

/-- The slot a role is mapped to (R43). -/
def Signals.slotOf (g : Signals) (r : Role) : Option (Fin 32) := (g.roles[roleIndex r]?).getD none

/-- The live part of the slot a role is mapped to. -/
def Signals.liveOf (g : Signals) (r : Role) : Option SlotLive :=
  (g.slotOf r).map fun i => g.slots[i]

/-- A role is mapped and its slot is FRESH. -/
def Signals.freshOf (g : Signals) (r : Role) : Bool :=
  match g.liveOf r with
  | some v => v.fresh == .fresh
  | none => false

/-- The value of a role's slot; 0 for an unmapped role, which no rule reads. -/
def Signals.valueOf (g : Signals) (r : Role) : Int :=
  match g.liveOf r with
  | some v => v.value
  | none => 0

/-- The clock value now: the six fields, or all 0 while the clock is invalid (R146). -/
def TimeBase.clockValue (t : TimeBase) : Clock := if t.valid then t.clock else Clock.zero

end Sys2Proof.Machine
end

