-- ==== Sys2Proof/Machine/Calibration.lean ====
section
/-!
DEFINITION. The calibration unit (06): starting, collecting, deciding and ending runs, and the CAL reports.
-/

namespace Sys2Proof.Machine

/-- A change of run state is recorded with its cause and reported (R124). -/
def State.changeRun (run : RunState) (cause : CalCause) (s : State) : State :=
  let s := s.onCal fun c => { c with run := run, record := { c.record with cause := cause } }
  s.hand [.calReport
    { run := run
      cause := cause
      kind := s.cal.record.kind
      keyStarted := s.cal.record.keyStarted
      accepted := s.cal.record.accepted
      refused := s.cal.record.refused
      candidateValid := s.cal.candidate.valid
      activeValid := s.cal.active.valid }]

/-- A start request to TC with the deadline of entry 17 (R113, R114; log 25). -/
def State.startDeadline (s : State) : State :=
  (s.onCal fun c => { c with starts := c.starts + 1, startOpen := true }).hand
    [.timerStart .tc (some s.cal.deadline) (s.cal.starts + 1)]

/-- A stop request to TC. -/
def State.stopDeadline (s : State) : State :=
  (s.onCal fun c => { c with startOpen := false }).hand [.timerStop .tc]

/-- The run record of a run that starts (R112). -/
def RunRecord.begin (kind : CalKind) (key : Bool) (lifts mref : Nat) : RunRecord :=
  { RunRecord.initial with kind := kind, keyStarted := key, lifts := lifts, mref := mref }

/-- A run starts (R113, R114). -/
def State.startRun (kind : CalKind) (key : Bool) (lifts mref : Nat) (s : State) : State :=
  let s := s.onCal fun c => { c with candidate := c.active, record := RunRecord.begin kind key lifts mref }
  s.startDeadline.changeRun .collecting .started

/-- A ZERO key (R114), taken in RUN (log 23). -/
def State.zeroKey (s : State) : State :=
  if s.mgt.config = .run ∧ s.cal.run = .off ∧ s.cal.active.valid then s.startRun .zero true 1 0 else s

/-- ZERO (R114). -/
def execZero (s : State) : Host.Outcome State Fault Refusal := .next (s.take .zero).zeroKey

/-! ### Collecting (R115 to R118) -/

/-- The reasons that refuse a result (R115): every reason but LIFT_SLOW, LIFT_FAST and NO_CAL. A flagged result never
holds the first two; the rule gives no case for one that does (log 29). -/
def refusingReasons : List Reason :=
  [.fewSamples, .fewBins, .spread, .tiltMoved, .slope, .accel, .signalLost, .range]

def refusedByReason (r : LiftResult) : Bool := refusingReasons.any (hasReason r.reasons)

/-- The new zero offset an accepted ZERO lift gives (R117). -/
def Calibration.newZero (c : Calibration) (payload : Int) : Int := c.candidate.zeroOffset - payload

/-- A flagged result is accepted by the run (R115). -/
def Calibration.accepts (c : Calibration) (r : LiftResult) : Bool :=
  !refusedByReason r &&
    match c.record.kind, r.payload with
    | .zero, some p => decide (-30000 ≤ c.newZero p ∧ c.newZero p ≤ 30000)
    | .zero, none => false
    | .empty, _ => true
    | .reference, _ => true

/-- The bin sums, bin lift counts and rate sum take an accepted result of an EMPTY or REFERENCE run (R115). -/
def RunRecord.gather (k : RunRecord) (r : LiftResult) (forces : BinForces) : RunRecord :=
  match k.kind with
  | .zero => k
  | .empty | .reference =>
    { k with
      binSums := k.binSums.zipWith (fun sum f => sum + f.getD 0) forces
      binLifts := k.binLifts.zipWith (fun n f => if f.isSome then n + 1 else n) forces
      rateSum := k.rateSum + r.rate.getD 0 }

/-- The forces a run has learnt: a bin is kept when at least half the lifts, rounded up, covered it (R116). -/
def RunRecord.learnt (k : RunRecord) : Vector (Option Int) 16 :=
  k.binSums.zipWith (fun sum n => if (k.lifts + 1) / 2 ≤ n then some (roundDiv sum n) else none) k.binLifts

/-- The candidate at the end of collection (R116, R117). -/
def Calibration.finish (c : Calibration) (r : LiftResult) : CalRecord :=
  match c.record.kind with
  | .empty =>
    { c.candidate with empty := c.record.learnt, rate := (roundDiv c.record.rateSum c.record.lifts).toNat }
  | .reference => { c.candidate with reference := c.record.learnt, mref := c.record.mref }
  | .zero => { c.candidate with zeroOffset := c.newZero (r.payload.getD 0) }

/-- The active record takes the candidate's contents (R118, R119). -/
def Calibration.adopt (c : Calibration) : Calibration := { c with active := c.candidate }

/-- A key-started run decides itself (R118). -/
def State.decideRun (s : State) : State :=
  if s.cal.candidate.zeroOffset.natAbs ≤ s.weigh.params.zeroLimit then
    (s.onCal Calibration.adopt).changeRun .off .accepted
  else s.changeRun .off .discarded

/-- Collection ends (R116, R117). -/
def State.endCollection (r : LiftResult) (s : State) : State :=
  let s := (s.onCal fun c => { c with candidate := c.finish r }).stopDeadline
  if s.cal.record.keyStarted then s.decideRun else s.changeRun .review .collected

/-- A flagged result is taken (R115). -/
def State.takeCalLift (r : LiftResult) (forces : BinForces) (s : State) : State :=
  if s.cal.run = .collecting then
    if s.cal.accepts r then
      let s := s.onCal fun c =>
        { c with record := { c.record.gather r forces with accepted := c.record.accepted + 1 } }
      if s.cal.record.accepted = s.cal.record.lifts then s.endCollection r else s
    else s.onCal fun c => { c with record := { c.record with refused := satInc 255 c.record.refused } }
  else s

/-- CAL_LIFT (R115). -/
def execCalLift (r : LiftResult) (forces : BinForces) (s : State) : Host.Outcome State Fault Refusal :=
  .next (State.takeCalLift r forces (s.take (.calLift r forces)))

/-! ### Ending a run (R119, R120, R122, R123) -/

/-- CAL_ACCEPT of a valid candidate in REVIEW (R119). -/
def State.acceptRun (s : State) : State := (s.onCal Calibration.adopt).changeRun .off .accepted

/-- CAL_DISCARD in REVIEW or COLLECTING (R120). -/
def State.discardRun (s : State) : State :=
  (if s.cal.run = .collecting then s.stopDeadline else s).changeRun .off .discarded

/-- A TC expiry (R122): it counts only if it answers the last start request and no stop request has gone to TC
since. -/
def State.takeDeadline (start : Nat) (s : State) : State :=
  if s.cal.startOpen ∧ start = s.cal.starts then
    let s := s.onCal fun c => { c with startOpen := false }
    if s.cal.run = .collecting then (s.setFault .calTimeout).changeRun .off .timeout else s
  else s

/-- CAL_DEADLINE (R122). -/
def execCalDeadline (start : Nat) (s : State) : Host.Outcome State Fault Refusal :=
  .next (State.takeDeadline start (s.take (.calDeadline start)))

/-- ENTER_CONFIG and SOFT_RESET end a run (R123). -/
def State.endRunByConfig (s : State) : State :=
  match s.cal.run with
  | .off => s
  | .collecting => s.stopDeadline.changeRun .off .config
  | .review => s.stopDeadline.changeRun .off .config

/-- The records after a SOFT_RESET (R123, R125). The numbering of the starts goes on (log 25). -/
def Calibration.softReset (c : Calibration) : Calibration :=
  { Calibration.initial with starts := c.starts, startOpen := c.startOpen }

end Sys2Proof.Machine
end

