-- ==== Sys2Proof/Machine/SignalTable.lean ====
section
/-!
DEFINITION. The signal table (02, sections 2.7 to 2.9): scaling, slot writes, staleness and the notifications to the
engines.
-/

namespace Sys2Proof.Machine

/-- The stored value of a raw value: multiplied, shifted with rounding toward minus infinity, offset added, clamped
(R40). -/
def scale (c : SlotConfig) (raw : Int) : Int := clampS32 (raw * c.gain / 2 ^ c.shift + c.offset)

/-- A raw value that is to be written to a slot, with its source. -/
structure SlotWrite where
  slot : Fin 32
  raw : Int
  source : WriteSource
deriving DecidableEq, Repr

/-- The live part of a slot after a write (R40). A write with timeout 0 leaves no timer running (R41). -/
def SlotLive.write (v : SlotLive) (c : SlotConfig) (raw : Int) (tag : TimeTag) (source : WriteSource) : SlotLive :=
  { value := scale c raw
    tag := tag
    fresh := .fresh
    writes := v.writes + 1
    source := source
    timer := if c.timeout = 0 then none else some ⟨0, c.timeout⟩ }

def Signals.writeSlot (tag : TimeTag) (g : Signals) (w : SlotWrite) : Signals :=
  { g with slots := g.slots.set w.slot (g.slots[w.slot].write g.config[w.slot] w.raw tag w.source) }

/-- The roles in the order of R43. -/
def allRoles : List Role := [.headP, .rodP, .boom, .tilt, .speed, .pitch, .park]

/-- The notifications of a write of a slot mapped to a role (R44). -/
def writeNotices (v : SlotLive) : Role → List Instr
  | .boom => [.weighSample v.value v.tag, .candidateEvaluation (.written .boom v.value v.tag)]
  | .speed => [.speedSample v.value v.tag]
  | .tilt => [.candidateEvaluation (.written .tilt v.value v.tag)]
  | .headP => [.candidateEvaluation (.written .headP v.value v.tag)]
  | .park => [.candidateEvaluation (.written .park v.value v.tag)]
  | .rodP => []
  | .pitch => []

/-- The roles mapped to a slot. R43 allows at most one in RUN. -/
def Signals.rolesOf (g : Signals) (slot : Fin 32) : List Role :=
  allRoles.filter fun r => g.slotOf r == some slot

/-- The notifications of a slot just written (R44). -/
def Signals.noticesOf (g : Signals) (slot : Fin 32) : List Instr :=
  (g.rolesOf slot).flatMap fun r => writeNotices g.slots[slot] r

/-- Slots are written together; then, in RUN, the notifications of each follow (R32, R40, R44; log 22). -/
def State.writeSlots (ws : List SlotWrite) (s : State) : State :=
  let g := ws.foldl (Signals.writeSlot s.time.tag) s.sig
  let s := { s with sig := g }
  if s.mgt.config = .run then s.hand (ws.flatMap fun w => g.noticesOf w.slot) else s

/-- A running staleness timer has reached its timeout (R41). -/
def SlotLive.staleDue (v : SlotLive) : Bool :=
  match v.timer with
  | some t => decide (t.limit * 1000 ≤ t.elapsed)
  | none => false

/-- What the expiry of a slot mapped to a role raises (R44). -/
def State.raiseStale (r : Role) (s : State) : State :=
  match r with
  | .headP => (s.setFault .signalStale).hand [.weighStaleNotice .headP, .candidateEvaluation (.stale .headP)]
  | .rodP => (s.setFault .signalStale).hand [.weighStaleNotice .rodP, .candidateEvaluation (.stale .rodP)]
  | .boom => (s.setFault .signalStale).hand [.weighStaleNotice .boom, .candidateEvaluation (.stale .boom)]
  | .tilt => (s.setFault .signalStale).hand [.weighStaleNotice .tilt, .candidateEvaluation (.stale .tilt)]
  | .park => s.hand [.candidateEvaluation (.stale .park)]
  | .speed => s
  | .pitch => s

/-- The current acceleration is made absent when the SPEED slot goes STALE (R97; log 47). -/
def State.dropAccel (slot : Fin 32) (s : State) : State :=
  s.onWeigh fun w => { w with accel := if s.sig.slotOf .speed = some slot then none else w.accel }

/-- A slot's staleness timer expires (R41): FRESH becomes STALE and the timer stops, a SPEED slot takes the current
acceleration with it (R97); in RUN the notification follows. -/
def State.expireSlot (slot : Fin 32) (s : State) : State :=
  if s.sig.slots[slot].staleDue then
    let s := s.onSig fun g => { g with slots := g.slots.set slot { g.slots[slot] with fresh := .stale, timer := none } }
    let s := s.dropAccel slot
    if s.mgt.config = .run then (s.sig.rolesOf slot).foldl (fun s r => s.raiseStale r) s else s
  else s

/-- STALENESS_EXPIRY (R41, R44, R97). -/
def execStalenessExpiry (slot : Fin 32) (s : State) : Host.Outcome State Fault Refusal :=
  .next (State.expireSlot slot (s.take (.stalenessExpiry slot)))

/-- FAULT_SET (R191, R177). -/
def execFaultSet (f : FaultFlag) (s : State) : Host.Outcome State Fault Refusal :=
  .next (State.setFault f (s.take (.faultSet f)))

/-- A successful COMMIT: every slot becomes NEVER and its timer stops (R45). -/
def Signals.commit (g : Signals) : Signals :=
  { g with slots := g.slots.map fun v => { v with fresh := .never, timer := none } }

/-- SOFT_RESET: the tables and the live parts are as at power reset, the matcher counters kept (R38, R45). -/
def Signals.softReset (g : Signals) : Signals := { Signals.initial with counters := g.counters }

end Sys2Proof.Machine
end

