-- ==== Sys2Proof/Machine/Acquisition.lean ====
section
/-!
DEFINITION. The acquisition unit (03): the converter, its arbiter, the sample queues, triggers, completion and the
command control of the queues.
-/

namespace Sys2Proof.Machine

/-! ### Words and ranges (R47, R49, R50) -/

/-- The time of one conversion in µs (R47). -/
def conversionTime (settle : Nat) : Nat := 4 * 2 ^ settle + 12

def Acquisition.word (a : Acquisition) (w : Nat) : SampleWord := (a.words[w]?).getD SampleWord.unused

/-- The first word of a queue's range (R50). -/
def Acquisition.firstWord (a : Acquisition) : QueueId → Nat
  | .fast => 0
  | .slow => a.boundary

/-- The highest word of a queue's range (R50). -/
def Acquisition.highWord (a : Acquisition) : QueueId → Nat
  | .fast => a.boundary - 1
  | .slow => 47

/-- A completed word is its queue's final word (R50). -/
def Acquisition.isFinal (a : Acquisition) (q : QueueId) (w : Nat) : Bool :=
  (a.word w).last || w == a.highWord q || (a.word (w + 1)).channel.isNone

/-! ### Queues and the converter (R53 to R60) -/

def Acquisition.queue (a : Acquisition) (q : QueueId) : SampleQueue := a.queues.get q

def Acquisition.setQueue (a : Acquisition) (q : QueueId) (f : SampleQueue → SampleQueue) : Acquisition :=
  { a with queues := a.queues.set q (f (a.queues.get q)) }

/-- A queue becomes ACTIVE and the conversion of a word of it begins. -/
def Acquisition.convert (a : Acquisition) (q : QueueId) (w : Nat) : Acquisition :=
  { a.setQueue q fun x => { x with state := .active, position := w } with
    conversion := some ⟨q, w, conversionTime (a.word w).settle⟩ }

/-- A queue goes to a state with its position at its first word. -/
def Acquisition.park (a : Acquisition) (q : QueueId) (st : QueueState) : Acquisition :=
  a.setQueue q fun x => { x with state := st, position := a.firstWord q }

/-- A queue goes OFF with both word numbers at its first word (R65, R67). -/
def Acquisition.turnOff (a : Acquisition) (q : QueueId) : Acquisition :=
  a.setQueue q fun x => { x with state := .off, position := a.firstWord q, subStart := a.firstWord q }

/-- The start word of a trigger taken in IDLE or PAUSED (R56). -/
def Acquisition.startWord (a : Acquisition) (q : QueueId) : Nat :=
  match (a.queue q).state with
  | .paused => (a.queue q).position
  | .off => a.firstWord q
  | .idle => a.firstWord q
  | .active => a.firstWord q
  | .pending => a.firstWord q
  | .suspended => a.firstWord q

/-- A trigger starts a queue (R56, R58, R59): the fast queue preempts a slow conversion, the slow queue waits for a
fast one. -/
def Acquisition.start (a : Acquisition) (q : QueueId) : Acquisition :=
  let w := a.startWord q
  let a := a.setQueue q fun x => { x with subStart := w }
  match q with
  | .fast =>
    let a := if (a.queue .slow).state = .active then
        a.setQueue .slow fun x => { x with state := .suspended } else a
    a.convert .fast w
  | .slow =>
    if (a.queue .fast).state = .active then
      a.setQueue .slow fun x => { x with state := .pending, position := w }
    else a.convert .slow w

/-- The word at which a waiting slow queue takes the converter (R60). -/
def Acquisition.resumeWord (a : Acquisition) : Nat :=
  let x := a.queue .slow
  if x.state = .suspended ∧ a.setup.slow.resume = 1 then x.subStart else x.position

/-- The fast queue has left ACTIVE: a waiting slow queue takes the converter (R60). -/
def Acquisition.slowResume (a : Acquisition) : Acquisition :=
  match (a.queue .slow).state with
  | .suspended => a.convert .slow a.resumeWord
  | .pending => a.convert .slow a.resumeWord
  | .off => a
  | .idle => a
  | .active => a
  | .paused => a

/-- A queue that has been ACTIVE lets the converter go. -/
def Acquisition.leave (a : Acquisition) (q : QueueId) : Acquisition :=
  let a := { a with conversion := none }
  match q with
  | .fast => a.slowResume
  | .slow => a

/-- The state a queue takes at its end (R52, R62). A running queue's mode is never OFF (R64, R69). -/
def endState : QueueMode → QueueState
  | .single => .off
  | .continuous => .idle
  | .off => .off

/-- The queue continues after the completion of a word (R62). -/
def Acquisition.continueQueue (a : Acquisition) (q : QueueId) (w : Nat) : Acquisition :=
  if a.isFinal q w then
    ((a.park q (endState (a.setup.get q).mode)).setQueue q fun x => { x with complete := true }).leave q
  else if (a.word w).brk then
    (a.setQueue q fun x => { x with state := .paused, position := w + 1, pause := true }).leave q
  else a.convert q (w + 1)

/-- A trigger of a queue (R56, R57). -/
def State.triggerQueue (q : QueueId) (s : State) : State :=
  match (s.acq.queue q).state with
  | .off => s
  | .idle => s.onAcq fun a => a.start q
  | .paused => s.onAcq fun a => a.start q
  | .active => (s.onAcq fun a => a.setQueue q fun x => { x with overrun := true }).setFault .acqOverrun
  | .pending => (s.onAcq fun a => a.setQueue q fun x => { x with overrun := true }).setFault .acqOverrun
  | .suspended => (s.onAcq fun a => a.setQueue q fun x => { x with overrun := true }).setFault .acqOverrun

/-! ### Completion (R48, R61) -/

/-- The expected result of a reference channel (R47). -/
def expectedResult (channel : Fin 11) : Option Int :=
  if channel = 8 then some 0 else if channel = 9 then some 4095 else if channel = 10 then some 2048 else none

/-- A result fails the reference check of its channel (R48). -/
def referenceFails (channel : Option (Fin 11)) (raw : Int) : Bool :=
  match channel.bind expectedResult with
  | some e => decide (24 < (raw - e).natAbs)
  | none => false

/-- The result entry of a word is written (R51). -/
def Acquisition.record (a : Acquisition) (w : Nat) (raw : BitVec 12) (tag : TimeTag) : Acquisition :=
  { a with results := a.results.setIfInBounds w ⟨raw, tag, true⟩ }

/-- The reference check of a completed word (R48). -/
def State.referenceCheck (channel : Option (Fin 11)) (raw : Int) (s : State) : State :=
  if referenceFails channel raw then s.setFault .converterCheck else s

/-- The slot a completed word names, if any, is written (R61, step 3). -/
def State.writeDest (dest : Option (Fin 32)) (raw : Int) (word : Nat) (s : State) : State :=
  match dest with
  | some slot => s.writeSlots [⟨slot, raw, .word word⟩]
  | none => s

/-- The conversion in flight completes (R61). -/
def State.completeConversion (raw : BitVec 12) (s : State) : State :=
  match s.acq.conversion with
  | none => s
  | some c =>
    if c.left = 0 then
      let word := s.acq.word c.word
      (((s.onAcq fun a => a.record c.word raw s.time.tag).referenceCheck word.channel raw.toNat).writeDest word.dest
        raw.toNat c.word).onAcq fun a => a.continueQueue c.queue c.word
    else s

/-- CONVERSION_COMPLETE (R61). -/
def execConversionComplete (raw : BitVec 12) (s : State) : Host.Outcome State Fault Refusal :=
  .next (State.completeConversion raw (s.take (.conversionComplete raw)))

/-- An expiry of TF or TS is a trigger only of a queue whose trigger source is TIMER (R55). -/
def State.timerTrigger (q : QueueId) (s : State) : State :=
  if (s.acq.setup.get q).trigger = .timer then s.triggerQueue q else s

/-- QUEUE_TRIGGER (R55 to R57). -/
def execQueueTrigger (q : QueueId) (s : State) : Host.Outcome State Fault Refusal :=
  .next (State.timerTrigger q (s.take (.queueTrigger q)))

/-! ### Command control (R64, R65) -/

/-- ARM of a queue that is OFF takes it to IDLE; of any other it changes nothing (R64). -/
def Acquisition.armQueue (a : Acquisition) (q : QueueId) : Acquisition :=
  if (a.queue q).state = .off then a.park q .idle else a

/-- DISARM (R65): an ACTIVE queue's conversion is aborted, and a waiting slow queue takes the converter the fast
queue leaves. A queue that is OFF stays as it is. -/
def Acquisition.disarmQueue (a : Acquisition) (q : QueueId) : Acquisition :=
  if (a.queue q).state = .off then a
  else if (a.queue q).state = .active then (a.turnOff q).leave q
  else a.turnOff q

/-! ### Configuration events and the release of the line (R67 to R70, R72) -/

/-- Both queues OFF, any conversion aborted (R67). -/
def Acquisition.stopAll (a : Acquisition) : Acquisition :=
  { (a.turnOff .fast).turnOff .slow with conversion := none }

def Acquisition.softReset (a : Acquisition) : Acquisition :=
  { Acquisition.initial with released := a.released, freeReads := a.freeReads }

/-- The release of the line (R68). -/
def Acquisition.releaseLine (a : Acquisition) : Acquisition := { a.stopAll with released := true }

/-- Arming at a successful COMMIT, unless the line is released (R70). -/
def Acquisition.armAtCommit (a : Acquisition) (q : QueueId) : Acquisition :=
  if !a.released && (a.setup.get q).arm then a.park q .idle else a

def Acquisition.commit (a : Acquisition) : Acquisition := (a.stopAll.armAtCommit .fast).armAtCommit .slow

/-- Both queues are OFF, as a write to the SAMPLE and QUEUE tables needs (R49). -/
def Acquisition.bothOff (a : Acquisition) : Bool :=
  (a.queue .fast).state == .off && (a.queue .slow).state == .off

/-! ### Checks at COMMIT (R69) -/

/-- A word is unreachable: it has a channel, and a word below it in its queue's range has none. -/
def Acquisition.wordFails (a : Acquisition) (w : Nat) : Bool :=
  let first := if w < a.boundary then 0 else a.boundary
  (a.word w).channel.isSome && (List.range w).any fun v => decide (first ≤ v) && (a.word v).channel.isNone

/-- A queue setup record fails the QUEUE step. -/
def Acquisition.setupFails (a : Acquisition) (q : QueueId) : Bool :=
  let r := a.setup.get q
  (r.mode != .off && (a.word (a.firstWord q)).channel.isNone) || (r.arm && r.mode == .off)

end Sys2Proof.Machine
end

