-- ==== Sys2Proof/Machine/Accounting.lean ====
section
/-!
DEFINITION. Load accounting (08): target slots and bucket lists, crediting, opening, selecting, removing, closing,
the load log, the shift totals and the snapshot.
-/

namespace Sys2Proof.Machine

/-! ### Slots (R146 to R149) -/

def allSlots : List (Fin 4) := [0, 1, 2, 3]

def Accounts.slot (a : Accounts) (i : Fin 4) : TargetSlot := a.slots[i]

def Accounts.setSlot (a : Accounts) (i : Fin 4) (f : TargetSlot → TargetSlot) : Accounts :=
  { a with slots := a.slots.set i (f a.slots[i]) }

/-- A slot is OPEN or FULL. -/
def TargetSlot.held (t : TargetSlot) : Bool := t.state != .free

/-- The lowest-indexed FREE slot. -/
def Accounts.lowestFree (a : Accounts) : Option (Fin 4) := allSlots.find? fun i => !(a.slot i).held

/-- The lowest-indexed slot that is OPEN or FULL. -/
def Accounts.lowestHeld (a : Accounts) : Option (Fin 4) := allSlots.find? fun i => (a.slot i).held

/-- The slot that holds a non-zero id (R146). -/
def Accounts.holder (a : Accounts) (id : Nat) : Option (Fin 4) :=
  allSlots.find? fun i => (a.slot i).held && (a.slot i).id == id

/-- At the full figure (R145). -/
def TargetSlot.atFull (t : TargetSlot) (p : AccountRecord) : Bool :=
  decide ((t.capacity * p.full : Int) ≤ t.accumulated * 100)

/-- An accumulated payload is over the overload figure of a capacity (R145). -/
def overFigure (p : AccountRecord) (capacity : Nat) (accumulated : Int) : Bool :=
  decide ((capacity * (100 + p.tolerance) : Int) < accumulated * 100)

/-- The state and the overloaded flag of a non-FREE slot (R148). -/
def TargetSlot.evaluate (p : AccountRecord) (t : TargetSlot) : TargetSlot :=
  { t with
    state := if t.capacity ≠ 0 ∧ t.atFull p then .full else .opened
    overloaded := t.capacity != 0 && overFigure p t.capacity t.accumulated }

/-- The figures of a slot for a TARGET report (R149). -/
def Accounts.figures (a : Accounts) (i : Fin 4) : TargetFigures :=
  let t := a.slot i
  { slot := some i, state := t.state, id := t.id, capacity := t.capacity, accumulated := t.accumulated
    buckets := t.buckets, overloaded := t.overloaded, current := a.pointer == some i }

/-- The figures for the empty pointer (R149; log 20). -/
def noFigures : TargetFigures := ⟨none, .free, 0, 0, 0, 0, false, false⟩

/-- A TARGET report on a slot as it stands (log 21). -/
def Accounts.report (a : Accounts) (e : TargetEvent) (i : Fin 4) : Instr := .targetReport ⟨e, a.figures i, none⟩

/-- The SELECTED report on the pointer as it stands. -/
def Accounts.selectedReport (a : Accounts) : Instr :=
  .targetReport ⟨.selected, a.pointer.elim noFigures a.figures, none⟩

/-! ### Overload-ahead (R150) -/

/-- The payload of a pending lift of grade GOOD or MARGINAL. -/
def pendingPayload (pending : Option LiftResult) : Option Int :=
  pending.bind fun r => if r.grade = .rejected then none else some (r.payload.getD 0)

/-- Whether a pending payload would take the current target over its overload figure. -/
def overloadAhead (a : Accounts) (payload : Option Int) : Bool :=
  match a.pointer, payload with
  | some i, some p =>
    (a.slot i).capacity != 0 && overFigure a.params (a.slot i).capacity ((a.slot i).accumulated + p)
  | some _, none => false
  | none, some _ => false
  | none, none => false

def State.setAhead (payload : Option Int) (s : State) : State :=
  s.onAcc fun a => { a with overloadAhead := overloadAhead a payload }

/-- Overload-ahead is evaluated afresh, from the pending lift as it stands. -/
def State.evalAhead (s : State) : State := s.setAhead (pendingPayload s.trk.pending)

/-- The pending payload that a credit's evaluation finds: that of the tracker's pending lift, or, where the dump has
cleared it, of the credited lift, which is still pending then (R150; log 42). -/
def State.payloadAtCredit (c : Credit) (s : State) : Option Int :=
  match s.trk.pending with
  | some r => pendingPayload (some r)
  | none => if c.grade = .unweighed then none else some c.payload

/-- PENDING_LIFT_NOTICE (R150). -/
def execPendingLiftNotice (s : State) : Host.Outcome State Fault Refusal := .next (s.take .pendingLiftNotice).evalAhead

/-! ### Opening and selecting (R154 to R156) -/

/-- A FREE slot is opened (R154). -/
def Accounts.openSlot (a : Accounts) (i : Fin 4) (id capacity : Nat) (now : Clock) : Accounts :=
  a.setSlot i fun _ => { TargetSlot.free with state := .opened, id := id, capacity := capacity, opened := now }

def Accounts.select (a : Accounts) (i : Fin 4) : Accounts := { a with pointer := some i }

/-- A slot is opened, made current or not, and reported (R154, R155, R156). Overload-ahead is evaluated when the
pointer moves (R150). -/
def State.openTarget (i : Fin 4) (id capacity : Nat) (current : Bool) (s : State) : State :=
  let s := s.onAcc fun a =>
    let a := a.openSlot i id capacity s.time.clockValue
    if current then a.select i else a
  let s := s.hand [s.acc.report .opened i]
  if current then s.evalAhead else s

/-- A slot is selected; a SELECTED report follows if the pointer moved (R149, R156). -/
def State.selectTarget (i : Fin 4) (s : State) : State :=
  if s.acc.pointer = some i then s
  else
    let s := s.onAcc fun a => a.select i
    (s.hand [s.acc.selectedReport]).evalAhead

/-- An opening is refused for want of a FREE slot (R154, R156). -/
def State.refuseOpen (s : State) : State :=
  (s.onAcc fun a => { a with openRefusals := satInc 65535 a.openRefusals }).setFault .targetsFull

/-- SELECT_1 to SELECT_4 (R156). -/
def State.selectKey (i : Fin 4) (s : State) : State := if (s.acc.slot i).held then s.selectTarget i else s

/-- The slots NEXT_TARGET searches, in order (R156). -/
def nextOrder : Option (Fin 4) → List (Fin 4)
  | some i => [i + 1, i + 2, i + 3]
  | none => allSlots

def State.nextTarget (s : State) : State :=
  match (nextOrder s.acc.pointer).find? fun i => (s.acc.slot i).held with
  | some i => s.selectTarget i
  | none => s

def State.newTarget (s : State) : State :=
  match s.acc.lowestFree with
  | some i => s.openTarget i 0 0 true
  | none => s.refuseOpen

/-- SELECT_1 to SELECT_4 (R156). -/
def execSelectKey (i : Fin 4) (s : State) : Host.Outcome State Fault Refusal :=
  .next (State.selectKey i (s.take (.selectKey i)))

/-- NEXT_TARGET (R156). -/
def execNextTarget (s : State) : Host.Outcome State Fault Refusal := .next (s.take .nextTarget).nextTarget

/-- NEW_TARGET (R156). -/
def execNewTarget (s : State) : Host.Outcome State Fault Refusal := .next (s.take .newTarget).newTarget

/-- The capacity an arrival carries changes a held target's (R154). -/
def capacityChanges (t : TargetSlot) (capacity : Nat) : Bool := capacity != 0 && capacity != t.capacity

/-- A dispatch arrival for an id that a slot holds (R154). -/
def State.arriveHeld (i : Fin 4) (capacity : Nat) (s : State) : State :=
  let before := s.acc
  let changes := capacityChanges (before.slot i) capacity
  let s := s.onAcc fun a =>
    let a := a.select i
    if changes then a.setSlot i fun t => { t with capacity := capacity }.evaluate a.params else a
  (s.hand
    ((if before.pointer = some i then [] else [s.acc.selectedReport])
      ++ (if changes then [s.acc.report .capacity i] else [])
      ++ (if (before.slot i).state = (s.acc.slot i).state then [] else [s.acc.report .state i]))).evalAhead

/-- A dispatch arrival (R154). -/
def State.arrive (id capacity : Nat) (s : State) : State :=
  match s.acc.holder id with
  | some i => s.arriveHeld i capacity
  | none =>
    match s.acc.lowestFree with
    | some i => s.openTarget i id capacity true
    | none => s.refuseOpen

/-- DISPATCH_ARRIVAL (R154). -/
def execDispatchArrival (id capacity : Nat) (s : State) : Host.Outcome State Fault Refusal :=
  .next (State.arrive id capacity (s.take (.dispatchArrival id capacity)))

/-! ### Crediting (R147, R151, R152, R164) -/

/-- The entry a credit makes (R151). -/
def creditEntry (c : Credit) (shift : Word16) : BucketEntry :=
  match c.grade with
  | .good => ⟨c.sequence, c.payload, .good, c.tag, shift⟩
  | .marginal => ⟨c.sequence, c.payload, .marginal, c.tag, shift⟩
  | .unweighed => ⟨none, 0, .unweighed, c.tag, shift⟩

/-- 1 for an entry of a grade, otherwise 0. -/
def gradeCount (g : BucketGrade) (e : BucketEntry) : Nat := if e.grade = g then 1 else 0

/-- The oldest entry of a full list is folded (R147). -/
def TargetSlot.fold (t : TargetSlot) : TargetSlot :=
  match t.list with
  | [] => t
  | e :: rest =>
    if 12 ≤ t.list.length then
      { t with list := rest, folded := t.folded + 1, foldedPayload := t.foldedPayload + e.payload }
    else t

/-- An entry joins the tail of a list (R151, step 4). -/
def TargetSlot.append (e : BucketEntry) (now : Clock) (t : TargetSlot) : TargetSlot :=
  { t with
    list := t.list ++ [e]
    accumulated := t.accumulated + e.payload
    buckets := t.buckets + 1
    unweighed := t.unweighed + gradeCount .unweighed e
    marginal := t.marginal + gradeCount .marginal e
    firstBucket := if t.buckets = 0 then now else t.firstBucket
    lastBucket := now }

/-- The shift totals take a credited entry (R151, step 6). -/
def addToTotals (e : BucketEntry) (f : AccountFigures) : AccountFigures :=
  { f with
    weighed := f.weighed + e.payload
    buckets := satInc 4294967295 f.buckets
    unweighed := satAdd 4294967295 f.unweighed (gradeCount .unweighed e) }

/-- The BUCKET report on a slot as it stands (R151). -/
def Accounts.bucketReport (a : Accounts) (i : Fin 4) (e : BucketEntry) : Instr :=
  let t := a.slot i
  .bucketReport ⟨some i, e, t.accumulated, t.buckets, t.state, t.overloaded⟩

/-- An unallocated credit (R152; log 20). -/
def State.unallocated (c : Credit) (s : State) : State :=
  let e := creditEntry c s.acc.shift
  let s := (s.onAcc fun a =>
    { a with
      totals := { a.totals with unallocated := a.totals.unallocated + e.payload }
      unallocatedCredits := satInc 65535 a.unallocatedCredits }).setFault .unallocated
  s.hand [.bucketReport ⟨none, e, s.acc.totals.unallocated, 0, .free, false⟩]

/-- A credit lands in a slot that has room; `opening` tells that this credit opens the slot (R151). -/
def State.creditSlot (i : Fin 4) (opening : Bool) (c : Credit) (s : State) : State :=
  let now := s.time.clockValue
  let e := creditEntry c s.acc.shift
  let s := if opening then s.onAcc fun a => (a.openSlot i 0 0 now).select i else s
  let before := (s.acc.slot i).state
  let s := (s.onAcc fun a =>
    { a.setSlot i fun t => (t.fold.append e now).evaluate a.params with totals := addToTotals e a.totals }).setAhead
      (s.payloadAtCredit c)
  s.hand
    ((if opening then [s.acc.report .opened i] else [])
      ++ [s.acc.bucketReport i e]
      ++ (if before = (s.acc.slot i).state then [] else [s.acc.report .state i]))

/-- A bucket credit (R151, R152). -/
def State.credit (c : Credit) (s : State) : State :=
  match s.acc.pointer with
  | some i => if 65535 ≤ (s.acc.slot i).buckets then s.unallocated c else s.creditSlot i false c
  | none =>
    match s.acc.lowestFree with
    | some i => s.creditSlot i true c
    | none => s.unallocated c

/-- BUCKET_CREDIT (R151). -/
def execBucketCredit (c : Credit) (s : State) : Host.Outcome State Fault Refusal :=
  .next (State.credit c (s.take (.bucketCredit c)))

/-! ### Removing (R157) -/

/-- The tail entry of the current target's list, with its slot. -/
def Accounts.lastBucket (a : Accounts) : Option (Fin 4 × BucketEntry) :=
  a.pointer.bind fun i => (a.slot i).list.getLast?.map fun e => (i, e)

/-- The tail entry leaves a list (R157, step 1). -/
def TargetSlot.removeLast (e : BucketEntry) (t : TargetSlot) : TargetSlot :=
  { t with
    list := t.list.dropLast
    accumulated := t.accumulated - e.payload
    buckets := t.buckets - 1
    unweighed := t.unweighed - gradeCount .unweighed e
    marginal := t.marginal - gradeCount .marginal e }

/-- The shift totals give back an entry credited in this shift (R157, step 2). -/
def giveBack (shift : Word16) (e : BucketEntry) (f : AccountFigures) : AccountFigures :=
  if e.shift = shift then
    { f with
      weighed := f.weighed - e.payload
      buckets := f.buckets - 1
      unweighed := f.unweighed - gradeCount .unweighed e }
  else f

/-- An entry is removed from the tail of a slot (R157). -/
def State.removeBucket (i : Fin 4) (e : BucketEntry) (s : State) : State :=
  let before := (s.acc.slot i).state
  let s := (s.onAcc fun a =>
    { a.setSlot i fun t => (t.removeLast e).evaluate a.params with totals := giveBack a.shift e a.totals }).evalAhead
  s.hand
    ([.targetReport ⟨.removed, s.acc.figures i, some e⟩]
      ++ (if before = (s.acc.slot i).state then [] else [s.acc.report .state i]))

/-- The DELETE_LAST key (R157). -/
def State.deleteLast (s : State) : State :=
  match s.acc.lastBucket with
  | some (i, e) => s.removeBucket i e
  | none => s

/-- DELETE_LAST (R157). -/
def execDeleteLast (s : State) : Host.Outcome State Fault Refusal := .next (s.take .deleteLast).deleteLast

/-! ### The load log (R160 to R162) -/

/-- The load record of a slot (R161). -/
def TargetSlot.record (t : TargetSlot) (log : LoadLog) (cause : CloseCause) (now : Clock) (shift : Word16) :
    LoadRecord :=
  { sequence := log.next, id := t.id, capacity := t.capacity, payload := clampS32 t.accumulated
    buckets := t.buckets, unweighed := t.unweighed, marginal := t.marginal, opened := t.opened, closed := now
    cause := cause, overloaded := t.overloaded, shift := shift, missed := log.missed }

/-- A record that is built takes the next load sequence, unless the sequence is spent (R160). -/
def LoadLog.takeSequence (log : LoadLog) : LoadLog :=
  if log.spent then log
  else if log.next = 4294967295 then { log with spent := true }
  else { log with next := log.next + 1 }

/-- The log has room for a record (R161). -/
def LoadLog.accepts (log : LoadLog) : Bool := decide (log.records.length < 16) && !log.spent

/-- A record is offered to the log: it joins, and a drain attempt follows (R179), or it is discarded (R161). -/
def State.offerLoad (r : LoadRecord) (s : State) : State :=
  if s.acc.log.accepts then
    (s.onAcc fun a =>
      { a with log := { a.log.takeSequence with records := a.log.records ++ [r], missed := 0 } }).hand [.loadDrain]
  else
    (s.onAcc fun a => { a with log := { a.log.takeSequence with missed := satInc 7 a.log.missed } }).setFault .logMissed

/-- The head record is removed and head in flight cleared (R162). -/
def LoadLog.deliver (log : LoadLog) : LoadLog := { log with records := log.records.drop 1, inFlight := false }

/-- Head in flight is cleared and the head record stays (R162). -/
def LoadLog.release (log : LoadLog) : LoadLog := { log with inFlight := false }

/-! ### Closing (R158, R159) -/

/-- A slot with buckets leaves its record (R158, step 1). -/
def State.recordLoad (i : Fin 4) (cause : CloseCause) (s : State) : State :=
  let t := s.acc.slot i
  if t.buckets = 0 then s
  else
    (s.offerLoad (t.record s.acc.log cause s.time.clockValue s.acc.shift)).onAcc fun a =>
      { a with totals := { a.totals with loads := satInc 4294967295 a.totals.loads } }

/-- The slot becomes FREE; if it was current the pointer moves to the lowest held slot or becomes empty (R158). -/
def Accounts.freeSlot (a : Accounts) (i : Fin 4) : Accounts :=
  let a' := a.setSlot i fun _ => TargetSlot.free
  if a.pointer = some i then { a' with pointer := a'.lowestHeld } else a'

/-- A slot is closed (R158). -/
def State.closeSlot (i : Fin 4) (cause : CloseCause) (s : State) : State :=
  let s := s.recordLoad i cause
  let closed := s.acc.report .closed i
  let wasCurrent := s.acc.pointer = some i
  let s := s.onAcc fun a => a.freeSlot i
  (s.hand (closed :: if wasCurrent then [s.acc.selectedReport] else [])).evalAhead

/-- The CLOSE_LOAD key (R159). -/
def State.closeLoad (s : State) : State :=
  match s.acc.pointer with
  | some i => s.closeSlot i .operator
  | none => s

/-- CLOSE_LOAD (R159). -/
def execCloseLoad (s : State) : Host.Outcome State Fault Refusal := .next (s.take .closeLoad).closeLoad

/-- A dispatch departure (R159). -/
def State.depart (id : Nat) (s : State) : State :=
  match s.acc.holder id with
  | some i => s.closeSlot i .dispatch
  | none => s.onAcc fun a => { a with unknownDepartures := satInc 65535 a.unknownDepartures }

/-- DISPATCH_DEPARTURE (R159). -/
def execDispatchDeparture (id : Nat) (s : State) : Host.Outcome State Fault Refusal :=
  .next (State.depart id (s.take (.dispatchDeparture id)))

/-! ### Shift and snapshot (R164, R165), COMMIT (R167) -/

/-- The shift totals close (R164). -/
def State.closeAccountShift (closing new : Word16) (s : State) : State :=
  (s.onAcc fun a => { a with totals := AccountFigures.zero, shift := new }).hand
    [.shiftAssemblyArrival closing (.account s.acc.totals)]

/-- ACCOUNT_SHIFT_CLOSE (R164). -/
def execAccountShiftClose (closing new : Word16) (s : State) : Host.Outcome State Fault Refusal :=
  .next (State.closeAccountShift closing new (s.take (.accountShiftClose closing new)))

/-- LATCH_TOTALS (R165). The shift number is the time base's (R85). -/
def State.latch (s : State) : State :=
  s.onAcc fun a =>
    { a with snapshot :=
      { latched := true, totals := a.totals, figures := s.trk.figures, shift := s.time.shiftNumber
        clock := s.time.clockValue, tag := s.time.tag } }

/-- A successful COMMIT evaluates one slot (R167). -/
def State.commitSlot (s : State) (i : Fin 4) : State :=
  let before := s.acc.slot i
  if before.held then
    let s := s.onAcc fun a => a.setSlot i fun t => t.evaluate a.params
    if before.state = (s.acc.slot i).state then s else s.hand [s.acc.report .state i]
  else s

/-- A successful COMMIT (R167). -/
def State.commitAccounts (s : State) : State := (allSlots.foldl State.commitSlot s).evalAhead

end Sys2Proof.Machine
end

