-- ==== Sys2Proof/Machine/Operands.lean ====
section
/-!
DEFINITION. The operand forms on the wire (R192 to R194): numbers, flags, enumerations, sets, clock values, the lift
and load records, and the entry layouts of the sixteen tables (R183), each with its reader. A reader answers `none`
where a field lies outside its range or the length is not the entry's (R183, check 5).
-/

namespace Sys2Proof.Machine

/-! ### Numbers (R192: high byte first, two's complement) -/

/-- The low `k` bytes of a number, high byte first. -/
def bytesOf (k n : Nat) : List Byte := (List.range k).map fun i => BitVec.ofNat 8 (n / 256 ^ (k - 1 - i))

def intBytes (k : Nat) (x : Int) : List Byte := bytesOf k (x % 256 ^ k).toNat

def natOf (bs : List Byte) : Nat := bs.foldl (fun n b => n * 256 + b.toNat) 0

def intOf (bs : List Byte) : Int :=
  let n := natOf bs
  if 2 * n < 256 ^ bs.length then n else (n : Int) - 256 ^ bs.length

/-- The field of `k` bytes at an offset. -/
def fieldAt (d : List Byte) (offset k : Nat) : List Byte := (d.drop offset).take k

def natAt (d : List Byte) (offset k : Nat) : Nat := natOf (fieldAt d offset k)
def intAt (d : List Byte) (offset k : Nat) : Int := intOf (fieldAt d offset k)
def byteAt (d : List Byte) (offset : Nat) : Nat := natAt d offset 1

def u8 (n : Nat) : List Byte := bytesOf 1 n
def u16 (n : Nat) : List Byte := bytesOf 2 n

/-- A 4-byte unsigned field; a wider total is clamped (R193; log 19). -/
def u32 (n : Nat) : List Byte := bytesOf 4 (min n 4294967295)

/-- A 4-byte signed field; a wider total is clamped (R193; log 19). -/
def s32 (x : Int) : List Byte := intBytes 4 (clampS32 x)

def s16 (x : Int) : List Byte := intBytes 2 x

def flagByte (b : Bool) : List Byte := u8 (if b then 1 else 0)

/-- A flag is one byte, 0 or 1. -/
def flagAt (d : List Byte) (offset : Nat) : Option Bool :=
  if byteAt d offset = 0 then some false else if byteAt d offset = 1 then some true else none

/-- A number in its range. -/
def natIn (lo hi n : Nat) : Option Nat := if lo ≤ n ∧ n ≤ hi then some n else none
def intIn (lo hi x : Int) : Option Int := if lo ≤ x ∧ x ≤ hi then some x else none

/-- A slot, or another value of one byte, or "none", which is coded 0xFF (R192; log 18). -/
def optByte (x : Option Nat) : List Byte := u8 (x.getD 255)

/-- A number below `n`, or the named value coded 0xFF. -/
def optFinAt (n : Nat) (d : List Byte) (offset : Nat) : Option (Option (Fin n)) :=
  let v := byteAt d offset
  if v = 255 then some none else if h : v < n then some (some ⟨v, h⟩) else none

def finAt (n : Nat) (d : List Byte) (offset : Nat) : Option (Fin n) :=
  if h : byteAt d offset < n then some ⟨byteAt d offset, h⟩ else none

/-- A presence byte with one field behind it; an absent field's bytes are 0. -/
def presence (b : Bool) : List Byte := flagByte b

def clockBytes (c : Clock) : List Byte :=
  u16 c.year ++ u8 c.month ++ u8 c.day ++ u8 c.hour ++ u8 c.minute ++ u8 c.second

def clockAt (d : List Byte) (offset : Nat) : Clock :=
  ⟨natAt d offset 2, byteAt d (offset + 2), byteAt d (offset + 3), byteAt d (offset + 4), byteAt d (offset + 5),
    byteAt d (offset + 6)⟩

/-! ### Enumerations (R192: coded from 0 in the order of the defining table; log 16) -/

/-- The place of a value in its list; 0 for a value not in it. -/
def codeIn {α : Type} [DecidableEq α] : List α → α → Nat
  | [], _ => 0
  | y :: ys, x => if y = x then 0 else codeIn ys x + 1

def enumByte {α : Type} [DecidableEq α] (values : List α) (x : α) : List Byte := u8 (codeIn values x)

def enumAt {α : Type} (values : List α) (d : List Byte) (offset : Nat) : Option α := values[byteAt d offset]?

def relayStates : List RelayState := [.bypass, .takeover, .relay, .release]
def directions : List MatchDirection := [.fromMp, .fromDp, .either]
def fieldWidths : List FieldWidth := [.bit, .one, .two, .four]
def keyFunctions : List KeyFunction :=
  [.nextTarget, .select1, .select2, .select3, .select4, .newTarget, .closeLoad, .deleteLast, .zero]
def freshnesses : List Freshness := [.never, .fresh, .stale]
def queueModes : List QueueMode := [.off, .single, .continuous]
def triggerSources : List TriggerSource := [.command, .timer]
def queueStates : List QueueState := [.off, .idle, .active, .paused, .pending, .suspended]
def weighStates : List WeighState := [.disabled, .armed, .window, .spent]
def grades : List Grade := [.good, .marginal, .rejected]
def bucketGrades : List BucketGrade := [.good, .marginal, .unweighed]
def runStates : List RunState := [.off, .collecting, .review]
def calKinds : List CalKind := [.empty, .reference, .zero]
def calCauses : List CalCause := [.started, .collected, .accepted, .discarded, .timeout, .config]
def phases : List Phase := [.unknown, .parked, .dig, .lift, .carry, .dump, .ret]
def targetStates : List TargetState := [.free, .opened, .full]
def targetEvents : List TargetEvent := [.opened, .selected, .state, .capacity, .removed, .closed]
def closeCauses : List CloseCause := [.operator, .dispatch, .command]
def items : List Item :=
  [.accPayload, .remaining, .targetFill, .buckets, .lastBucket, .pending, .bucketFill, .targetId, .targetSlot, .phase,
    .shiftPayload, .shiftLoads, .shiftCycles, .meanCycle, .statusBits]
def routeValues : List Route := [.off, .mp, .dp, .both]
def configStates : List ConfigState := [.unconfigured, .config, .run]
def divisors : List Nat := [1, 10, 100, 1000]
def wides : List Bool := [false, true]

/-- DOWN, HUNT, ALIGNED in the order of 01, section 1.3. -/
def ingressByte : IngressMode → List Byte
  | .down => u8 0
  | .hunt _ => u8 1
  | .aligned _ => u8 2

/-! ### Records (R194) -/

/-- The sum of the weights of the bits that are set. -/
def maskOf (bits : List Bool) : Nat := bits.foldr (fun b n => (if b then 1 else 0) + 2 * n) 0

def liftRecord (r : LiftResult) : List Byte :=
  u16 r.sequence.toNat ++ u32 r.tag.toNat
    ++ u8 (maskOf [r.payload.isSome, r.spread.isSome, r.rate.isSome, r.meanPitch.isSome, r.calFlag])
    ++ s32 (r.payload.getD 0) ++ enumByte grades r.grade ++ u16 r.reasons.toNat ++ u16 r.samples ++ u8 r.binsCovered
    ++ u32 (r.spread.getD 0).toNat ++ u16 (r.rate.getD 0).toNat ++ s32 (r.meanPitch.getD 0)

def loadRecord (r : LoadRecord) : List Byte :=
  u32 r.sequence ++ u16 r.id ++ u32 r.capacity ++ s32 r.payload ++ u16 r.buckets ++ u16 r.unweighed ++ u16 r.marginal
    ++ clockBytes r.opened ++ clockBytes r.closed ++ enumByte closeCauses r.cause ++ flagByte r.overloaded
    ++ u16 r.shift.toNat ++ u8 r.missed

/-- The lift sequence, payload and grade of a bucket entry, behind a presence byte for the sequence (R193; in a TARGET
report: log 48). -/
def entryHead (e : BucketEntry) : List Byte :=
  presence e.sequence.isSome ++ u16 (e.sequence.getD 0).toNat ++ s32 e.payload ++ enumByte bucketGrades e.grade

/-- A bucket entry (R193). -/
def bucketEntry (e : BucketEntry) : List Byte := entryHead e ++ u32 e.tag.toNat ++ u16 e.shift.toNat

def trackerFigures (f : TrackerFigures) : List Byte :=
  u16 f.cycles ++ u16 f.returned ++ u32 f.timeSum ++ u16 f.timeCount ++ u16 f.strays ++ u16 f.reversals

def accountFigures (f : AccountFigures) : List Byte :=
  s32 f.weighed ++ u32 f.buckets ++ u32 f.unweighed ++ u32 f.loads ++ s32 f.unallocated

/-! ### The MATCH entry (R27, R28) -/

def descBytes (f : FieldDesc) : List Byte :=
  u8 f.offset ++ enumByte fieldWidths f.width ++ u8 f.bit ++ flagByte f.lowFirst ++ flagByte f.signed

def readDesc (d : List Byte) (offset : Nat) : Option FieldDesc := do
  let o ← natIn 0 59 (byteAt d offset)
  let w ← enumAt fieldWidths d (offset + 1)
  let b ← natIn 0 7 (byteAt d (offset + 2))
  let low ← flagAt d (offset + 3)
  let signed ← flagAt d (offset + 4)
  return ⟨o, w, b, low, signed⟩

/-- An optional descriptor behind its presence byte; an absent one's five bytes are 0 and are not read (log 35). -/
def optDescBytes : Option FieldDesc → List Byte
  | some f => presence true ++ descBytes f
  | none => presence false ++ bytesOf 5 0

def readOptDesc (d : List Byte) (offset : Nat) : Option (Option FieldDesc) := do
  let p ← flagAt d offset
  if p then
    let f ← readDesc d (offset + 1)
    return some f
  else return none

def actionBytes : MatchAction → List Byte
  | .extract fields => u8 0 ++ u8 fields.length ++ fields.flatMap fun f => descBytes f.1 ++ u8 f.2
  | .key offset => u8 1 ++ u8 offset
  | .target id capacity departure => u8 2 ++ descBytes id ++ optDescBytes capacity ++ optDescBytes departure
  | .page set => u8 3 ++ u8 set

/-- The fields of an EXTRACT list, six bytes each. -/
def readFields (d : List Byte) (offset : Nat) : Nat → Option (List (FieldDesc × Fin 32))
  | 0 => some []
  | n + 1 => do
    let f ← readDesc d offset
    let slot ← finAt 32 d (offset + 5)
    let rest ← readFields d (offset + 6) n
    return (f, slot) :: rest

/-- The action code and data from an offset to the end. -/
def readAction (d : List Byte) (offset : Nat) : Option MatchAction :=
  let length := d.length - offset
  match byteAt d offset with
  | 0 => do
    let n ← natIn 0 3 (byteAt d (offset + 1))
    if length = 2 + 6 * n then
      let fields ← readFields d (offset + 2) n
      return .extract fields
    else none
  | 1 => if length = 2 then (natIn 0 59 (byteAt d (offset + 1))).map MatchAction.key else none
  | 2 =>
    if length = 18 then do
      let id ← readDesc d (offset + 1)
      let capacity ← readOptDesc d (offset + 6)
      let departure ← readOptDesc d (offset + 12)
      return .target id capacity departure
    else none
  | 3 => if length = 2 then (natIn 0 3 (byteAt d (offset + 1))).map MatchAction.page else none
  | _ => none

def matchBytes (e : MatchEntry) : List Byte :=
  flagByte e.enable ++ enumByte directions e.direction ++ [e.classValue, e.classMask]
    ++ u8 e.sourceValue.toNat ++ u8 e.sourceMask.toNat ++ [e.byte0Value, e.byte0Mask] ++ u8 e.minLength
    ++ flagByte e.consume ++ actionBytes e.action

def readMatch (d : List Byte) : Option MatchEntry := do
  if d.length < 12 then none
  let enable ← flagAt d 0
  let direction ← enumAt directions d 1
  let sv ← natIn 0 15 (byteAt d 4)
  let sm ← natIn 0 15 (byteAt d 5)
  let minLength ← natIn 0 60 (byteAt d 8)
  let consume ← flagAt d 9
  let action ← readAction d 10
  return { enable, direction
           classValue := BitVec.ofNat 8 (byteAt d 2), classMask := BitVec.ofNat 8 (byteAt d 3)
           sourceValue := BitVec.ofNat 4 sv, sourceMask := BitVec.ofNat 4 sm
           byte0Value := BitVec.ofNat 8 (byteAt d 6), byte0Mask := BitVec.ofNat 8 (byteAt d 7)
           minLength, consume, action }

/-! ### The other entries, in the order of the table ids -/

/-- Data of an entry's length. -/
def ofLength (n : Nat) (d : List Byte) : Option Unit := if d.length = n then some () else none

def readGap (d : List Byte) : Option Nat := do ofLength 1 d; natIn 2 15 (byteAt d 0)

/-- A set of groups, a bit each from bit 0 (R185, R192); one with a bit that stands for no group is out of range
(log 50). -/
def readPermit (d : List Byte) : Option (BitVec 4) := do
  ofLength 1 d
  let v ← natIn 0 15 (byteAt d 0)
  return BitVec.ofNat 4 v

def signalBytes (c : SlotConfig) : List Byte := s16 c.gain ++ u8 c.shift ++ s32 c.offset ++ u16 c.timeout

def readSignal (d : List Byte) : Option SlotConfig := do
  ofLength 9 d
  let shift ← natIn 0 15 (byteAt d 2)
  return ⟨intAt d 0 2, shift, intAt d 3 4, natAt d 7 2⟩

def readRole (d : List Byte) : Option (Option (Fin 32)) := do ofLength 1 d; optFinAt 32 d 0

def keyBytes (e : KeyEntry) : List Byte := flagByte e.inUse ++ [e.raw] ++ enumByte keyFunctions e.function

def readKey (d : List Byte) : Option KeyEntry := do
  ofLength 3 d
  let inUse ← flagAt d 0
  let f ← enumAt keyFunctions d 2
  return ⟨inUse, BitVec.ofNat 8 (byteAt d 1), f⟩

def wordBytes (w : SampleWord) : List Byte :=
  optByte (w.channel.map Fin.val) ++ u8 w.settle ++ flagByte w.brk ++ flagByte w.last ++ optByte (w.dest.map Fin.val)

def readWord (d : List Byte) : Option SampleWord := do
  ofLength 5 d
  let channel ← optFinAt 11 d 0
  let settle ← natIn 0 3 (byteAt d 1)
  let brk ← flagAt d 2
  let last ← flagAt d 3
  let dest ← optFinAt 32 d 4
  return ⟨channel, settle, brk, last, dest⟩

def readBoundary (d : List Byte) : Option Nat := do ofLength 1 d; natIn 1 47 (byteAt d 0)

def setupBytes (r : QueueSetup) : List Byte :=
  enumByte queueModes r.mode ++ enumByte triggerSources r.trigger ++ flagByte r.arm ++ [r.resume]

/-- A QUEUE record; the fast queue's ignores the value of its resume policy (R192; log 40). -/
def readSetup (q : QueueId) (d : List Byte) : Option QueueSetup := do
  ofLength 4 d
  let mode ← enumAt queueModes d 0
  let trigger ← enumAt triggerSources d 1
  let arm ← flagAt d 2
  let resume ← match q with
    | .fast => some (byteAt d 3)
    | .slow => natIn 0 1 (byteAt d 3)
  return ⟨mode, trigger, arm, BitVec.ofNat 8 resume⟩

def readReload (d : List Byte) : Option Nat := do ofLength 2 d; return natAt d 0 2

def weighBytes (p : WeighRecord) : List Byte :=
  s16 p.thetaS ++ s16 p.thetaE ++ u16 p.hysteresis ++ u32 p.headArea ++ u32 p.rodArea ++ u8 p.minSamples
    ++ u8 p.minBins ++ u16 p.spreadGood ++ u16 p.spreadReject ++ u16 p.tiltLimit ++ u16 p.pitchLimit
    ++ u16 p.accelLimit ++ u16 p.pitchCoeff ++ u8 p.rateBand ++ u16 p.pressureMax ++ u16 p.ratedLoad ++ u16 p.zeroLimit

def readWeigh (d : List Byte) : Option WeighRecord := do
  ofLength 35 d
  let thetaS ← intIn (-9000) 9000 (intAt d 0 2)
  let thetaE ← intIn (-9000) 9000 (intAt d 2 2)
  let hysteresis ← natIn 0 1000 (natAt d 4 2)
  let headArea ← natIn 0 200000 (natAt d 6 4)
  let rodArea ← natIn 0 200000 (natAt d 10 4)
  let minBins ← natIn 0 16 (byteAt d 15)
  let tiltLimit ← natIn 0 18000 (natAt d 20 2)
  let pitchLimit ← natIn 0 9000 (natAt d 22 2)
  let pitchCoeff ← natIn 0 500 (natAt d 26 2)
  let rateBand ← natIn 0 50 (byteAt d 28)
  let pressureMax ← natIn 0 60000 (natAt d 29 2)
  let ratedLoad ← natIn 0 60000 (natAt d 31 2)
  let zeroLimit ← natIn 0 10000 (natAt d 33 2)
  return { thetaS, thetaE, hysteresis, headArea, rodArea, minSamples := byteAt d 14, minBins
           spreadGood := natAt d 16 2, spreadReject := natAt d 18 2, tiltLimit, pitchLimit, accelLimit := natAt d 24 2
           pitchCoeff, rateBand, pressureMax, ratedLoad, zeroLimit }

def cycleBytes (p : CycleRecord) : List Byte :=
  s16 p.thetaDig ++ s16 p.thetaCarry ++ s16 p.tauDump ++ u16 p.pDig ++ u16 p.parkedDwell ++ u16 p.digDwell
    ++ u16 p.liftDwell ++ u16 p.carryDwell ++ u16 p.dumpDwell ++ u16 p.returnDwell

def readCycle (d : List Byte) : Option CycleRecord := do
  ofLength 20 d
  let thetaDig ← intIn (-9000) 9000 (intAt d 0 2)
  let thetaCarry ← intIn (-9000) 9000 (intAt d 2 2)
  let tauDump ← intIn (-18000) 18000 (intAt d 4 2)
  let pDig ← natIn 0 60000 (natAt d 6 2)
  let parkedDwell ← natIn 0 2550 (natAt d 8 2)
  let digDwell ← natIn 0 2550 (natAt d 10 2)
  let liftDwell ← natIn 0 2550 (natAt d 12 2)
  let carryDwell ← natIn 0 2550 (natAt d 14 2)
  let dumpDwell ← natIn 0 2550 (natAt d 16 2)
  let returnDwell ← natIn 0 2550 (natAt d 18 2)
  return { thetaDig, thetaCarry, tauDump, pDig, parkedDwell, digDwell, liftDwell, carryDwell, dumpDwell, returnDwell }

def accountBytes (p : AccountRecord) : List Byte := u8 p.full ++ u8 p.tolerance

def readAccount (d : List Byte) : Option AccountRecord := do
  ofLength 2 d
  let full ← natIn 0 100 (byteAt d 0)
  let tolerance ← natIn 0 100 (byteAt d 1)
  return ⟨full, tolerance⟩

/-- Entry 0 of the CALIBRATION table. -/
def calHeadBytes (c : CalRecord) : List Byte := u16 c.mref ++ s16 c.zeroOffset ++ u16 c.rate ++ u32 c.minDelta

/-- Entry 0 is read onto a record; a Mref of 0 is refused (R111). -/
def readCalHead (c : CalRecord) (d : List Byte) : Option CalRecord := do
  ofLength 10 d
  let mref ← natIn 500 30000 (natAt d 0 2)
  let zeroOffset ← intIn (-30000) 30000 (intAt d 2 2)
  let minDelta ← natIn 0 1000000 (natAt d 6 4)
  return { c with mref, zeroOffset, rate := natAt d 4 2, minDelta }

/-- A force behind its present flag. -/
def forceBytes (f : Option Int) : List Byte := presence f.isSome ++ s32 (f.getD 0)

def readForce (d : List Byte) (offset : Nat) : Option (Option Int) := do
  let p ← flagAt d offset
  return if p then some (intAt d (offset + 1) 4) else none

/-- A bin's entry of the CALIBRATION table (R111; log 26). -/
def calBinBytes (c : CalRecord) (b : Nat) : List Byte :=
  forceBytes ((c.empty[b]?).getD none) ++ forceBytes ((c.reference[b]?).getD none)

def readCalBin (c : CalRecord) (b : Nat) (d : List Byte) : Option CalRecord := do
  ofLength 10 d
  let e ← readForce d 0
  let r ← readForce d 5
  return { c with empty := c.empty.setIfInBounds b e, reference := c.reference.setIfInBounds b r }

def overlayBytes (e : OverlayEntry) : List Byte :=
  flagByte e.enable ++ u8 e.set ++ u8 e.offset ++ enumByte wides e.wide ++ enumByte items e.item
    ++ enumByte divisors e.divisor ++ flagByte e.fill

def readOverlay (d : List Byte) : Option OverlayEntry := do
  ofLength 7 d
  let enable ← flagAt d 0
  let set ← natIn 0 3 (byteAt d 1)
  let offset ← natIn 0 59 (byteAt d 2)
  let wide ← enumAt wides d 3
  let item ← enumAt items d 4
  let divisor ← enumAt divisors d 5
  let fill ← flagAt d 6
  return { enable, set, offset, wide, item, divisor, fill }

def readRoute (d : List Byte) : Option Route := do ofLength 1 d; enumAt routeValues d 0

def readNode (d : List Byte) : Option (BitVec 4) := do
  ofLength 1 d
  let v ← natIn 0 15 (byteAt d 0)
  return BitVec.ofNat 4 v

def shiftBytes (e : ShiftEntry) : List Byte := flagByte e.enable ++ u8 e.hour ++ u8 e.minute

def readShift (d : List Byte) : Option ShiftEntry := do
  ofLength 3 d
  let enable ← flagAt d 0
  let hour ← natIn 0 23 (byteAt d 1)
  let minute ← natIn 0 59 (byteAt d 2)
  return { enable, hour, minute }

end Sys2Proof.Machine
end

