-- ==== Sys2Proof/Machine/Tracker.lean ====
section
/-!
DEFINITION. The cycle tracker (07): the candidate phase, dwell confirmation, transitions with their actions, the
pending lift and the shift counters.
-/

namespace Sys2Proof.Machine

/-! ### Zones and the candidate (R128, R130) -/

inductive Zone where
  | low
  | mid
  | high
deriving DecidableEq, Repr

def CycleRecord.zone (p : CycleRecord) (theta : Int) : Zone :=
  if theta < p.thetaDig then .low else if theta < p.thetaCarry then .mid else .high

/-- Step 4 of R130: the candidate from the phase, the zone, the tilt state and the digging pressure. -/
def cycleTable (phase : Phase) (zone : Zone) (dumping digging : Bool) : Phase :=
  match phase with
  | .unknown =>
    match zone with
    | .high => if dumping then .dump else .carry
    | .mid => .lift
    | .low => if digging then .dig else .unknown
  | .dig => if zone = .low then .dig else .lift
  | .lift =>
    match zone with
    | .high => if dumping then .dump else .carry
    | .mid => .lift
    | .low => .dig
  | .carry =>
    match zone with
    | .high => if dumping then .dump else .carry
    | .mid => .carry
    | .low => .dig
  | .dump => if !dumping || zone == .low then .ret else .dump
  | .ret => if zone = .low ∧ digging then .dig else .ret
  | .parked => .parked

/-- PARK is mapped, its slot FRESH and its value 1 (R128). -/
def Signals.parkApplied (g : Signals) : Bool := g.freshOf .park && g.valueOf .park == 1

/-- The HEAD_P slot is FRESH and at least Pdig (R128). -/
def Signals.digging (g : Signals) (p : CycleRecord) : Bool :=
  g.freshOf .headP && decide ((p.pDig : Int) ≤ g.valueOf .headP)

/-- The candidate phase (R130). -/
def candidateOf (g : Signals) (p : CycleRecord) (phase : Phase) : Phase :=
  if g.parkApplied then .parked
  else if phase = .parked then .unknown
  else if !(g.freshOf .boom && g.freshOf .tilt) then .unknown
  else cycleTable phase (p.zone (g.valueOf .boom)) (decide (g.valueOf .tilt < p.tauDump)) (g.digging p)

/-- The dwell of a candidate in ms; UNKNOWN has none (R126, R130). -/
def CycleRecord.dwell (p : CycleRecord) : Phase → Nat
  | .unknown => 0
  | .parked => p.parkedDwell
  | .dig => p.digDwell
  | .lift => p.liftDwell
  | .carry => p.carryDwell
  | .dump => p.dumpDwell
  | .ret => p.returnDwell

/-! ### TD (R131, R133; log 25) -/

/-- TD is stopped if the tracker's last start is open, and nothing is remembered. -/
def State.stopDwell (s : State) : State :=
  let out := if s.trk.startOpen then [Instr.timerStop .td] else []
  (s.onTrk fun t => { t with startOpen := false, candidate := none }).hand out

/-- A dwell starts: the candidate is remembered and a start request goes to TD. -/
def State.startDwell (q : Phase) (s : State) : State :=
  (s.onTrk fun t => { t with starts := t.starts + 1, startOpen := true, candidate := some q }).hand
    [.timerStart .td (some (s.trk.params.dwell q)) (s.trk.starts + 1)]

/-! ### Actions of transitions (R135 to R138) -/

/-- A calibration run is COLLECTING: the tracker credits nothing and counts no cycles (R112). -/
def State.collecting (s : State) : Bool := s.cal.run == .collecting

/-- A cycle completes (R136). -/
def completeFigures (f : TrackerFigures) (ms : Nat) : TrackerFigures :=
  let f := { f with cycles := satInc 65535 f.cycles }
  if f.timeSum + ms ≤ 4294967295 then
    { f with timeSum := f.timeSum + ms, timeCount := satInc 65535 f.timeCount }
  else f

/-- A RETURN to DIG transition completes a cycle if a start is held, dumped is set and no run is COLLECTING (R135). -/
def State.completeCycle (s : State) : State :=
  match s.trk.cycleStart with
  | some start =>
    if s.trk.dumped && !s.collecting then
      s.onTrk fun t => { t with figures := completeFigures t.figures (tagDiff s.time.tag start / 1000) }
    else s
  | none => s

/-- The cycle start becomes the time tag of this event and dumped is cleared (R135). -/
def State.startCycle (s : State) : State :=
  s.onTrk fun t => { t with cycleStart := some s.time.tag, dumped := false }

/-- The pending lift becomes none; if it held a lift, load accounting is told (R135, R137, R140, R144). -/
def State.dropPending (s : State) : State :=
  let out := if s.trk.pending.isSome then [Instr.pendingLiftNotice] else []
  (s.onTrk fun t => { t with pending := none }).hand out

/-- The returned-to-pile count (R135). -/
def State.returnToPile (s : State) : State :=
  if s.collecting then s
  else s.onTrk fun t => { t with figures := { t.figures with returned := satInc 65535 t.figures.returned } }

/-- An unweighed credit (R137). -/
def unweighedCredit (tag : TimeTag) : Credit := ⟨none, 0, .unweighed, tag⟩

/-- The credit a dump hands, by the pending lift and the phase left (R137). -/
def creditOf (pending : Option LiftResult) (left : Phase) (tag : TimeTag) : Option Credit :=
  match pending with
  | some r =>
    match r.grade with
    | .good => some ⟨some r.sequence, r.payload.getD 0, .good, tag⟩
    | .marginal => some ⟨some r.sequence, r.payload.getD 0, .marginal, tag⟩
    | .rejected => some (unweighedCredit tag)
  | none => if left = .lift ∨ left = .carry then some (unweighedCredit tag) else none

/-- A transition into DUMP (R137). -/
def State.dumpBucket (left : Phase) (s : State) : State :=
  let collecting := s.collecting
  let s := if collecting then s
    else s.hand ((creditOf s.trk.pending left s.time.tag).toList.map Instr.bucketCredit)
  let s := s.dropPending
  if collecting then s else s.onTrk fun t => { t with dumped := true }

/-- The actions of the transition from phase `left` to phase `q` (R135 to R138). -/
def State.transitionActions (left q : Phase) (s : State) : State :=
  match q with
  | .dig =>
    match left with
    | .ret => s.completeCycle.startCycle
    | .lift => s.returnToPile.dropPending.startCycle
    | .carry => s.returnToPile.dropPending.startCycle
    | .unknown => s.startCycle
    | .parked => s
    | .dig => s
    | .dump => s
  | .dump => s.dumpBucket left
  | .parked => s.onTrk fun t => { t with cycleStart := none, dumped := false }
  | .unknown => s
  | .lift => s
  | .carry => s
  | .ret => s

/-- A transition, before the candidate is evaluated again (R133, steps 1 to 3). -/
def State.transition (q : Phase) (s : State) : State :=
  let left := s.trk.phase
  (s.stopDwell.onTrk fun t => { t with phase := q }).transitionActions left q

/-! ### Evaluation (R129 to R133) -/

def State.candidate (s : State) : Phase := candidateOf s.sig s.trk.params s.trk.phase

/-- A candidate is taken at once: UNKNOWN, or a dwell of 0 ms (R131). -/
def State.atOnce (q : Phase) (s : State) : Bool := q == .unknown || s.trk.params.dwell q == 0

/-- The candidate is evaluated and acted on, with the transitions taken at once that follow (R131, R133). From one
set of slot values at most three transitions follow, so that the fuel of 4 does not run out. -/
def State.settle : Nat → State → State
  | 0, s => s
  | n + 1, s =>
    let q := s.candidate
    if q = s.trk.phase then s.stopDwell
    else if s.atOnce q then State.settle n (s.transition q)
    else if s.trk.candidate = some q then s
    else s.startDwell q

def settleFuel : Nat := 4

/-- The age test of the cycle start (R134). -/
def State.ageTest (s : State) : State :=
  match s.trk.cycleStart with
  | some start =>
    if 3600000000 ≤ tagDiff s.time.tag start then
      s.onTrk fun t => { t with cycleStart := none, dumped := false }
    else s
  | none => s

/-- A notification makes the tracker evaluate its candidate (R129). -/
def evaluates : Notice → Bool
  | .written r _ _ => r == .boom || r == .tilt || r == .headP || r == .park
  | .stale r => r == .boom || r == .tilt || r == .headP || r == .park

/-- A notification reaches the tracker (R129), in RUN (log 23). One that makes it evaluate nothing, such as a stale
notification of ROD_P, still makes the age test (R134; log 51). -/
def State.trackNotice (n : Notice) (s : State) : State :=
  if s.mgt.config = .run then
    let s := s.ageTest
    if evaluates n then s.settle settleFuel else s
  else s

/-- CANDIDATE_EVALUATION (R129 to R131). -/
def execCandidateEvaluation (n : Notice) (s : State) : Host.Outcome State Fault Refusal :=
  .next (State.trackNotice n (s.take (.candidateEvaluation n)))

/-- A TD expiry (R132): a transition only if it answers the last start request and no stop request has gone to TD
since; otherwise it changes nothing, and makes no age test (log 51). -/
def State.takeDwellEnd (start : Nat) (s : State) : State :=
  if s.trk.startOpen ∧ start = s.trk.starts then
    let s := s.ageTest.onTrk fun t => { t with startOpen := false }
    match s.trk.candidate with
    | some q => (s.transition q).settle settleFuel
    | none => s
  else s

/-- DWELL_END (R132). -/
def execDwellEnd (start : Nat) (s : State) : Host.Outcome State Fault Refusal :=
  .next (State.takeDwellEnd start (s.take (.dwellEnd start)))

/-! ### The pending lift and the counters (R139 to R142) -/

/-- A phase that can hold a pending lift (R139). -/
def holdsPending : Phase → Bool
  | .unknown => true
  | .dig => true
  | .lift => true
  | .carry => true
  | .dump => false
  | .ret => false
  | .parked => false

/-- An unflagged result reaches the tracker (R139), in RUN (log 23). -/
def State.takeLift (r : LiftResult) (s : State) : State :=
  if s.mgt.config = .run then
    let s := s.ageTest
    if holdsPending s.trk.phase then
      (s.onTrk fun t => { t with pending := some r }).hand [.pendingLiftNotice]
    else s.onTrk fun t => { t with figures := { t.figures with strays := satInc 65535 t.figures.strays } }
  else s

/-- PENDING_LIFT (R139). -/
def execPendingLift (r : LiftResult) (s : State) : Host.Outcome State Fault Refusal :=
  .next (State.takeLift r (s.take (.pendingLift r)))

/-- A reversal notice reaches the tracker (R141), in RUN (log 23). -/
def State.takeReversal (s : State) : State :=
  if s.mgt.config = .run then
    s.ageTest.onTrk fun t => { t with figures := { t.figures with reversals := satInc 65535 t.figures.reversals } }
  else s

/-- REVERSAL_NOTICE (R141). -/
def execReversalNotice (s : State) : Host.Outcome State Fault Refusal := .next (s.take .reversalNotice).takeReversal

/-- The shift counters close (R142). -/
def State.closeTrackerShift (closing : Word16) (s : State) : State :=
  let s := s.ageTest
  (s.onTrk fun t => { t with figures := TrackerFigures.zero }).hand
    [.shiftAssemblyArrival closing (.tracker s.trk.figures)]

/-- TRACKER_SHIFT_CLOSE (R142). -/
def execTrackerShiftClose (closing new : Word16) (s : State) : Host.Outcome State Fault Refusal :=
  .next (State.closeTrackerShift closing (s.take (.trackerShiftClose closing new)))

/-! ### Configuration events (R144) -/

/-- ENTER_CONFIG and SOFT_RESET act on the tracker (R144). -/
def State.resetTracker (s : State) : State :=
  (s.stopDwell.onTrk fun t => { t with phase := .unknown, cycleStart := none, dumped := false }).dropPending

end Sys2Proof.Machine
end

