-- ==== Sys2Proof/Machine/Reports.lean ====
section
/-!
DEFINITION. The overlay and report engine (09): items, the overlay of pages, the report kinds and their routing,
STATUS changes, the shift assembly and the draining of the load log.
-/

namespace Sys2Proof.Machine

/-! ### Items (R169, R170) -/

/-- The current target, if the pointer names one. -/
def State.current (s : State) : Option TargetSlot := s.acc.pointer.map s.acc.slot

/-- The payload of the tail entry of the current target's list. -/
def State.tailEntry (s : State) : Option BucketEntry := s.current.bind fun t => t.list.getLast?

/-- A percentage truncated toward zero. -/
def percent (part : Int) (whole : Nat) : Int := truncDiv (part * 100) whole

/-- A target with a capacity other than 0. -/
def withCapacity (t : Option TargetSlot) : Option TargetSlot := t.bind fun t => if t.capacity = 0 then none else some t

/-- The payload BUCKET_FILL shows (R169). -/
def State.bucketPayload (s : State) : Option Int :=
  match pendingPayload s.trk.pending with
  | some p => some p
  | none => s.tailEntry.bind fun e => if e.grade = .unweighed then none else some e.payload

/-- A role's slot is not FRESH, one of the four that INPUT_STALE names (R170). A role that names no slot, as it may outside
RUN, counts as not FRESH (log 45). -/
def State.inputStale (s : State) : Bool :=
  !(s.sig.freshOf .headP && s.sig.freshOf .rodP && s.sig.freshOf .boom && s.sig.freshOf .tilt)

/-- STATUS_BITS (R170). -/
def State.statusBits (s : State) : Nat :=
  maskOf
    [ s.current.any fun t => t.state == .full,
      s.acc.overloadAhead,
      s.current.any fun t => t.overloaded,
      !s.cal.active.valid,
      s.cal.run == .collecting || s.cal.run == .review,
      s.mgt.faults != 0,
      !s.time.valid,
      s.inputStale ]

/-- The value of an item, or none where it is invalid (R169). -/
def State.item (s : State) : Item → Option Int
  | .accPayload => s.current.map fun t => t.accumulated
  | .remaining => (withCapacity s.current).map fun t => t.capacity - t.accumulated
  | .targetFill => (withCapacity s.current).map fun t => percent t.accumulated t.capacity
  | .buckets => s.current.map fun t => t.buckets
  | .lastBucket => s.tailEntry.map fun e => if e.grade = .unweighed then 0 else e.payload
  | .pending => pendingPayload s.trk.pending
  | .bucketFill => s.bucketPayload.map fun p => percent p s.weigh.params.ratedLoad
  | .targetId => s.current.map fun t => t.id
  | .targetSlot => s.acc.pointer.map fun i => i.val
  | .phase => some (codeIn phases s.trk.phase)
  | .shiftPayload => some s.acc.totals.weighed
  | .shiftLoads => some s.acc.totals.loads
  | .shiftCycles => some s.trk.figures.cycles
  | .meanCycle =>
    if s.trk.figures.timeCount = 0 then none
    else some (truncDiv s.trk.figures.timeSum (s.trk.figures.timeCount * 100))
  | .statusBits => some s.statusBits

/-! ### The overlay stage (R171, R172) -/

def OverlayEntry.bytes (e : OverlayEntry) : Nat := if e.wide then 4 else 2

/-- What an entry writes for an item's value; none under LEAVE (R171). -/
def OverlayEntry.field (e : OverlayEntry) (v : Option Int) : Option (List Byte) :=
  match v with
  | none => if e.fill then some (List.replicate e.bytes 0xFF) else none
  | some x =>
    let q := truncDiv x e.divisor
    some (if e.wide then intBytes 4 (clampS32 q) else intBytes 2 (clampInt (-32768) 32767 q))

/-- Bytes stand in place of those from an offset on. -/
def writeAt (payload : List Byte) (offset : Nat) (bytes : List Byte) : List Byte :=
  payload.take offset ++ bytes ++ payload.drop (offset + bytes.length)

/-- One entry is applied to a page's payload, or skipped with OVERLAY_FIT (R172). -/
def applyOverlay (e : OverlayEntry) (x : State × List Byte) : State × List Byte :=
  if x.2.length < e.offset + e.bytes then (x.1.setFault .overlayFit, x.2)
  else
    match e.field (x.1.item e.item) with
    | some bytes => (x.1, writeAt x.2 e.offset bytes)
    | none => x

/-- The enabled entries of a set in ascending order. -/
def Reports.entriesOf (r : Reports) (set : Nat) : List OverlayEntry :=
  r.overlay.toList.filter fun e => e.enable && e.set == set

/-- The overlay stage takes a page: the frame rewritten, and the fault flags it set (R172). -/
def overlayPage (set : Nat) (frame : List Byte) (s : State) : State × List Byte :=
  let payload := (frame.drop 4).take (frame.length - 6)
  let x := (s.rep.entriesOf set).foldl (fun x e => applyOverlay e x) (s, payload)
  (x.1, withCheck (frame.take 4 ++ x.2))

/-! ### Routing (R173, R174) -/

def reportKinds : List ReportKind := [.liftResult, .bucket, .target, .load, .shift, .status, .fault, .cal]

/-- The code of a report kind (R173). -/
def kindCode (k : ReportKind) : Nat := codeIn reportKinds k + 1

def Reports.route (r : Reports) (k : ReportKind) : Route := (r.routes[codeIn reportKinds k]?).getD .off

/-- The ports a route names, MP before DP (R174). -/
def routePorts : Route → List Port
  | .off => []
  | .mp => [.mp]
  | .dp => [.dp]
  | .both => [.mp, .dp]

/-- A report frame of the part for a port (R174). -/
def State.reportFrame (s : State) (p : Port) (k : ReportKind) (contents : List Byte) : List Byte :=
  buildFrame 0xF2 (s.rep.nodes.get p) s.link.node (s.rep.tags.get p) (u8 (kindCode k) ++ contents)

/-- A report joins a port's queue and the port's tag goes up (R174). -/
def State.joinReport (p : Port) (kind : OrigKind) (k : ReportKind) (contents : List Byte) (s : State) : State :=
  (s.onLink fun l => l.joinOriginate p ⟨kind, s.reportFrame p k contents⟩).onRep fun r =>
    { r with tags := r.tags.set p (r.tags.get p + 1) }

/-- A report is offered to a port: it joins or sets REPORT_DROP (R174). -/
def State.offerReport (k : ReportKind) (contents : List Byte) (s : State) (p : Port) : State :=
  if s.link.hasRoom p then s.joinReport p .report k contents else s.setFault .reportDrop

/-- A report goes to the ports of its kind's route (R174). -/
def State.sendReport (k : ReportKind) (contents : List Byte) (s : State) : State :=
  (routePorts (s.rep.route k)).foldl (State.offerReport k contents) s

/-! ### Contents (R175, R193) -/

def optSlot (x : Option (Fin 4)) : List Byte := optByte (x.map Fin.val)

def bucketContents (b : BucketReport) : List Byte :=
  optSlot b.slot ++ bucketEntry b.entry ++ s32 b.total ++ u16 b.buckets ++ enumByte targetStates b.state
    ++ flagByte b.overloaded

/-- The contents of a TARGET report (R193); the presence byte of its removed entry is the lift sequence's (log 48). -/
def targetContents (t : TargetReport) : List Byte :=
  let f := t.figures
  enumByte targetEvents t.event ++ optSlot f.slot ++ enumByte targetStates f.state ++ u16 f.id ++ u32 f.capacity
    ++ s32 f.accumulated ++ u16 f.buckets ++ flagByte f.overloaded ++ flagByte f.current
    ++ t.removed.elim (bytesOf 8 0) entryHead

def calContents (c : CalReport) : List Byte :=
  enumByte runStates c.run ++ enumByte calCauses c.cause ++ enumByte calKinds c.kind ++ flagByte c.keyStarted
    ++ u8 c.accepted ++ u8 c.refused ++ flagByte c.candidateValid ++ flagByte c.activeValid

def faultContents (set : FaultSet) : List Byte := u16 set.toNat

/-- LIFT_RESULT_REPORT (R174, R175). -/
def execLiftResultReport (r : LiftResult) (s : State) : Host.Outcome State Fault Refusal :=
  .next (State.sendReport .liftResult (liftRecord r) (s.take (.liftResultReport r)))

/-- BUCKET_REPORT (R174, R175). -/
def execBucketReport (b : BucketReport) (s : State) : Host.Outcome State Fault Refusal :=
  .next (State.sendReport .bucket (bucketContents b) (s.take (.bucketReport b)))

/-- TARGET_REPORT (R174, R175). -/
def execTargetReport (t : TargetReport) (s : State) : Host.Outcome State Fault Refusal :=
  .next (State.sendReport .target (targetContents t) (s.take (.targetReport t)))

/-- CAL_REPORT (R174, R175). -/
def execCalReport (c : CalReport) (s : State) : Host.Outcome State Fault Refusal :=
  .next (State.sendReport .cal (calContents c) (s.take (.calReport c)))

/-- FAULT_REPORT (R174, R177). -/
def execFaultReport (set : FaultSet) (s : State) : Host.Outcome State Fault Refusal :=
  .next (State.sendReport .fault (faultContents set) (s.take (.faultReport set)))

/-! ### SHIFT (R176) -/

def shiftContents (a : Assembly) : List Byte :=
  u16 a.closing.toNat ++ u16 (a.closing + 1).toNat ++ u8 (maskOf [a.tracker.isSome, a.account.isSome])
    ++ trackerFigures (a.tracker.getD TrackerFigures.zero) ++ accountFigures (a.account.getD AccountFigures.zero)

/-- An assembly is raised as a SHIFT report and closed (R176). -/
def State.raiseShift (a : Assembly) (s : State) : State :=
  (s.sendReport .shift (shiftContents a)).onRep fun r => { r with assembly := none, lastClosing := some a.closing }

/-- The figures an arrival carries enter the assembly (R176, step 4). -/
def Assembly.add (a : Assembly) : ShiftPart → Assembly
  | .boundary => a
  | .tracker f => { a with tracker := some f }
  | .account f => { a with account := some f }

def Assembly.complete (a : Assembly) : Bool := a.tracker.isSome && a.account.isSome

/-- An open assembly of another boundary is raised at once (R176, step 2). -/
def State.flushAssembly (closing : Word16) (s : State) : State :=
  match s.rep.assembly with
  | some a => if a.closing = closing then s else s.raiseShift a
  | none => s

/-- An arrival at the shift assembly (R176). -/
def State.arriveShift (closing : Word16) (part : ShiftPart) (s : State) : State :=
  if s.rep.lastClosing = some closing then s
  else
    let s := s.flushAssembly closing
    let a := (s.rep.assembly.getD ⟨closing, none, none⟩).add part
    if a.complete then s.raiseShift a else s.onRep fun r => { r with assembly := some a }

/-- SHIFT_ASSEMBLY_ARRIVAL (R176). -/
def execShiftAssemblyArrival (closing : Word16) (part : ShiftPart) (s : State) :
    Host.Outcome State Fault Refusal :=
  .next (State.arriveShift closing part (s.take (.shiftAssemblyArrival closing part)))

/-! ### STATUS (R178) -/

/-- The items of the eight fields. -/
def statusItems : Vector Item 8 :=
  #v[.phase, .targetSlot, .accPayload, .remaining, .pending, .shiftPayload, .shiftCycles, .statusBits]

/-- The eight fields as read, clamped to 32 bits. -/
def State.statusFields (s : State) : Vector (Option Int) 8 := statusItems.map fun i => (s.item i).map clampS32

/-- The widths of the eight fields (R193). -/
def statusWidths : List Nat := [1, 1, 4, 4, 4, 4, 2, 1]

/-- Whether each field is included: all in a full report, otherwise those that differ from the memory. -/
def statusIncluded (memory : Option (Vector (Option Int) 8)) (full : Bool) (fields : Vector (Option Int) 8) :
    List Bool :=
  match memory with
  | none => fields.toList.map fun _ => true
  | some m => List.zipWith (fun old new => full || decide (old ≠ new)) m.toList fields.toList

/-- A field that is included and present is sent. -/
def statusField (included : Bool) (width : Nat) (v : Option Int) : List Byte :=
  match v with
  | some x => if included then intBytes width x else []
  | none => []

def statusContents (included : List Bool) (full : Bool) (fields : Vector (Option Int) 8) : List Byte :=
  u8 (maskOf included) ++ u8 (maskOf (List.zipWith (fun i v => i && Option.isNone v) included fields.toList))
    ++ flagByte full
    ++ (List.zipWith (fun iw v => statusField iw.1 iw.2 v) (included.zip statusWidths) fields.toList).flatten

/-- The report is full: the memory is empty or the change count is 7. -/
def Reports.statusFull (r : Reports) (p : Port) : Bool := (r.memory.get p).isNone || r.changes.get p == 7

/-- The STATUS report for one port (R178). -/
def State.offerStatus (fields : Vector (Option Int) 8) (s : State) (p : Port) : State :=
  let full := s.rep.statusFull p
  let contents := statusContents (statusIncluded (s.rep.memory.get p) full fields) full fields
  if s.link.hasRoom p then
    (s.joinReport p .report .status contents).onRep fun r =>
      { r with
        memory := r.memory.set p (some fields)
        changes := r.changes.set p (if full then 0 else r.changes.get p + 1) }
  else s.setFault .reportDrop

/-- A STATUS request is sent to the ports of its route. One that TR handed in RUN and that is taken after ENTER_CONFIG is
sent as well, the model's choice (log 23). -/
def State.sendStatus (s : State) : State :=
  (routePorts (s.rep.route .status)).foldl (State.offerStatus s.statusFields) s

/-- STATUS_REPORT (R178). -/
def execStatusReport (s : State) : Host.Outcome State Fault Refusal := .next (s.take .statusReport).sendStatus

/-! ### LOAD (R179, R180) -/

/-- The conditions of a drain attempt (R179). -/
def State.canDrain (s : State) : Bool :=
  s.rep.route .load != .off && s.rep.drain.mp == .absent && s.rep.drain.dp == .absent
    && !s.acc.log.records.isEmpty && !s.acc.log.inFlight
    && (routePorts (s.rep.route .load)).all fun p => s.link.hasRoom p

/-- One copy of the LOAD report joins its port's queue (R179). -/
def State.queueCopy (r : LoadRecord) (s : State) (p : Port) : State :=
  (s.joinReport p .loadReport .load (loadRecord r)).onRep fun x => { x with drain := x.drain.set p .queued }

/-- A drain attempt (R179). -/
def State.drain (s : State) : State :=
  if s.canDrain then
    match s.acc.log.records with
    | [] => s
    | r :: _ =>
      (routePorts (s.rep.route .load)).foldl (State.queueCopy r)
        (s.onAcc fun a => { a with log := { a.log with inFlight := true } })
  else s

/-- LOAD_DRAIN (R179). -/
def execLoadDrain (s : State) : Host.Outcome State Fault Refusal := .next (s.take .loadDrain).drain

/-- The last copy has ended: the head is delivered or released, and a drain attempt follows (R180). -/
def State.resolveCopies (s : State) : State :=
  let lost := s.rep.drain.mp == .discarded || s.rep.drain.dp == .discarded
  let s := s.onAcc fun a => { a with log := if lost then a.log.release else a.log.deliver }
  (s.onRep fun r => { r with drain := ⟨.absent, .absent⟩ }).hand [.loadDrain]

/-- The end of a LOAD copy at a port (R180). -/
def State.endCopy (p : Port) (how : CopyState) (s : State) : State :=
  let s := s.onRep fun r => { r with drain := r.drain.set p how }
  if s.rep.drain.mp = .queued ∨ s.rep.drain.dp = .queued then s else s.resolveCopies

/-! ### Configuration events (R181) -/

def Reports.commit (r : Reports) : Reports := { r with memory := ⟨none, none⟩, changes := ⟨0, 0⟩ }

def Reports.softReset (r : Reports) : Reports :=
  { Reports.initial with tags := r.tags, drain := r.drain, assembly := r.assembly, lastClosing := r.lastClosing }

end Sys2Proof.Machine
end

