-- ==== Sys2Proof/Machine/Matcher.lean ====
section
/-!
DEFINITION. The frame matcher (02, sections 2.1 to 2.6): reading fields, testing entries, and the actions of one
matching event.
-/

namespace Sys2Proof.Machine

/-! ### Frame bytes (R192) and fields (R28) -/

def frameClass (frame : List Byte) : Byte := frame.getD 0 0
def frameDestination (frame : List Byte) : BitVec 4 := (frame.getD 1 0).extractLsb' 4 4
def frameSource (frame : List Byte) : BitVec 4 := (frame.getD 1 0).extractLsb' 0 4
def frameTag (frame : List Byte) : Byte := frame.getD 2 0
def framePayload (frame : List Byte) : List Byte := (frame.drop 4).take (frame.length - 6)

def FieldWidth.bytes : FieldWidth → Nat
  | .bit => 1
  | .one => 1
  | .two => 2
  | .four => 4

/-- The raw value of a field, or none where it does not fit the payload (R28). -/
def FieldDesc.read (f : FieldDesc) (payload : List Byte) : Option Int :=
  if f.offset + f.width.bytes ≤ payload.length then
    let bs := fieldAt payload f.offset f.width.bytes
    let bs := if f.lowFirst then bs.reverse else bs
    match f.width with
    | .bit => some (if (natOf bs).testBit f.bit then 1 else 0)
    | .one => some (if f.signed then intOf bs else natOf bs)
    | .two => some (if f.signed then intOf bs else natOf bs)
    | .four => some (if f.signed then intOf bs else natOf bs)
  else none

/-! ### Testing (R29) -/

def MatchDirection.admits : MatchDirection → Port → Bool
  | .either, _ => true
  | .fromMp, .mp => true
  | .fromMp, .dp => false
  | .fromDp, .dp => true
  | .fromDp, .mp => false

def MatchEntry.matches (e : MatchEntry) (src : Port) (frame : List Byte) : Bool :=
  let payload := framePayload frame
  e.enable && e.direction.admits src
    && (frameClass frame ^^^ e.classValue) &&& e.classMask == 0
    && (frameSource frame ^^^ e.sourceValue) &&& e.sourceMask == 0
    && (e.byte0Mask == 0 || (!payload.isEmpty && (payload.getD 0 0 ^^^ e.byte0Value) &&& e.byte0Mask == 0))
    && decide (e.minLength ≤ payload.length)

/-! ### Actions (R32 to R36) -/

/-- What the actions of one entry yield. -/
structure Yield where
  writes : List SlotWrite
  requests : List Instr
  short : Nat
  unmapped : Nat
  dispatch : Nat
deriving DecidableEq, Repr

def Yield.nothing : Yield := ⟨[], [], 0, 0, 0⟩

/-- EXTRACT: a write for each field that fits (R32). -/
def extractYield (n : Nat) (fields : List (FieldDesc × Fin 32)) (payload : List Byte) : Yield :=
  { Yield.nothing with
    writes := fields.filterMap fun f => (f.1.read payload).map fun raw => ⟨f.2, raw, .entry n⟩
    short := fields.countP fun f => (f.1.read payload).isNone }

/-- The request of a key function (R34). -/
def keyRequest : KeyFunction → Instr
  | .nextTarget => .nextTarget
  | .select1 => .selectKey 0
  | .select2 => .selectKey 1
  | .select3 => .selectKey 2
  | .select4 => .selectKey 3
  | .newTarget => .newTarget
  | .closeLoad => .closeLoad
  | .deleteLast => .deleteLast
  | .zero => .zero

/-- The key map entry in use that holds a raw key byte (R33). -/
def Signals.keyOf (g : Signals) (raw : Byte) : Option KeyEntry :=
  g.keyMap.toList.find? fun e => e.inUse && e.raw == raw

/-- KEY (R33). -/
def keyYield (g : Signals) (offset : Nat) (payload : List Byte) : Yield :=
  match payload[offset]? with
  | none => { Yield.nothing with short := 1 }
  | some raw =>
    match g.keyOf raw with
    | some e => { Yield.nothing with requests := [keyRequest e.function] }
    | none => { Yield.nothing with unmapped := 1 }

/-- A capacity is unknown or in the working range (R35). -/
def capacityOk (v : Int) : Bool := v == 0 || decide (1000 ≤ v ∧ v ≤ 250000)

/-- A descriptor that is present and does not fit counts one short field. -/
def shortOf (d : Option FieldDesc) (payload : List Byte) : Nat :=
  match d with
  | some f => if (f.read payload).isNone then 1 else 0
  | none => 0

/-- The arrival of step 3 of R35. -/
def arrivalYield (id : Nat) (capacity : Option FieldDesc) (payload : List Byte) : Yield :=
  match capacity.bind fun f => f.read payload with
  | none => { Yield.nothing with requests := [.dispatchArrival id 0] }
  | some v =>
    if capacityOk v then { Yield.nothing with requests := [.dispatchArrival id v.toNat] }
    else { Yield.nothing with requests := [.dispatchArrival id 0], dispatch := 1 }

/-- The raw value of a present departure descriptor that fits: the request is a departure. -/
def departs (departure : Option FieldDesc) (payload : List Byte) : Bool :=
  match departure.bind fun f => f.read payload with
  | some v => v != 0
  | none => false

/-- The request of a TARGET entry (R35). -/
def dispatchYield (id : FieldDesc) (capacity departure : Option FieldDesc) (payload : List Byte) : Yield :=
  match id.read payload with
  | none => Yield.nothing
  | some v =>
    if 1 ≤ v ∧ v ≤ 65535 then
      if shortOf departure payload = 1 then Yield.nothing
      else if departs departure payload then { Yield.nothing with requests := [.dispatchDeparture v.toNat] }
      else arrivalYield v.toNat capacity payload
    else { Yield.nothing with dispatch := 1 }

/-- TARGET (R35): the request, and the short fields (log 27). A departure leaves the capacity unread. -/
def targetYield (id : FieldDesc) (capacity departure : Option FieldDesc) (payload : List Byte) : Yield :=
  { dispatchYield id capacity departure payload with
    short := shortOf (some id) payload + shortOf departure payload
      + (if departs departure payload then 0 else shortOf capacity payload) }

/-- The yield of a matching entry. PAGE acts on the frame alone (R36). -/
def MatchEntry.yield (g : Signals) (payload : List Byte) (n : Nat) (e : MatchEntry) : Yield :=
  match e.action with
  | .extract fields => extractYield n fields payload
  | .key offset => keyYield g offset payload
  | .target id capacity departure => targetYield id capacity departure payload
  | .page _ => Yield.nothing

/-- The writes that stand: of those naming one slot, the last (R32). -/
def standing : List SlotWrite → List SlotWrite
  | [] => []
  | w :: ws => if ws.any fun x => x.slot == w.slot then standing ws else w :: standing ws

/-! ### The matching event (R26, R30, R31) -/

/-- The matching entries with their indices, ascending (R30). -/
def Signals.matching (g : Signals) (src : Port) (frame : List Byte) : List (MatchEntry × Nat) :=
  g.matchTable.toList.zipIdx.filter fun x => x.1.matches src frame

def MatchEntry.pageSet (e : MatchEntry) : Option Nat :=
  match e.action with
  | .page set => some set
  | .extract _ => none
  | .key _ => none
  | .target _ _ _ => none

/-- The matcher counters take what an event counted (R38). -/
def MatcherCounters.add (c : MatcherCounters) (ys : List Yield) : MatcherCounters :=
  { short := satAdd 65535 c.short (ys.map Yield.short).sum
    unmapped := satAdd 65535 c.unmapped (ys.map Yield.unmapped).sum
    dispatch := satAdd 65535 c.dispatch (ys.map Yield.dispatch).sum }

/-- One frame is matched (R26): the state, whether it is consumed, and the frame to relay. -/
def State.matchFrame (src : Port) (frame : List Byte) (s : State) : State × Bool × List Byte :=
  let entries := s.sig.matching src frame
  let ys := entries.map fun x => x.1.yield s.sig (framePayload frame) x.2
  let consumed := entries.any fun x => x.1.consume
  let requests := ys.flatMap Yield.requests
  let s := (s.onSig fun g => { g with counters := g.counters.add ys }).writeSlots (standing (ys.flatMap Yield.writes))
  match entries.findSome? fun x => x.1.pageSet with
  | some set =>
    if consumed || src == .dp then (s.hand requests, consumed, frame)
    else
      let x := overlayPage set frame s
      (x.1.hand requests, consumed, x.2)
  | none => (s.hand requests, consumed, frame)

/-! ### Checks at COMMIT (R37, R43) -/

/-- A descriptor can fit no frame. -/
def FieldDesc.tooLong (f : FieldDesc) : Bool := decide (60 < f.offset + f.width.bytes)

/-- An enabled entry fails the MATCH step. -/
def MatchEntry.fails (e : MatchEntry) : Bool :=
  e.enable &&
    match e.action with
    | .extract fields =>
      fields.isEmpty || decide (3 < fields.length) || fields.any fun f => f.1.tooLong
    | .key _ => false
    | .target id capacity departure =>
      id.tooLong || capacity.any FieldDesc.tooLong || departure.any FieldDesc.tooLong
        || departure.any fun d => d.width != .bit
    | .page _ => e.direction != .fromMp || e.consume

/-- A key map entry repeats the raw byte of an entry of lower index, both in use. -/
def Signals.keyFails (g : Signals) (n : Nat) : Bool :=
  match g.keyMap[n]? with
  | some e => e.inUse && (g.keyMap.toList.take n).any fun x => x.inUse && x.raw == e.raw
  | none => false

/-- A slot is the destination of a field of an enabled EXTRACT entry. -/
def MatchEntry.feeds (slot : Fin 32) (e : MatchEntry) : Bool :=
  e.enable &&
    match e.action with
    | .extract fields => fields.any fun f => f.2 == slot
    | .key _ => false
    | .target _ _ _ => false
    | .page _ => false

/-- A slot has a source: an EXTRACT field or a sample word; an UNUSED word's destination has no effect (R43, R49;
log 33). -/
def State.hasSource (s : State) (slot : Fin 32) : Bool :=
  (s.sig.matchTable.toList.any fun e => e.feeds slot) || s.acq.words.toList.any fun w => w.channel.isSome && w.dest == some slot

def requiredRole : Role → Bool
  | .headP => true
  | .rodP => true
  | .boom => true
  | .tilt => true
  | .speed => false
  | .pitch => false
  | .park => false

/-- A role fails the ROLE step (R43). -/
def State.roleFails (s : State) (r : Role) : Bool :=
  match s.sig.slotOf r with
  | none => requiredRole r
  | some slot =>
    ((allRoles.take (roleIndex r)).any fun q => s.sig.slotOf q == some slot)
      || (requiredRole r && !s.hasSource slot)

end Sys2Proof.Machine
end

