-- ==== Sys2Proof/Machine/LinkUnit.lean ====
section
/-!
DEFINITION. The link unit (01): ingress states, frame acceptance and disposal, the egress arbiters, the relay states
and the bypass contacts; and the power reset.
-/

namespace Sys2Proof.Machine

/-! ### Ingress (R6 to R8) -/

/-- How a frame in progress was closed: by END, or by ABORT or cut off (R8, R9). -/
structure ClosedFrame where
  frame : FrameIn
  ended : Bool
deriving DecidableEq, Repr

/-- What a character does at an ingress side: the new mode, whether a hunt over material ended, and the frame it
closed. -/
structure IngressStep where
  mode : IngressMode
  discard : Bool
  closed : Option ClosedFrame
deriving DecidableEq, Repr

/-- A character taken in HUNT (R7); `run` is the run of SPACE characters with this one. -/
def huntStep (material : Bool) (run : Nat) : Character → IngressStep
  | .endMark => ⟨.aligned none, material, none⟩
  | .abort => ⟨.aligned none, material, none⟩
  | .space => if 16 ≤ run then ⟨.aligned none, material, none⟩ else ⟨.hunt material, false, none⟩
  | .start => ⟨.hunt true, false, none⟩
  | .data _ => ⟨.hunt true, false, none⟩
  | .codingError => ⟨.hunt true, false, none⟩

/-- A character taken in ALIGNED between frames (R8). -/
def betweenStep : Character → IngressStep
  | .start => ⟨.aligned (some ⟨[], 0⟩), false, none⟩
  | .space => ⟨.aligned none, false, none⟩
  | .endMark => ⟨.aligned none, false, none⟩
  | .abort => ⟨.aligned none, false, none⟩
  | .data _ => ⟨.hunt true, false, none⟩
  | .codingError => ⟨.hunt true, false, none⟩

/-- One more frame byte; the first 66 are stored (R8). -/
def FrameIn.add (f : FrameIn) (b : Byte) : FrameIn :=
  ⟨if f.stored.length < 66 then f.stored ++ [b] else f.stored, f.count + 1⟩

/-- A character taken with a frame in progress (R8). -/
def frameStep (f : FrameIn) : Character → IngressStep
  | .data b => ⟨.aligned (some (f.add b)), false, none⟩
  | .endMark => ⟨.aligned none, false, some ⟨f, true⟩⟩
  | .abort => ⟨.aligned none, false, some ⟨f, false⟩⟩
  | .start => ⟨.aligned (some ⟨[], 0⟩), false, some ⟨f, false⟩⟩
  | .space => ⟨.aligned none, false, some ⟨f, false⟩⟩
  | .codingError => ⟨.hunt true, false, some ⟨f, false⟩⟩

/-- A character by the ingress state; in DOWN it is the first of a hunt (R6). -/
def ingressStep (m : IngressMode) (run : Nat) (c : Character) : IngressStep :=
  match m with
  | .down => huntStep false run c
  | .hunt material => huntStep material run c
  | .aligned none => betweenStep c
  | .aligned (some f) => frameStep f c

/-- The run of SPACE characters after a character, held at 16 (R7, R17). -/
def nextRun (run : Nat) : Character → Nat
  | .space => satInc 16 run
  | .data _ => 0
  | .start => 0
  | .endMark => 0
  | .abort => 0
  | .codingError => 0

/-! ### Takeover and release (R17, R19, R21, R22) -/

/-- A segment counts as quiet (R17). -/
def Ingress.quiet (i : Ingress) : Bool := decide (16 ≤ i.spaces) || i.mode == .down

/-- The contacts open and both transmitters start sending SPACE (R17). -/
def Link.openContacts (l : Link) : Link :=
  { l with
    relay := .relay
    egress := ⟨{ l.egress.mp with gap := 0, spaceUs := 0 }, { l.egress.dp with gap := 0, spaceUs := 0 }⟩ }

/-- The condition of R17. -/
def Link.takeoverTest (l : Link) : Link :=
  if l.relay = .takeover ∧ l.ingress.mp.quiet ∧ l.ingress.dp.quiet then l.openContacts else l

/-- An ingress side is between frames: DOWN, HUNT, or ALIGNED with no frame in progress (R21). -/
def Ingress.betweenFrames (i : Ingress) : Bool :=
  match i.mode with
  | .down => true
  | .hunt _ => true
  | .aligned none => true
  | .aligned (some _) => false

/-- The request a management command carries. -/
def requestOf : Instr → Option Request
  | .unknownCommand r | .identify r | .readEntry r | .readState r | .readClock r | .readCounters r | .readFaults r
  | .readTotals r | .calStatus r | .targetOpen r | .targetSelect r | .targetClose r | .deleteLastBucket r
  | .latchTotals r | .readLoadLog r | .clearFaults r | .clearCounters r | .enterConfig r | .writeEntry r | .commit r
  | .setClock r | .calStart r | .calAccept r | .calDiscard r | .arm r | .disarm r | .trigger r | .softReset r
  | .bypass r => some r
  | .powerReset _ | .characterReceived _ _ | .ingressDown _ | .arbiterStart _ | .transmissionComplete _
  | .releaseLimitExpiry | .stalenessExpiry _ | .faultSet _ | .weighSample _ _ | .speedSample _ _
  | .weighStaleNotice _ | .candidateEvaluation _ | .dwellEnd _ | .pendingLift _ | .reversalNotice | .calLift _ _
  | .bucketCredit _ | .pendingLiftNotice | .nextTarget | .selectKey _ | .newTarget | .closeLoad | .deleteLast | .zero
  | .dispatchArrival _ _ | .dispatchDeparture _ | .conversionComplete _ | .queueTrigger _ | .tfExpiry | .tsExpiry
  | .trExpiry | .tdExpiry | .tcExpiry | .timerStart _ _ _ | .timerStop _ | .calDeadline _ | .secondEvent
  | .trackerShiftClose _ _ | .accountShiftClose _ _ | .shiftAssemblyArrival _ _ | .statusReport
  | .liftResultReport _ | .bucketReport _ | .targetReport _ | .calReport _ | .faultReport _ | .loadDrain => none

/-- A diverted request waits to be taken; its response is still to come (R21; log 11). -/
def State.requestWaits (s : State) : Bool := s.handed.any fun c => (requestOf c).isSome

def Link.bothFree (l : Link) : Bool := l.egress.mp.tx.isNone && l.egress.dp.tx.isNone

/-- The condition of R21. -/
def State.drained (s : State) : Bool :=
  let l := s.link
  l.relayQ.mp.isEmpty && l.relayQ.dp.isEmpty && l.ingress.mp.betweenFrames && l.ingress.dp.betweenFrames && l.bothFree
    && !holdsResponse l.origQ.mp && !holdsResponse l.origQ.dp && !s.requestWaits

/-- A frame in progress is discarded when the contacts close (R22; log 38). -/
def Ingress.dropFrame (i : Ingress) : Ingress :=
  match i.mode with
  | .aligned _ => { i with mode := .aligned none }
  | .down => i
  | .hunt _ => i

/-- The contacts close: the queues are emptied and the relay state becomes BYPASS (R21, R22). -/
def Link.close (l : Link) : Link :=
  { l with
    relay := .bypass
    limit := .stopped
    relayQ := ⟨[], []⟩
    origQ := ⟨[], []⟩
    ingress := ⟨l.ingress.mp.dropFrame, l.ingress.dp.dropFrame⟩
    egress := ⟨{ l.egress.mp with passOver := 0 }, { l.egress.dp with passOver := 0 }⟩ }

/-- A queue holds a LOAD report. -/
def holdsLoad (q : List OrigEntry) : Bool := q.any fun e => e.kind == .loadReport

/-- A flushed LOAD copy is signalled as discarded (R21, R180). -/
def State.flushCopy (flushed : Bool) (p : Port) (s : State) : State := if flushed then s.endCopy p .discarded else s

/-- RELEASE ends in BYPASS (R21, R22). -/
def State.closeContacts (s : State) : State :=
  let mp := holdsLoad s.link.origQ.mp
  let dp := holdsLoad s.link.origQ.dp
  ((s.onLink Link.close).flushCopy mp .mp).flushCopy dp .dp

/-- RELEASE is tested whenever one of its conditions changes (R21, R22). -/
def State.releaseTest (s : State) : State :=
  if s.link.relay = .release ∧ (s.drained ∨ (s.link.limit = .expired ∧ s.link.bothFree)) then s.closeContacts else s

/-- RELEASE begins (R19, R68); a drain attempt follows (R179). -/
def State.enterRelease (s : State) : State :=
  ((s.onLink fun l => { l with relay := .release, limit := .running 100000 }).onAcq Acquisition.releaseLine).hand
    [.loadDrain]

/-! ### Acceptance and disposal (R9 to R11) -/

inductive FrameClass where
  | abort
  | runt
  | giant
  | checkError
  | good
deriving DecidableEq, Repr

/-- The check bytes of a frame are those of its header and payload (R3). -/
def checkHolds (bytes : List Byte) : Bool := withCheck (bytes.take (bytes.length - 2)) == bytes

/-- The class of an accepted frame (R9). -/
def ClosedFrame.classify (c : ClosedFrame) : FrameClass :=
  if !c.ended then .abort
  else if c.frame.count < 6 then .runt
  else if 66 < c.frame.count ∨ c.frame.count ≠ 6 + (c.frame.stored.getD 3 0).toNat then .giant
  else if checkHolds c.frame.stored then .good else .checkError

/-- The counter of a class goes up (R9, R24). -/
def countClass (k : FrameClass) (c : LinkCounters) : LinkCounters :=
  match k with
  | .abort => { c with aborts := satInc 65535 c.aborts }
  | .runt => { c with runts := satInc 65535 c.runts }
  | .giant => { c with giants := satInc 65535 c.giants }
  | .checkError => { c with checkErrors := satInc 65535 c.checkErrors }
  | .good => { c with good := satInc 65535 c.good }

/-- One of the three QUEUE_CONTROL rows, by the operation byte (R63). A missing or unlisted operation makes the ARM
row, which answers BAD_VALUE (log 15). -/
def queueControlOf (r : Request) : Instr :=
  match (r.data[1]?).map BitVec.toNat with
  | some 1 => .disarm r
  | some 2 => .trigger r
  | some _ => .arm r
  | none => .arm r

/-- The command a code names (R192); an empty request has code 0 (R186). -/
def commandOf (r : Request) : Instr :=
  match r.code.toNat with
  | 0x10 => .identify r
  | 0x11 => .readEntry r
  | 0x12 => .readState r
  | 0x13 => .readClock r
  | 0x14 => .readCounters r
  | 0x15 => .readFaults r
  | 0x16 => .readTotals r
  | 0x17 => .calStatus r
  | 0x20 => .targetOpen r
  | 0x21 => .targetSelect r
  | 0x22 => .targetClose r
  | 0x23 => .deleteLastBucket r
  | 0x24 => .latchTotals r
  | 0x25 => .readLoadLog r
  | 0x26 => .clearFaults r
  | 0x27 => .clearCounters r
  | 0x30 => .enterConfig r
  | 0x31 => .writeEntry r
  | 0x32 => .commit r
  | 0x33 => .setClock r
  | 0x34 => .calStart r
  | 0x35 => .calAccept r
  | 0x36 => .calDiscard r
  | 0x40 => queueControlOf r
  | 0x41 => .softReset r
  | 0x42 => .bypass r
  | _ => .unknownCommand r

/-- The request in a diverted frame (R192). -/
def requestIn (p : Port) (frame : List Byte) : Request :=
  let payload := framePayload frame
  { port := p, source := frameSource frame, tag := frameTag frame, code := payload.getD 0 0, data := payload.drop 1 }

/-- A request is dropped as busy (R186, R24). -/
def State.busyDrop (p : Port) (s : State) : State :=
  s.onLink fun l => l.count p fun c => { c with busyDrops := satInc 65535 c.busyDrops }

/-- A management request for this node is handed to the management unit, or dropped as busy (R11, R186; log 9). -/
def State.divert (p : Port) (frame : List Byte) (s : State) : State :=
  if holdsResponse (s.link.origQ.get p) then s.busyDrop p else s.hand [commandOf (requestIn p frame)]

def reservedClass (c : Byte) : Bool := c == 0xF0 || c == 0xF1 || c == 0xF2

/-- A good frame is disposed of (R11). -/
def State.dispose (p : Port) (frame : List Byte) (s : State) : State :=
  if frameClass frame = 0xF0 ∧ frameDestination frame = s.link.node then s.divert p frame
  else if reservedClass (frameClass frame) then s.offerRelay p ⟨frame, .endMark⟩
  else if s.mgt.config = .run then
    let x := s.matchFrame p frame
    if x.2.1 then x.1 else x.1.offerRelay p ⟨x.2.2, .endMark⟩
  else s.offerRelay p ⟨frame, .endMark⟩

/-- A frame that closes in ALIGNED is accepted in RELAY and RELEASE (R9, R10). -/
def State.accept (p : Port) (c : ClosedFrame) (s : State) : State :=
  if carries s.link.relay then
    let k := c.classify
    let s := s.onLink fun l => l.count p (countClass k)
    if k = .good then s.dispose p c.frame.stored else s.offerRelay p ⟨c.frame.stored, .abort⟩
  else s

/-- A hunt discard is counted in RELAY and RELEASE (R7, R18). -/
def State.countHunt (p : Port) (discard : Bool) (s : State) : State :=
  if discard && carries s.link.relay then
    s.onLink fun l => l.count p fun c => { c with huntDiscards := satInc 65535 c.huntDiscards }
  else s

/-- An ingress side advances. -/
def Link.setIngress (l : Link) (p : Port) (i : Ingress) : Link := { l with ingress := l.ingress.set p i }

/-- The ingress side of a port takes the mode and run of SPACE characters that a character leaves (R6 to R8). -/
def State.advance (p : Port) (step : IngressStep) (run : Nat) (s : State) : State :=
  (s.onLink fun l => l.setIngress p ⟨step.mode, run, 0⟩).countHunt p step.discard

/-- The frame that a character closed, if any, is taken (R9). -/
def State.acceptClosed (p : Port) (c : Option ClosedFrame) (s : State) : State :=
  match c with
  | some f => s.accept p f
  | none => s

/-- The condition of R17 is tested at each SPACE character. -/
def State.spaceTest (c : Character) (s : State) : State := if c = .space then s.onLink Link.takeoverTest else s

/-- A character is taken (R1, R6 to R11, R17, R21). -/
def State.receive (p : Port) (c : Character) (s : State) : State :=
  let i := s.link.ingress.get p
  let run := nextRun i.spaces c
  let step := ingressStep i.mode run c
  (((s.advance p step run).acceptClosed p step.closed).spaceTest c).releaseTest

/-- CHARACTER_RECEIVED (R8). -/
def execCharacterReceived (p : Port) (c : Character) (s : State) : Host.Outcome State Fault Refusal :=
  .next (State.receive p c (s.take (.characterReceived p c)))

/-! ### DOWN (R6) -/

def downFault : Port → FaultFlag
  | .mp => .mpDown
  | .dp => .dpDown

/-- 2 ms have passed without a character, and the side is not DOWN yet (R6; log 7). -/
def Ingress.downDue (i : Ingress) : Bool := i.mode != .down && decide (2000 ≤ i.silence)

/-- An ingress side enters DOWN (R6, R17, R21; log 12). -/
def State.goDown (p : Port) (s : State) : State :=
  let i := s.link.ingress.get p
  if i.downDue then
    let s := (s.onLink fun l => l.setIngress p { i with mode := .down, spaces := 0 }).setFault (downFault p)
    (s.onLink Link.takeoverTest).releaseTest
  else s

/-- INGRESS_DOWN (R6). -/
def execIngressDown (p : Port) (s : State) : Host.Outcome State Fault Refusal :=
  .next (State.goDown p (s.take (.ingressDown p)))

/-! ### Egress (R14 to R16, R20) -/

/-- The place of the eligible originate entry of a port (R16, R20). -/
def Link.eligible (l : Link) (p : Port) : Option Nat :=
  match l.relay with
  | .relay => if (l.origQ.get p).isEmpty then none else some 0
  | .release => (l.origQ.get p).findIdx? isResponse
  | .bypass => none
  | .takeover => none

/-- The arbiter may start a frame: the transmitter is free, the gap reached, the limit not run out (R16, R18, R22). -/
def Link.arbiterReady (l : Link) (p : Port) : Bool :=
  carries l.relay && (l.egress.get p).tx.isNone && decide (l.gapInUse ≤ (l.egress.get p).gap) && l.limit != .expired

/-- What the arbiter starts (R16): a source and the pass-over count after. -/
def arbiterChoice (relayWaits : Bool) (eligible : Option Nat) (passOver : Nat) : Option (TxSource × Nat) :=
  match relayWaits, eligible with
  | false, none => none
  | true, none => some (.relay, passOver)
  | true, some i => if passOver < 4 then some (.relay, passOver + 1) else some (.originate i, 0)
  | false, some i => some (.originate i, 0)

/-- The frame and end marker that stand at a source. -/
def Link.frameAt (l : Link) (p : Port) : TxSource → Option (List Byte × EndMark)
  | .relay => (l.relayQ.get p).head?.map fun e => (e.bytes, e.mark)
  | .originate i => (l.origQ.get p)[i]?.map fun e => (e.bytes, .endMark)

/-- The choice of a port's arbiter now. -/
def Link.choice (l : Link) (p : Port) : Option (TxSource × Nat) :=
  arbiterChoice (!(l.relayQ.get p).isEmpty) (l.eligible p) (l.egress.get p).passOver

/-- A transmission begins (R14). -/
def Link.begin (l : Link) (p : Port) (t : Transmission) (passOver : Nat) : Link :=
  { l with egress := l.egress.set p { l.egress.get p with tx := some t, passOver := passOver } }

/-- The arbiter starts a frame (R16). -/
def Link.arbiterStart (l : Link) (p : Port) : Link :=
  if l.arbiterReady p then
    match l.choice p with
    | none => l
    | some (src, passOver) =>
      match l.frameAt p src with
      | none => l
      | some (bytes, mark) => l.begin p ⟨src, bytes, mark, lineTime bytes.length⟩ passOver
  else l

/-- ARBITER_START (R16, R20). -/
def execArbiterStart (p : Port) (s : State) : Host.Outcome State Fault Refusal :=
  .next ((s.take (.arbiterStart p)).onLink fun l => l.arbiterStart p)

/-- The transmitter is free again and its gap starts anew (R14, R15). -/
def Link.freeTransmitter (l : Link) (p : Port) : Link :=
  { l with egress := l.egress.set p { l.egress.get p with tx := none, gap := 0, spaceUs := 0 } }

/-- The entry that was sent leaves its queue (R12 to R14). -/
def Link.removeSent (l : Link) (p : Port) : TxSource → Link
  | .relay => { l with relayQ := l.relayQ.set p ((l.relayQ.get p).drop 1) }
  | .originate i => { l with origQ := l.origQ.set p ((l.origQ.get p).eraseIdx i) }

/-- The end of a sent originate entry: a LOAD report's is signalled, and a drain attempt follows (R14, R179). -/
def State.sentOriginate (p : Port) (kind : OrigKind) (s : State) : State :=
  (if kind = .loadReport then s.endCopy p .completed else s).hand [.loadDrain]

/-- The kind of the originate entry that a transmission sends. -/
def Link.sentKind (l : Link) (p : Port) : TxSource → Option OrigKind
  | .relay => none
  | .originate i => (l.origQ.get p)[i]?.map fun e => e.kind

/-- The end of a transmission is signalled if its entry was an originate entry (R14). -/
def State.signalSent (p : Port) (kind : Option OrigKind) (s : State) : State :=
  match kind with
  | some k => s.sentOriginate p k
  | none => s

/-- A transmission completes when its end marker has been sent (R14; log 7). -/
def State.completeTransmission (p : Port) (s : State) : State :=
  match (s.link.egress.get p).tx with
  | none => s
  | some t =>
    if t.left = 0 then
      ((s.onLink fun l => (l.removeSent p t.source).freeTransmitter p).signalSent p
        (s.link.sentKind p t.source)).releaseTest
    else s

/-- TRANSMISSION_COMPLETE (R14). -/
def execTransmissionComplete (p : Port) (s : State) : Host.Outcome State Fault Refusal :=
  .next (State.completeTransmission p (s.take (.transmissionComplete p)))

/-- The release limit runs out (R22; log 7). -/
def State.expireLimit (s : State) : State :=
  if s.link.relay = .release ∧ s.link.limit = .running 0 then
    (s.onLink fun l => { l with limit := .expired }).releaseTest
  else s

/-- RELEASE_LIMIT_EXPIRY (R22). -/
def execReleaseLimitExpiry (s : State) : Host.Outcome State Fault Refusal :=
  .next (s.take .releaseLimitExpiry).expireLimit

/-- The character a port sends now; none while it is cut off (R14, R18). -/
def State.lineCharacter (s : State) (p : Port) : Option Character :=
  if carries s.link.relay then
    match (s.link.egress.get p).tx with
    | none => some .space
    | some t =>
      let place := (lineTime t.bytes.length - t.left) / 10
      if place = 0 then some .start
      else match t.bytes[place - 1]? with
        | some b => some (.data b)
        | none => match t.mark with
          | .endMark => some .endMark
          | .abort => some .abort
  else none

/-! ### Power reset and configuration events (R17, R25) -/

/-- Every block is as after a power reset. The commands that wait are outside the part, and the model's count of free
converter results goes on (log 5). -/
def State.powerReset (straps : BitVec 4) (s : State) : State :=
  { State.afterPowerReset straps with
    acq := { Acquisition.initial with freeReads := s.acq.freeReads }
    pending := s.pending }

/-- POWER_RESET (R17 and the reset table of each chapter). -/
def execPowerReset (straps : BitVec 4) (s : State) : Host.Outcome State Fault Refusal := .next (s.powerReset straps)

/-- A successful COMMIT: the gap in use takes the LINK table's value (R15). -/
def Link.commit (l : Link) : Link := { l with gapInUse := l.gapEntry }

/-- SOFT_RESET: the LINK table entry returns to 4 (R25). -/
def Link.softReset (l : Link) : Link := { l with gapEntry := 4 }

end Sys2Proof.Machine
end

