-- ==== Sys2Proof/Machine/TimeBase.lean ====
section
/-!
DEFINITION. The time base (04): timer expiries, start and stop requests, the shift clock and the shift boundaries.
-/

namespace Sys2Proof.Machine

/-! ### Timers (R74 to R79) -/

def TimeBase.timer (t : TimeBase) (i : TimerId) : Timer := t.timers.get i

def TimeBase.setTimer (t : TimeBase) (i : TimerId) (f : Timer → Timer) : TimeBase :=
  { t with timers := t.timers.set i (f (t.timers.get i)) }

/-- A due expiry of a periodic timer: handed on, and the count loaded again (R75). -/
def State.expirePeriodic (i : TimerId) (req : Instr) (s : State) : State :=
  if timerDue (s.time.timer i) then
    (s.onTime fun t => t.setTimer i (startTimer i)).hand [req]
  else s

/-- A due expiry of a one-shot timer: handed on with the number of the start it answers, and the timer stops
(R76). -/
def State.expireOneShot (i : TimerId) (req : Nat → Instr) (s : State) : State :=
  if timerDue (s.time.timer i) then
    (s.onTime fun t => t.setTimer i stopTimer).hand [req (s.time.timer i).start]
  else s

/-- TF_EXPIRY (R75, R77). -/
def execTfExpiry (s : State) : Host.Outcome State Fault Refusal :=
  .next (State.expirePeriodic .tf (.queueTrigger .fast) (s.take .tfExpiry))

/-- TS_EXPIRY (R75, R77). -/
def execTsExpiry (s : State) : Host.Outcome State Fault Refusal :=
  .next (State.expirePeriodic .ts (.queueTrigger .slow) (s.take .tsExpiry))

/-- TR_EXPIRY (R75, R77). -/
def execTrExpiry (s : State) : Host.Outcome State Fault Refusal :=
  .next (State.expirePeriodic .tr .statusReport (s.take .trExpiry))

/-- TD_EXPIRY (R76, R77). -/
def execTdExpiry (s : State) : Host.Outcome State Fault Refusal :=
  .next (State.expireOneShot .td .dwellEnd (s.take .tdExpiry))

/-- TC_EXPIRY (R76, R77). -/
def execTcExpiry (s : State) : Host.Outcome State Fault Refusal :=
  .next (State.expireOneShot .tc .calDeadline (s.take .tcExpiry))

/-- TIMER_START (R74, R76). -/
def execTimerStart (i : TimerId) (reload : Option Nat) (start : Nat) (s : State) :
    Host.Outcome State Fault Refusal :=
  .next ((s.take (.timerStart i reload start)).onTime fun t => t.setTimer i (takeStart i reload start))

/-- TIMER_STOP (R74). -/
def execTimerStop (i : TimerId) (s : State) : Host.Outcome State Fault Refusal :=
  .next ((s.take (.timerStop i)).onTime fun t => t.setTimer i stopTimer)

/-- The TIMER table's value for a periodic timer reaches it as a reload write, and the timer is started (R78). -/
def TimeBase.commitTimer (entry : Fin 3) (i : TimerId) (t : TimeBase) : TimeBase :=
  t.setTimer i fun x => startTimer i (writeReload t.timerTable[entry] x)

/-- A successful COMMIT (R78, R86). -/
def TimeBase.commit (t : TimeBase) : TimeBase := ((t.commitTimer 0 .tf).commitTimer 1 .ts).commitTimer 2 .tr

/-- ENTER_CONFIG: a reload write of 0 to TF, TS and TR (R78). -/
def TimeBase.enterConfig (t : TimeBase) : TimeBase :=
  ((t.setTimer .tf (writeReload 0)).setTimer .ts (writeReload 0)).setTimer .tr (writeReload 0)

/-- A timer stopped with reload 0. -/
def clearTimer (x : Timer) : Timer := { stopTimer x with reload := 0 }

/-- SOFT_RESET: all five timers stopped with reload 0, the TIMER and SHIFT tables as at power reset (R78, R86). -/
def TimeBase.softReset (t : TimeBase) : TimeBase :=
  { t with
    timers := ⟨clearTimer t.timers.tf, clearTimer t.timers.ts, clearTimer t.timers.tr, clearTimer t.timers.td,
      clearTimer t.timers.tc⟩
    timerTable := TimeBase.initial.timerTable
    shiftTable := TimeBase.initial.shiftTable }

/-! ### The shift clock (R80, R81) -/

/-- The number of days of a month (R80). -/
def daysIn (year month : Nat) : Nat :=
  if month = 2 then (if year % 4 = 0 then 29 else 28)
  else if month = 4 ∨ month = 6 ∨ month = 9 ∨ month = 11 then 30 else 31

/-- The clock one second on. -/
def Clock.advance (c : Clock) : Clock :=
  if c.second < 59 then { c with second := c.second + 1 }
  else if c.minute < 59 then { c with second := 0, minute := c.minute + 1 }
  else if c.hour < 23 then { c with second := 0, minute := 0, hour := c.hour + 1 }
  else if c.day < daysIn c.year c.month then { c with second := 0, minute := 0, hour := 0, day := c.day + 1 }
  else if c.month < 12 then ⟨c.year, c.month + 1, 1, 0, 0, 0⟩
  else if c.year < 2099 then ⟨c.year + 1, 1, 1, 0, 0, 0⟩
  else ⟨2000, 1, 1, 0, 0, 0⟩

/-- The clock stands in its last second, after which it wraps and loses its valid flag. -/
def Clock.wraps (c : Clock) : Bool := c == ⟨2099, 12, 31, 23, 59, 59⟩

/-- The first field of a clock out of its range, numbered from 0 in the order of R81. -/
def Clock.badField (c : Clock) : Option Nat :=
  if c.year < 2000 ∨ 2099 < c.year then some 0
  else if c.month < 1 ∨ 12 < c.month then some 1
  else if c.day < 1 ∨ daysIn c.year c.month < c.day then some 2
  else if 23 < c.hour then some 3
  else if 59 < c.minute then some 4
  else if 59 < c.second then some 5
  else none

/-- An entry of the SHIFT table names the clock's hour and minute. -/
def ShiftEntry.names (c : Clock) (e : ShiftEntry) : Bool := e.enable && e.hour == c.hour && e.minute == c.minute

/-- A shift boundary falls on this second (R84). -/
def TimeBase.atBoundary (t : TimeBase) : Bool :=
  t.valid && t.clock.second == 0 && t.shiftTable.toList.any (ShiftEntry.names t.clock)

/-- The clock advances at a second event (R80). -/
def TimeBase.second (t : TimeBase) : TimeBase :=
  { t with
    clock := t.clock.advance
    valid := t.valid && !t.clock.wraps
    secondLeft := 1000000
    lastSecond := t.tag }

/-- The shift boundary event: the shift number increases and the boundary is handed to its consumers (R84; log 22). -/
def State.shiftBoundary (s : State) : State :=
  let closing := s.time.shiftNumber
  let new := closing + 1
  (s.onTime fun t => { t with shiftNumber := new }).hand
    [.trackerShiftClose closing new, .accountShiftClose closing new, .shiftAssemblyArrival closing .boundary]

/-- A due second event (R80, R84; log 7). -/
def State.takeSecond (s : State) : State :=
  if s.time.secondLeft = 0 then
    let s := s.onTime TimeBase.second
    if s.time.atBoundary then s.shiftBoundary else s
  else s

/-- SECOND_EVENT (R80, R84). -/
def execSecondEvent (s : State) : Host.Outcome State Fault Refusal := .next (s.take .secondEvent).takeSecond

/-- An accepted SET_CLOCK (R81). -/
def TimeBase.load (t : TimeBase) (c : Clock) : TimeBase :=
  { t with clock := c, valid := true, secondLeft := 1000000, lastSecond := t.tag }

end Sys2Proof.Machine
end

