-- ==== Sys2Proof/Machine/Weighing.lean ====
section
/-!
DEFINITION. The weighing engine (05): the window and its bins, force and payload, samples, evaluation and the lift
result.
-/

namespace Sys2Proof.Machine

/-! ### Bins, force, payload (R89 to R91) -/

/-- The bin width w (R89). -/
def WeighRecord.binWidth (p : WeighRecord) : Int := (p.thetaE - p.thetaS).tdiv 16

/-- The bin of a boom angle in the window (R89); below the window start a free value (log 41). -/
def WeighRecord.bin (p : WeighRecord) (theta : Int) : Nat :=
  if theta < p.thetaS then (Config.binBelowStart theta p.thetaS p.thetaE).toNat
  else min 15 (truncDiv (theta - p.thetaS) p.binWidth).toNat

/-- The centre of a bin (R89). -/
def WeighRecord.centre (p : WeighRecord) (b : Nat) : Int :=
  let w := p.binWidth
  if b < 15 then p.thetaS + b * w + w.tdiv 2
  else p.thetaS + 15 * w + (p.thetaE - p.thetaS - 15 * w).tdiv 2

/-- The force in N from the two pressures in kPa (R90). -/
def WeighRecord.force (p : WeighRecord) (head rod : Int) : Int :=
  truncDiv (head * p.headArea - rod * p.rodArea) 1000

/-- A force of a calibration record; an absent one reads 0 (R109). -/
def forceAt (v : Vector (Option Int) 16) (b : Nat) : Int := ((v[b]?).getD none).getD 0

/-- The line through a table of forces at a boom angle, as a fraction's numerator and denominator (R91). -/
def WeighRecord.interpolate (p : WeighRecord) (v : Vector (Option Int) 16) (theta : Int) : Int × Int :=
  let below := (List.range 16).countP fun b => decide (p.centre b ≤ theta)
  if below = 0 then (forceAt v 0, 1)
  else if below = 16 then (forceAt v 15, 1)
  else
    let b := below - 1
    let d := p.centre below - p.centre b
    (forceAt v b * d + (forceAt v below - forceAt v b) * (theta - p.centre b), d)

/-- The payload of one sample in kg (R91). -/
def WeighRecord.payload (p : WeighRecord) (c : CalRecord) (force theta : Int) : Int :=
  let e := p.interpolate c.empty theta
  let r := p.interpolate c.reference theta
  clampS32 (roundDiv (c.mref * (force * e.2 - e.1)) (r.1 - e.1) + c.zeroOffset)

/-! ### The speed memory (R97) -/

/-- The current acceleration after a SPEED write. -/
def newAccel (memory : Option SpeedWrite) (accel : Option Int) (speed : Int) (tag : TimeTag) : Option Int :=
  match memory with
  | none => none
  | some m =>
    let d := tagDiff tag m.tag
    if d = 0 then accel
    else if d ≤ 1000000 then some (truncDiv ((speed - m.speed) * 1000000) d)
    else none

/-- A speed sample in ARMED, WINDOW and SPENT. -/
def Weighing.takeSpeed (w : Weighing) (speed : Int) (tag : TimeTag) : Weighing :=
  if w.state = .disabled then w
  else { w with accel := newAccel w.speed w.accel speed tag, speed := some ⟨speed, tag⟩ }

/-- SPEED_SAMPLE (R97). -/
def execSpeedSample (speed : Int) (tag : TimeTag) (s : State) : Host.Outcome State Fault Refusal :=
  .next ((s.take (.speedSample speed tag)).onWeigh fun w => w.takeSpeed speed tag)

/-! ### Publication (R104, R105) -/

def BinSum.covered (b : BinSum) : Bool := decide (1 ≤ b.count)

/-- The covered bins of a window (R100). -/
def WindowRecord.coveredBins (w : WindowRecord) : List BinSum := w.bins.toList.filter BinSum.covered

/-- The bin force table (R100). -/
def WindowRecord.forces (w : WindowRecord) : BinForces :=
  w.bins.map fun b => if b.covered then some (roundDiv b.force b.count) else none

/-- A lift result is numbered, kept and handed on; the engine becomes SPENT (R104). -/
def State.publishLift (r : LiftResult) (s : State) : State :=
  let r := { r with sequence := s.weigh.sequence + 1, tag := s.time.tag }
  let forces := s.weigh.window.forces
  (s.onWeigh fun w => { w with sequence := r.sequence, last := some r, state := .spent }).hand
    [if r.calFlag then .calLift r forces else .pendingLift r, .liftResultReport r]

/-- The part of a result that every window gives; its number and time tag come at publication. -/
def WindowRecord.result (w : WindowRecord) (g : Grade) (reasons : ReasonSet) : LiftResult :=
  { sequence := 0, tag := 0, payload := none, grade := g, reasons := reasons, samples := min 65535 w.samples
    binsCovered := w.coveredBins.length, spread := none, rate := none, meanPitch := none, calFlag := w.calFlag }

/-- A window ends by SIGNAL_LOST or RANGE (R95, R99). -/
def State.rejectWindow (r : Reason) (s : State) : State :=
  s.publishLift (s.weigh.window.result .rejected (reasonsHolding [(r, true)]))

/-! ### Evaluation (R100 to R103) -/

/-- The figures of an evaluated window (R100, R101). -/
structure Figures where
  uncorrected : Option Int
  corrected : Option Int
  spread : Option Int
  rate : Int
  meanPitch : Option Int
  tiltRange : Option Int
deriving DecidableEq, Repr

/-- The bin means of the covered bins (R100). -/
def WindowRecord.binMeans (w : WindowRecord) : List Int := w.coveredBins.map fun b => roundDiv b.payload b.count

/-- The largest of a list less the smallest; none for the empty list. -/
def spreadOf : List Int → Option Int
  | [] => none
  | m :: ms => some (ms.foldl max m - ms.foldl min m)

/-- The rate of a window in cdeg/s (R100). -/
def WindowRecord.rate (w : WindowRecord) (theta : Int) (tag : TimeTag) : Int :=
  let d := tagDiff tag w.entryTag
  if d = 0 then 0 else min 65535 (truncDiv ((theta - w.entryAngle) * 1000000) d)

/-- An exact figure in a signed 32-bit field (R105). No rule says which content of the field a figure beyond it
becomes (log 32). -/
def inField (x : Int) : Int := if clampS32 x = x then x else (Config.beyondField x).toInt

/-- The corrected result (R101). -/
def correctPitch (coeff : Nat) (uncorrected meanPitch : Int) : Int :=
  inField (roundDiv (uncorrected * 1000000 + uncorrected * coeff * meanPitch) 1000000)

def WindowRecord.meanPitch (w : WindowRecord) : Option Int :=
  if 1 ≤ w.pitchCount then some (roundDiv w.pitchSum w.pitchCount) else none

def WindowRecord.tiltRange (w : WindowRecord) : Option Int :=
  match w.tiltMin, w.tiltMax with
  | some lo, some hi => some (hi - lo)
  | some _, none => none
  | none, some _ => none
  | none, none => none

/-- The figures of a window that the sample at this angle and time ends. -/
def WindowRecord.figures (w : WindowRecord) (p : WeighRecord) (pitchMapped : Bool) (theta : Int) (tag : TimeTag) :
    Figures :=
  let means := if w.cal.valid then w.binMeans else []
  let uncorrected := if means.isEmpty then none else some (roundDiv means.sum means.length)
  let pitch := w.meanPitch
  { uncorrected := uncorrected
    corrected := match uncorrected, pitch with
      | some u, some mp => if pitchMapped then some (correctPitch p.pitchCoeff u mp) else some u
      | some u, none => some u
      | none, some _ => none
      | none, none => none
    spread := spreadOf means
    rate := w.rate theta tag
    meanPitch := pitch
    tiltRange := w.tiltRange }

/-- An optional figure is formed and above a limit. -/
def above (x : Option Int) (limit : Nat) : Bool :=
  match x with
  | some v => decide ((limit : Int) < v)
  | none => false

/-- The reasons of an evaluated window (R102). -/
def evaluationReasons (w : WindowRecord) (p : WeighRecord) (f : Figures) (pitchMapped speedMapped activeValid : Bool) :
    ReasonSet :=
  let rateTested := !w.calFlag && w.cal.valid
  reasonsHolding
    [ (.fewSamples, decide (w.samples < p.minSamples)),
      (.fewBins, decide (w.coveredBins.length < p.minBins)),
      (.liftSlow, rateTested && decide (f.rate * 100 < w.cal.rate * (100 - (p.rateBand : Int)))),
      (.liftFast, rateTested && decide (w.cal.rate * (100 + (p.rateBand : Int)) < f.rate * 100)),
      (.spread, above f.spread p.spreadReject),
      (.tiltMoved, above f.tiltRange p.tiltLimit),
      (.slope, pitchMapped && match f.meanPitch with
        | some m => decide (p.pitchLimit < m.natAbs)
        | none => true),
      (.accel, speedMapped && (!w.accelSeen || decide (p.accelLimit < w.accelMax))),
      (.noCal, !w.cal.valid || !activeValid) ]

/-- The grade (R103). -/
def gradeOf (reasons : ReasonSet) (spread : Option Int) (spreadGood : Nat) : Grade :=
  if reasons ≠ 0 then .rejected else if above spread spreadGood then .marginal else .good

/-- The result of a window that the sample at this angle and time ends (R100 to R103). -/
def State.evaluate (theta : Int) (tag : TimeTag) (s : State) : LiftResult :=
  let w := s.weigh.window
  let p := s.weigh.params
  let pitchMapped := (s.sig.slotOf .pitch).isSome
  let f := w.figures p pitchMapped theta tag
  let reasons := evaluationReasons w p f pitchMapped (s.sig.slotOf .speed).isSome s.cal.active.valid
  let grade := gradeOf reasons f.spread p.spreadGood
  { w.result grade reasons with
    payload := if grade = .rejected then none else f.corrected
    spread := f.spread
    rate := some f.rate
    meanPitch := f.meanPitch }

/-! ### Samples (R93 to R98) -/

def lower (x : Option Int) (v : Int) : Option Int := some (x.elim v (min v))

def raise (x : Option Int) (v : Int) : Option Int := some (x.elim v (max v))

/-- A sample enters its bin (R96). -/
def WindowRecord.addToBin (w : WindowRecord) (b : Nat) (force payload : Int) : WindowRecord :=
  { w with bins := w.bins.mapIdx fun i x =>
      if i = b then { count := x.count + 1, force := x.force + force, payload := x.payload + payload } else x }

/-- The largest magnitude of acceleration after a sample, and whether one was seen (R96, step 6). -/
def WindowRecord.seeAccel (w : WindowRecord) : Option Int → WindowRecord
  | some a => { w with accelSeen := true, accelMax := max w.accelMax a.natAbs }
  | none => w

/-- The optional pitch of a sample enters the sums (R96, step 5). -/
def WindowRecord.seePitch (w : WindowRecord) : Option Int → WindowRecord
  | some v => { w with pitchSum := w.pitchSum + v, pitchCount := w.pitchCount + 1 }
  | none => w

/-- A sample is accumulated (R96); the acceleration counts only while the SPEED slot is FRESH (R97). -/
def State.accumulate (theta : Int) (s : State) : State :=
  let p := s.weigh.params
  let force := p.force (s.sig.valueOf .headP) (s.sig.valueOf .rodP)
  let tilt := s.sig.valueOf .tilt
  let pitch := if s.sig.freshOf .pitch then some (s.sig.valueOf .pitch) else none
  let accel := if s.sig.freshOf .speed then s.weigh.accel else none
  s.onWeigh fun g =>
    let w := g.window
    let payload := if w.cal.valid then p.payload w.cal force theta else 0
    let w := { w.addToBin (p.bin theta) force payload with
      samples := w.samples + 1
      tiltMin := lower w.tiltMin tilt
      tiltMax := raise w.tiltMax tilt
      highest := max w.highest theta }
    { g with window := (w.seePitch pitch).seeAccel accel }

/-- A pressure is believable (R95, case 2). -/
def WeighRecord.believable (p : WeighRecord) (v : Int) : Bool := decide (0 ≤ v ∧ v ≤ p.pressureMax)

/-- A reversal (R98). -/
def State.reverse (s : State) : State :=
  (s.onWeigh fun w => { w with state := .spent, reversals := satInc 65535 w.reversals }).hand [.reversalNotice]

/-- A sample in WINDOW, by the first case of R95 that applies. -/
def State.windowSample (theta : Int) (tag : TimeTag) (s : State) : State :=
  let p := s.weigh.params
  if !(s.sig.freshOf .headP && s.sig.freshOf .rodP && s.sig.freshOf .tilt) then s.rejectWindow .signalLost
  else if !(p.believable (s.sig.valueOf .headP) && p.believable (s.sig.valueOf .rodP)) then s.rejectWindow .range
  else if theta < s.weigh.window.highest - p.hysteresis then s.reverse
  else if p.thetaE ≤ theta then s.publishLift (s.evaluate theta tag)
  else s.accumulate theta

/-- A window opens (R94). -/
def State.openWindow (theta : Int) (tag : TimeTag) (s : State) : State :=
  s.onWeigh fun w =>
    { w with
      state := .window
      window := { WindowRecord.cleared with
        entryTag := tag
        entryAngle := theta
        highest := theta
        calFlag := s.cal.run == .collecting
        cal := s.cal.active } }

/-- A weigh sample, by the engine's state (R92, R93, R95). -/
def State.weighSample (theta : Int) (tag : TimeTag) (s : State) : State :=
  let p := s.weigh.params
  match s.weigh.state with
  | .disabled => s
  | .armed => if theta < p.thetaS then s else (s.openWindow theta tag).windowSample theta tag
  | .window => s.windowSample theta tag
  | .spent =>
    if theta < p.thetaS - p.hysteresis then s.onWeigh fun w => { w with state := .armed } else s

/-- WEIGH_SAMPLE (R93, R95). -/
def execWeighSample (theta : Int) (tag : TimeTag) (s : State) : Host.Outcome State Fault Refusal :=
  .next (State.weighSample theta tag (s.take (.weighSample theta tag)))

/-- A stale notification ends an open window when it names one of the four required roles (R99). -/
def State.weighStale (r : Role) (s : State) : State :=
  let required := r == .headP || r == .rodP || r == .boom || r == .tilt
  if required && s.weigh.state == .window then s.rejectWindow .signalLost else s

/-- WEIGH_STALE_NOTICE (R99). -/
def execWeighStaleNotice (r : Role) (s : State) : Host.Outcome State Fault Refusal :=
  .next (State.weighStale r (s.take (.weighStaleNotice r)))

/-! ### Configuration events (R92, R107, R108) -/

/-- A successful COMMIT, by the value held in the BOOM slot (R92). -/
def Weighing.commit (boom : Int) (w : Weighing) : Weighing :=
  { w with
    state := if boom < w.params.thetaS then .armed else .spent
    window := WindowRecord.cleared
    speed := none
    accel := none }

def Weighing.enterConfig (w : Weighing) : Weighing :=
  { w with state := .disabled, window := WindowRecord.cleared, speed := none, accel := none }

def Weighing.softReset (w : Weighing) : Weighing := { w.enterConfig with params := WeighRecord.zero }

/-! ### The WEIGH step of COMMIT (R87, R88) -/

def inRange (lo hi x : Int) : Bool := decide (lo ≤ x ∧ x ≤ hi)

/-- The record meets every working range and relation; θdig and θcarry are the cycle record's. -/
def WeighRecord.commits (p : WeighRecord) (thetaDig thetaCarry : Int) : Bool :=
  decide (thetaDig < p.thetaS) && decide (800 ≤ p.thetaE - p.thetaS) && decide (p.thetaE ≤ thetaCarry)
  && inRange 50 500 p.hysteresis && inRange 1000 200000 p.headArea && decide (p.rodArea < p.headArea)
  && inRange 8 255 p.minSamples && inRange 8 16 p.minBins && decide (p.spreadGood ≤ p.spreadReject)
  && inRange 1 65535 p.spreadReject && inRange 1 18000 p.tiltLimit && inRange 1 9000 p.pitchLimit
  && inRange 1 65535 p.accelLimit && inRange 0 500 p.pitchCoeff && inRange 5 50 p.rateBand
  && inRange 1000 60000 p.pressureMax && inRange 100 60000 p.ratedLoad && inRange 0 10000 p.zeroLimit

end Sys2Proof.Machine
end

