-- ==== Sys2Proof/Machine/Tables.lean ====
section
/-!
DEFINITION. The sixteen tables (R183): writing and reading one entry, the checks and the taking of COMMIT (R184),
ENTER_CONFIG (R182), SOFT_RESET (R189), and the sections of READ_STATE (R188).
-/

namespace Sys2Proof.Machine

/-- The entry count of each table, by id (R183). -/
def entryCounts : List Nat := [1, 2, 24, 32, 7, 16, 49, 2, 3, 1, 1, 1, 18, 16, 10, 3]

def queueOf (n : Nat) : QueueId := if n = 0 then .fast else .slow
def portOf (n : Nat) : Port := if n = 0 then .mp else .dp

/-! ### Writing an entry (R183) -/

/-- The boundary is written: both queues, which are OFF, stand at the first words of their ranges, so that their word
numbers lie in them (R53). The sub-queue starts go there at every write, the model's choice (log 49). -/
def Acquisition.setBoundary (a : Acquisition) (b : Nat) : Acquisition :=
  ({ a with boundary := b }.turnOff .fast).turnOff .slow

/-- A CALIBRATION entry is written (R111). -/
def Calibration.write (c : Calibration) (index : Nat) (d : List Byte) : Option Calibration :=
  if index = 0 then (readCalHead c.active d).map fun r => { c with active := r }
  else if index = 17 then (readReload d).map fun v => { c with deadline := v }
  else (readCalBin c.active (index - 1) d).map fun r => { c with active := r }

/-- A ROUTE entry is written (R173). -/
def Reports.write (r : Reports) (index : Nat) (d : List Byte) : Option Reports :=
  if index < 8 then (readRoute d).map fun v => { r with routes := r.routes.setIfInBounds index v }
  else (readNode d).map fun v => { r with nodes := r.nodes.set (portOf (index - 8)) v }

/-- A drain attempt follows a write of the LOAD route or of a destination node (R179). -/
def routeDrains (index : Nat) : List Instr := if index = 3 ∨ index = 8 ∨ index = 9 then [.loadDrain] else []

/-- An entry of a table takes the data, unless a field is out of range (R183, check 5). -/
def State.writeTable (s : State) (table index : Nat) (d : List Byte) : Option State :=
  match table with
  | 0 => (readGap d).map fun v => s.onLink fun l => { l with gapEntry := v }
  | 1 => (readPermit d).map fun v => s.onMgt fun m => { m with written := m.written.set (portOf index) v }
  | 2 => (readMatch d).map fun v => s.onSig fun g => { g with matchTable := g.matchTable.setIfInBounds index v }
  | 3 => (readSignal d).map fun v => s.onSig fun g => { g with config := g.config.setIfInBounds index v }
  | 4 => (readRole d).map fun v => s.onSig fun g => { g with roles := g.roles.setIfInBounds index v }
  | 5 => (readKey d).map fun v => s.onSig fun g => { g with keyMap := g.keyMap.setIfInBounds index v }
  | 6 =>
    if index = 48 then (readBoundary d).map fun v => s.onAcq fun a => a.setBoundary v
    else (readWord d).map fun v => s.onAcq fun a => { a with words := a.words.setIfInBounds index v }
  | 7 =>
    (readSetup (queueOf index) d).map fun v => s.onAcq fun a => { a with setup := a.setup.set (queueOf index) v }
  | 8 =>
    (readReload d).map fun v => s.onTime fun t => { t with timerTable := t.timerTable.setIfInBounds index v }
  | 9 => (readWeigh d).map fun v => s.onWeigh fun w => { w with params := v }
  | 10 => (readCycle d).map fun v => s.onTrk fun t => { t with params := v }
  | 11 => (readAccount d).map fun v => s.onAcc fun a => { a with params := v }
  | 12 => (s.cal.write index d).map fun v => s.onCal fun _ => v
  | 13 => (readOverlay d).map fun v => s.onRep fun r => { r with overlay := r.overlay.setIfInBounds index v }
  | 14 => (s.rep.write index d).map fun v => (s.onRep fun _ => v).hand (routeDrains index)
  | 15 => (readShift d).map fun v => s.onTime fun t => { t with shiftTable := t.shiftTable.setIfInBounds index v }
  | _ => none

/-! ### Reading an entry (R183) -/

/-- The source of a slot's last write: its kind (entry, word, none) and its number (log 17). -/
def sourceBytes : WriteSource → List Byte
  | .entry n => u8 0 ++ u8 n
  | .word n => u8 1 ++ u8 n
  | .unset => u8 2 ++ u8 255

/-- The live part of a slot (R39). -/
def liveBytes (v : SlotLive) : List Byte :=
  s32 v.value ++ enumByte freshnesses v.fresh ++ u32 v.tag.toNat ++ u16 v.writes.toNat ++ sourceBytes v.source

def resultBytes (r : ResultEntry) : List Byte := u16 r.raw.toNat ++ u32 r.tag.toNat ++ flagByte r.valid

def Calibration.read (c : Calibration) (index : Nat) : List Byte :=
  if index = 17 then u16 c.deadline
  else (if index = 0 then calHeadBytes c.active else calBinBytes c.active (index - 1)) ++ flagByte c.active.valid

def Reports.read (r : Reports) (index : Nat) : List Byte :=
  if index < 8 then enumByte routeValues ((r.routes[index]?).getD .off)
  else u8 (r.nodes.get (portOf (index - 8))).toNat

/-- An entry as written, with the live state that R183 names. -/
def State.readTable (s : State) (table index : Nat) : List Byte :=
  match table with
  | 0 => u8 s.link.gapEntry
  | 1 => u8 (s.mgt.written.get (portOf index)).toNat ++ u8 (s.mgt.inForce.get (portOf index)).toNat
  | 2 => (s.sig.matchTable[index]?).elim [] matchBytes
  | 3 => (s.sig.config[index]?).elim [] signalBytes ++ (s.sig.slots[index]?).elim [] liveBytes
  | 4 => optByte (((s.sig.roles[index]?).getD none).map Fin.val)
  | 5 => (s.sig.keyMap[index]?).elim [] keyBytes
  | 6 =>
    if index = 48 then u8 s.acq.boundary
    else (s.acq.words[index]?).elim [] wordBytes ++ (s.acq.results[index]?).elim [] resultBytes
  | 7 => setupBytes (s.acq.setup.get (queueOf index))
  | 8 => (s.time.timerTable[index]?).elim [] u16
  | 9 => weighBytes s.weigh.params
  | 10 => cycleBytes s.trk.params
  | 11 => accountBytes s.acc.params
  | 12 => s.cal.read index
  | 13 => (s.rep.overlay[index]?).elim [] overlayBytes
  | 14 => s.rep.read index
  | 15 => (s.time.shiftTable[index]?).elim [] shiftBytes
  | _ => []

/-! ### COMMIT (R184) -/

/-- The first entry of a table that fails its step. -/
def firstFailure (table n : Nat) (fails : Nat → Bool) : Option (Nat × Nat) :=
  ((List.range n).find? fails).map fun i => (table, i)

def CycleRecord.commits (p : CycleRecord) : Bool := decide (p.thetaDig < p.thetaCarry) && inRange 1 60000 p.pDig

def AccountRecord.commits (p : AccountRecord) : Bool := inRange 80 100 p.full && inRange 0 20 p.tolerance

/-- An enabled overlay entry can fit no frame (R168). -/
def OverlayEntry.fails (e : OverlayEntry) : Bool := e.enable && decide (60 < e.offset + e.bytes)

/-- Some kind routes to a port. -/
def Reports.routesTo (r : Reports) (p : Port) : Bool := r.routes.toList.any fun x => (routePorts x).contains p

/-- A ROUTE entry fails: a destination node in use is the part's own (R173). -/
def State.routeFails (s : State) (index : Nat) : Bool :=
  decide (8 ≤ index) && s.rep.routesTo (portOf (index - 8)) && s.rep.nodes.get (portOf (index - 8)) == s.link.node

/-- The first failure of COMMIT: table id and entry index (R184). The LINK, SIGNAL, TIMER, CALIBRATION and SHIFT steps
pass. -/
def State.commitFailure (s : State) : Option (Nat × Nat) :=
  [ firstFailure 1 1 fun _ => !(hasGroup s.mgt.written.mp .config || hasGroup s.mgt.written.dp .config),
    firstFailure 2 24 fun i => (s.sig.matchTable[i]?).any MatchEntry.fails,
    firstFailure 4 7 fun i => (allRoles[i]?).any s.roleFails,
    firstFailure 5 16 s.sig.keyFails,
    firstFailure 6 48 s.acq.wordFails,
    firstFailure 7 2 fun i => s.acq.setupFails (queueOf i),
    firstFailure 9 1 fun _ => !s.weigh.params.commits s.trk.params.thetaDig s.trk.params.thetaCarry,
    firstFailure 10 1 fun _ => !s.trk.params.commits,
    firstFailure 11 1 fun _ => !s.acc.params.commits,
    firstFailure 13 16 fun i => (s.rep.overlay[i]?).any OverlayEntry.fails,
    firstFailure 14 10 s.routeFails ].findSome? id

/-- The management unit enters RUN and the written PERMIT entries come into force (R184, R185). -/
def Management.commit (m : Management) : Management := { m with config := .run, inForce := m.written }

/-- Every block takes the COMMIT (R184 and each chapter). -/
def State.takeCommit (s : State) : State :=
  let s := { s with
    link := s.link.commit
    sig := s.sig.commit
    acq := s.acq.commit
    time := s.time.commit
    weigh := s.weigh.commit (s.sig.valueOf .boom)
    rep := s.rep.commit
    mgt := s.mgt.commit }
  s.commitAccounts

/-! ### ENTER_CONFIG and SOFT_RESET (R182, R189) -/

/-- A request that one block hands another in RUN alone and that reaches it in that RUN or not at all: a timer trigger
(R67), a notification of the signal table (R44, R107), a lift result or a reversal notice (R123, R144; log 44). -/
def endsWithRun : Instr → Bool
  | .queueTrigger _ | .weighSample _ _ | .speedSample _ _ | .weighStaleNotice _ | .candidateEvaluation _
  | .pendingLift _ | .reversalNotice | .calLift _ _ => true
  | .powerReset _ | .characterReceived _ _ | .ingressDown _ | .arbiterStart _ | .transmissionComplete _
  | .releaseLimitExpiry | .stalenessExpiry _ | .faultSet _ | .dwellEnd _
  | .bucketCredit _ | .pendingLiftNotice | .nextTarget | .selectKey _ | .newTarget | .closeLoad | .deleteLast | .zero
  | .dispatchArrival _ _ | .dispatchDeparture _ | .conversionComplete _ | .tfExpiry | .tsExpiry
  | .trExpiry | .tdExpiry | .tcExpiry | .timerStart _ _ _ | .timerStop _ | .calDeadline _ | .secondEvent
  | .trackerShiftClose _ _ | .accountShiftClose _ _ | .shiftAssemblyArrival _ _ | .statusReport
  | .liftResultReport _ | .bucketReport _ | .targetReport _ | .calReport _ | .faultReport _ | .loadDrain
  | .unknownCommand _ | .identify _ | .readEntry _ | .readState _ | .readClock _ | .readCounters _ | .readFaults _
  | .readTotals _ | .calStatus _ | .targetOpen _ | .targetSelect _ | .targetClose _ | .deleteLastBucket _
  | .latchTotals _ | .readLoadLog _ | .clearFaults _ | .clearCounters _ | .enterConfig _ | .writeEntry _ | .commit _
  | .setClock _ | .calStart _ | .calAccept _ | .calDiscard _ | .arm _ | .disarm _ | .trigger _ | .softReset _
  | .bypass _ => false

/-- Every block takes the ENTER_CONFIG (R182). No timer trigger, notification or lift result from before reaches its block
after it, in CONFIG or in a later RUN (R67, R107, R144; log 44). -/
def State.takeEnterConfig (s : State) : State :=
  let s := s.endRunByConfig.resetTracker
  { s with
    acq := s.acq.stopAll
    time := s.time.enterConfig
    weigh := s.weigh.enterConfig
    mgt := { s.mgt with config := .config }
    handed := s.handed.filter fun c => !endsWithRun c }

/-- A request for TD or TC. -/
def dwellOrDeadline : Instr → Bool
  | .timerStart t _ _ => t == .td || t == .tc
  | .timerStop t => t == .td || t == .tc
  | .powerReset _ | .characterReceived _ _ | .ingressDown _ | .arbiterStart _ | .transmissionComplete _
  | .releaseLimitExpiry | .stalenessExpiry _ | .faultSet _ | .weighSample _ _ | .speedSample _ _
  | .weighStaleNotice _ | .candidateEvaluation _ | .dwellEnd _ | .pendingLift _ | .reversalNotice | .calLift _ _
  | .bucketCredit _ | .pendingLiftNotice | .nextTarget | .selectKey _ | .newTarget | .closeLoad | .deleteLast | .zero
  | .dispatchArrival _ _ | .dispatchDeparture _ | .conversionComplete _ | .queueTrigger _ | .tfExpiry | .tsExpiry
  | .trExpiry | .tdExpiry | .tcExpiry | .calDeadline _ | .secondEvent
  | .trackerShiftClose _ _ | .accountShiftClose _ _ | .shiftAssemblyArrival _ _ | .statusReport
  | .liftResultReport _ | .bucketReport _ | .targetReport _ | .calReport _ | .faultReport _ | .loadDrain
  | .unknownCommand _ | .identify _ | .readEntry _ | .readState _ | .readClock _ | .readCounters _ | .readFaults _
  | .readTotals _ | .calStatus _ | .targetOpen _ | .targetSelect _ | .targetClose _ | .deleteLastBucket _
  | .latchTotals _ | .readLoadLog _ | .clearFaults _ | .clearCounters _ | .enterConfig _ | .writeEntry _ | .commit _
  | .setClock _ | .calStart _ | .calAccept _ | .calDiscard _ | .arm _ | .disarm _ | .trigger _ | .softReset _
  | .bypass _ => false

/-- Every block takes the SOFT_RESET (R189). All five timers stop with reload 0; no request for TD or TC from before is
taken after it (R86; log 24), and no timer trigger, notification or lift result (R67, R107, R144; log 44). -/
def State.takeSoftReset (s : State) : State :=
  let s := s.endRunByConfig.resetTracker
  { s with
    link := s.link.softReset
    sig := s.sig.softReset
    acq := s.acq.softReset
    time := s.time.softReset
    weigh := s.weigh.softReset
    cal := s.cal.softReset
    trk := { s.trk with params := CycleRecord.zero }
    acc := { s.acc with params := ⟨0, 0⟩ }
    rep := s.rep.softReset
    mgt := { s.mgt with config := .unconfigured }
    handed := s.handed.filter fun c => !dwellOrDeadline c && !endsWithRun c }

/-! ### READ_STATE (R188) -/

/-- An optional record behind its presence byte; an absent one's bytes are 0 (log 18). -/
def optBytes {α : Type} (width : Nat) (bytes : α → List Byte) : Option α → List Byte
  | some x => presence true ++ bytes x
  | none => presence false ++ List.replicate width 0

/-- Section 0 (R188); of the two ports MP stands before DP, a relay queue being that of the port it sends at (log 52). -/
def linkSection (s : State) : List Byte :=
  let l := s.link
  enumByte relayStates l.relay ++ ingressByte l.ingress.mp.mode ++ ingressByte l.ingress.dp.mode
    ++ u8 l.relayQ.mp.length ++ u16 (relayBytes l.relayQ.mp) ++ u8 l.relayQ.dp.length ++ u16 (relayBytes l.relayQ.dp)
    ++ u8 (reportCount l.origQ.mp) ++ u8 (responseCount l.origQ.mp)
    ++ u8 (reportCount l.origQ.dp) ++ u8 (responseCount l.origQ.dp) ++ enumByte configStates s.mgt.config

def queueBytes (q : SampleQueue) : List Byte :=
  enumByte queueStates q.state ++ u8 q.position ++ u8 q.subStart ++ flagByte q.complete ++ flagByte q.pause
    ++ flagByte q.overrun

/-- Section 1 (R71). -/
def acquisitionSection (a : Acquisition) : List Byte :=
  queueBytes a.queues.fast ++ queueBytes a.queues.slow ++ flagByte a.released
    ++ optBytes 1 (fun c : Conversion => u8 c.word) a.conversion

def SampleQueue.clearFlags (q : SampleQueue) : SampleQueue :=
  { q with complete := false, pause := false, overrun := false }

/-- READ_STATE of section 1 clears the six flags (R54). -/
def Acquisition.clearFlags (a : Acquisition) : Acquisition :=
  { a with queues := ⟨a.queues.fast.clearFlags, a.queues.slow.clearFlags⟩ }

def timerBytes (t : TimeBase) (i : TimerId) : List Byte :=
  u16 (t.timer i).reload ++ u16 (timerCount i (t.timer i)) ++ flagByte (t.timer i).running

def timerSection (t : TimeBase) : List Byte := [TimerId.tf, .ts, .tr, .td, .tc].flatMap (timerBytes t)

/-- The progress of an open window (R106). The width of its sample count, and the clamp at 65535, are the model's choice
(log 43). -/
def windowBytes (w : WindowRecord) : List Byte :=
  u32 w.entryTag.toNat ++ s32 w.entryAngle ++ s32 w.highest ++ flagByte w.calFlag ++ u16 (min 65535 w.samples)
    ++ u8 w.coveredBins.length

def weighSection (w : Weighing) : List Byte :=
  enumByte weighStates w.state ++ u16 w.sequence.toNat ++ u16 w.reversals
    ++ optBytes 16 windowBytes (if w.state = .window then some w.window else none)

def liftSection (r : Option LiftResult) : List Byte := optBytes 27 liftRecord r

/-- Section 5 (R143). An absent remembered candidate is coded 0xFF (log 18). -/
def trackerSection (t : Tracker) : List Byte :=
  enumByte phases t.phase ++ optByte (t.candidate.map (codeIn phases))
    ++ optBytes 4 (fun x : TimeTag => u32 x.toNat) t.cycleStart ++ flagByte t.dumped ++ trackerFigures t.figures

def accountSection (a : Accounts) : List Byte :=
  optSlot a.pointer ++ flagByte a.overloadAhead ++ u8 a.log.records.length ++ u32 a.log.next ++ u8 a.log.missed
    ++ flagByte a.log.spent ++ flagByte a.log.inFlight ++ accountFigures a.totals ++ u16 a.shift.toNat
    ++ flagByte a.snapshot.latched ++ u16 a.openRefusals ++ u16 a.unknownDepartures ++ u16 a.unallocatedCredits

def matcherSection (c : MatcherCounters) : List Byte := u16 c.short ++ u16 c.unmapped ++ u16 c.dispatch

def slotSection (a : Accounts) (i : Fin 4) : List Byte :=
  let t := a.slot i
  enumByte targetStates t.state ++ u16 t.id ++ u32 t.capacity ++ s32 t.accumulated ++ u16 t.buckets ++ u16 t.unweighed
    ++ u16 t.marginal ++ u16 t.folded ++ s32 t.foldedPayload ++ u8 t.list.length ++ flagByte t.overloaded
    ++ flagByte (a.pointer == some i)

def slotTimesSection (t : TargetSlot) : List Byte :=
  clockBytes t.opened ++ clockBytes t.firstBucket ++ clockBytes t.lastBucket ++ optBytes 14 bucketEntry t.list.getLast?

/-- The slot of a section above its base; the sections of R188 name slots 0 to 3. -/
def slotNumber (n : Nat) : Fin 4 := Fin.ofNat 4 n

/-- One section of READ_STATE (R188). -/
def State.stateSection (s : State) (n : Nat) : List Byte :=
  match n with
  | 0 => linkSection s
  | 1 => acquisitionSection s.acq
  | 2 => timerSection s.time
  | 3 => weighSection s.weigh
  | 4 => liftSection s.weigh.last
  | 5 => trackerSection s.trk
  | 6 => liftSection s.trk.pending
  | 7 => accountSection s.acc
  | 8 => matcherSection s.sig.counters
  | n => if n < 13 then slotSection s.acc (slotNumber (n - 9)) else slotTimesSection (s.acc.slot (slotNumber (n - 13)))

end Sys2Proof.Machine
end

