-- ==== Sys2Proof/Machine/Management.lean ====
section
/-!
DEFINITION. The management unit (10): the taking of a request (R186) and every command's outcome (R187).
-/

namespace Sys2Proof.Machine

/-! ### Responses (R186, R192) -/

/-- The status codes, in the order of R192. -/
inductive Status where
  | ok
  | unknownCommand
  | denied
  | wrongMode
  | badTable
  | badIndex
  | badValue
  | busy
  | noEntry
  | duplicate
  | noSlot
  | routed
  | alreadyLatched
  | notLatched
  | noCal
  | calInvalid
  | invalidConfig
deriving DecidableEq, Repr

def statuses : List Status :=
  [.ok, .unknownCommand, .denied, .wrongMode, .badTable, .badIndex, .badValue, .busy, .noEntry, .duplicate, .noSlot,
    .routed, .alreadyLatched, .notLatched, .noCal, .calInvalid, .invalidConfig]

/-- What a command answers: the state after it, its status and its data. -/
structure Answer where
  state : State
  status : Status
  data : List Byte

/-- A refusal changes no state (R186). -/
def refuse (s : State) (status : Status) : Answer := ⟨s, status, []⟩

def answerOk (s : State) (data : List Byte) : Answer := ⟨s, .ok, data⟩

/-- The frame of a response (R186, R192). -/
def responseFrame (node : BitVec 4) (req : Request) (status : Status) (data : List Byte) : List Byte :=
  buildFrame 0xF1 req.source node req.tag ([req.code] ++ enumByte statuses status ++ data)

/-- A response joins the originate queue of the arrival port (R13, R186). -/
def State.respond (req : Request) (status : Status) (data : List Byte) (s : State) : State :=
  s.onLink fun l => l.joinOriginate req.port ⟨.response, responseFrame l.node req status data⟩

/-- A request is taken in RELAY and RELEASE only, and is dropped while its port's queue holds a response (R186; logs 9
and 10). -/
def State.whenTaken (req : Request) (handle : State → State) (s : State) : State :=
  if carries s.link.relay then
    if holdsResponse (s.link.origQ.get req.port) then s.busyDrop req.port else handle s
  else s

/-- The checks of R186 that come before the owning block's, for a command of a group that needs this much data. -/
def State.checked (group : Group) (need : Nat) (req : Request) (body : State → Answer) (s : State) : Answer :=
  if !hasGroup (s.mgt.inForce.get req.port) group then refuse s .denied
  else if req.data.length < need then refuse s .badValue
  else body s

/-- A request is taken, carried out or refused, and answered, in one event (R186). SOFT_RESET and BYPASS place their
response before they take effect (R189, R190); neither touches an originate queue, so the order does not show. -/
def State.serve (group : Group) (need : Nat) (req : Request) (body : State → Answer) (s : State) : State :=
  s.whenTaken req fun s =>
    let a := s.checked group need req body
    a.state.respond req a.status a.data

/-- UNKNOWN_COMMAND (R186, steps 1 and 2). -/
def execUnknownCommand (req : Request) (s : State) : Host.Outcome State Fault Refusal :=
  .next (State.whenTaken req (fun s => s.respond req .unknownCommand []) (s.take (.unknownCommand req)))

/-! ### INFO -/

def State.doIdentify (s : State) : Answer :=
  answerOk s (u8 58 ++ u8 2 ++ u8 s.link.node.toNat ++ enumByte configStates s.mgt.config
    ++ enumByte relayStates s.link.relay)

/-- IDENTIFY (R188). -/
def execIdentify (req : Request) (s : State) : Host.Outcome State Fault Refusal :=
  .next (State.serve .info 0 req State.doIdentify (s.take (.identify req)))

/-- The table and entry of a request exist (R183, checks 2 and 3). -/
def tableCheck (table index : Nat) : Option Status :=
  match entryCounts[table]? with
  | none => some .badTable
  | some n => if index < n then none else some .badIndex

def State.doReadEntry (req : Request) (s : State) : Answer :=
  let table := byteAt req.data 0
  let index := byteAt req.data 1
  match tableCheck table index with
  | some status => refuse s status
  | none => answerOk s (s.readTable table index)

/-- READ_ENTRY (R183). -/
def execReadEntry (req : Request) (s : State) : Host.Outcome State Fault Refusal :=
  .next (State.serve .info 2 req (State.doReadEntry req) (s.take (.readEntry req)))

def State.doReadState (req : Request) (s : State) : Answer :=
  let n := byteAt req.data 0
  if 16 < n then refuse s .badValue
  else answerOk (if n = 1 then s.onAcq Acquisition.clearFlags else s) (s.stateSection n)

/-- READ_STATE (R188). -/
def execReadState (req : Request) (s : State) : Host.Outcome State Fault Refusal :=
  .next (State.serve .info 1 req (State.doReadState req) (s.take (.readState req)))

def State.doReadClock (s : State) : Answer :=
  let t := s.time
  answerOk s (clockBytes t.clock ++ flagByte t.valid ++ u16 t.shiftNumber.toNat ++ u32 t.tag.toNat
    ++ u32 t.lastSecond.toNat)

/-- READ_CLOCK (R82). -/
def execReadClock (req : Request) (s : State) : Host.Outcome State Fault Refusal :=
  .next (State.serve .info 0 req State.doReadClock (s.take (.readClock req)))

def counterBytes (c : LinkCounters) : List Byte :=
  u16 c.good ++ u16 c.checkErrors ++ u16 c.runts ++ u16 c.giants ++ u16 c.aborts ++ u16 c.huntDiscards
    ++ u16 c.relayDrops ++ u16 c.busyDrops

def State.doReadCounters (s : State) : Answer :=
  answerOk s (counterBytes s.link.counters.mp ++ counterBytes s.link.counters.dp)

/-- READ_COUNTERS (R24). -/
def execReadCounters (req : Request) (s : State) : Host.Outcome State Fault Refusal :=
  .next (State.serve .info 0 req State.doReadCounters (s.take (.readCounters req)))

def State.doReadFaults (s : State) : Answer := answerOk s (faultContents s.mgt.faults)

/-- READ_FAULTS (R191). -/
def execReadFaults (req : Request) (s : State) : Host.Outcome State Fault Refusal :=
  .next (State.serve .info 0 req State.doReadFaults (s.take (.readFaults req)))

def snapshotBytes (x : Snapshot) : List Byte :=
  flagByte x.latched ++ accountFigures x.totals ++ trackerFigures x.figures ++ u16 x.shift.toNat ++ clockBytes x.clock
    ++ u32 x.tag.toNat

def State.doReadTotals (s : State) : Answer :=
  if s.acc.snapshot.latched then
    answerOk (s.onAcc fun a => { a with snapshot := { a.snapshot with latched := false } }) (snapshotBytes s.acc.snapshot)
  else refuse s .notLatched

/-- READ_TOTALS (R165). -/
def execReadTotals (req : Request) (s : State) : Host.Outcome State Fault Refusal :=
  .next (State.serve .info 0 req State.doReadTotals (s.take (.readTotals req)))

/-- The number of forces a record holds. -/
def presentCount (v : Vector (Option Int) 16) : Nat := v.toList.countP Option.isSome

/-- The summary of CAL_STATUS (R121). -/
def State.calSummary (s : State) : List Byte :=
  let c := s.cal
  enumByte runStates c.run ++ enumByte calKinds c.record.kind ++ flagByte c.record.keyStarted ++ u8 c.record.lifts
    ++ u16 c.record.mref ++ u8 c.record.accepted ++ u8 c.record.refused ++ enumByte calCauses c.record.cause
    ++ flagByte c.candidate.valid ++ u16 c.candidate.mref ++ s16 c.candidate.zeroOffset ++ u16 c.candidate.rate
    ++ u8 (presentCount c.candidate.empty) ++ u8 (presentCount c.candidate.reference) ++ flagByte c.active.valid
    ++ u16 (timerCount .tc s.time.timers.tc)

def Calibration.binStatus (c : Calibration) (b : Nat) : List Byte :=
  calBinBytes c.candidate b ++ u8 ((c.record.binLifts[b]?).getD 0)

/-- A summary or a bin (R121). The bin byte behind a presence byte of 0 is not looked at (log 46). -/
def State.doCalStatus (req : Request) (s : State) : Answer :=
  match flagAt req.data 0 with
  | some false => answerOk s s.calSummary
  | some true => if 15 < byteAt req.data 1 then refuse s .badValue else answerOk s (s.cal.binStatus (byteAt req.data 1))
  | none => refuse s .badValue

/-- CAL_STATUS (R121). -/
def execCalStatus (req : Request) (s : State) : Host.Outcome State Fault Refusal :=
  .next (State.serve .info 2 req (State.doCalStatus req) (s.take (.calStatus req)))

/-! ### OPERATE -/

/-- A command taken in RUN only. -/
def State.inRun (s : State) (body : Answer) : Answer := if s.mgt.config = .run then body else refuse s .wrongMode

/-- TARGET_OPEN's checks and effect (R155; log 34). -/
def State.doTargetOpen (req : Request) (s : State) : Answer :=
  let id := natAt req.data 0 2
  let capacity := natAt req.data 2 4
  s.inRun
    (match flagAt req.data 6 with
    | none => refuse s .badValue
    | some current =>
      if !capacityOk capacity then refuse s .badValue
      else if id ≠ 0 ∧ (s.acc.holder id).isSome then refuse s .duplicate
      else match s.acc.lowestFree with
        | none => refuse s .noSlot
        | some i => answerOk (s.openTarget i id capacity current) (u8 i))

/-- TARGET_OPEN (R155). -/
def execTargetOpen (req : Request) (s : State) : Host.Outcome State Fault Refusal :=
  .next (State.serve .operate 7 req (State.doTargetOpen req) (s.take (.targetOpen req)))

/-- The held slot a request names by its first data byte. -/
def State.namedSlot (req : Request) (s : State) : Option (Fin 4) :=
  (finAt 4 req.data 0).filter fun i => (s.acc.slot i).held

/-- TARGET_SELECT evaluates overload-ahead afresh whether or not the pointer moved (R155). -/
def State.doTargetSelect (req : Request) (s : State) : Answer :=
  s.inRun
    (match s.namedSlot req with
    | some i => answerOk (s.selectTarget i).evalAhead []
    | none => refuse s .badIndex)

/-- TARGET_SELECT (R155). -/
def execTargetSelect (req : Request) (s : State) : Host.Outcome State Fault Refusal :=
  .next (State.serve .operate 1 req (State.doTargetSelect req) (s.take (.targetSelect req)))

def State.doTargetClose (req : Request) (s : State) : Answer :=
  s.inRun
    (match s.namedSlot req with
    | some i => answerOk (s.closeSlot i .command) []
    | none => refuse s .badIndex)

/-- TARGET_CLOSE (R159). -/
def execTargetClose (req : Request) (s : State) : Host.Outcome State Fault Refusal :=
  .next (State.serve .operate 1 req (State.doTargetClose req) (s.take (.targetClose req)))

def State.doDeleteLastBucket (s : State) : Answer :=
  s.inRun
    (match s.acc.lastBucket with
    | some (i, e) => answerOk (s.removeBucket i e) []
    | none => refuse s .noEntry)

/-- DELETE_LAST_BUCKET (R157). -/
def execDeleteLastBucket (req : Request) (s : State) : Host.Outcome State Fault Refusal :=
  .next (State.serve .operate 0 req State.doDeleteLastBucket (s.take (.deleteLastBucket req)))

def State.doLatchTotals (s : State) : Answer :=
  if s.acc.snapshot.latched then refuse s .alreadyLatched else answerOk s.latch []

/-- LATCH_TOTALS (R165). -/
def execLatchTotals (req : Request) (s : State) : Host.Outcome State Fault Refusal :=
  .next (State.serve .operate 0 req State.doLatchTotals (s.take (.latchTotals req)))

def State.doReadLoadLog (s : State) : Answer :=
  if s.rep.route .load ≠ .off then refuse s .routed
  else if s.acc.log.inFlight then refuse s .busy
  else match s.acc.log.records with
    | [] => refuse s .noEntry
    | r :: rest =>
      answerOk (s.onAcc fun a => { a with log := { a.log with records := rest } }) (loadRecord r ++ u8 rest.length)

/-- READ_LOAD_LOG (R163). -/
def execReadLoadLog (req : Request) (s : State) : Host.Outcome State Fault Refusal :=
  .next (State.serve .operate 0 req State.doReadLoadLog (s.take (.readLoadLog req)))

def State.doClearFaults (s : State) : Answer :=
  answerOk (s.onMgt fun m => { m with faults := 0 }) (faultContents s.mgt.faults)

/-- CLEAR_FAULTS (R191). -/
def execClearFaults (req : Request) (s : State) : Host.Outcome State Fault Refusal :=
  .next (State.serve .operate 0 req State.doClearFaults (s.take (.clearFaults req)))

/-- The counters that CLEAR_COUNTERS clears (R188). -/
def State.clearCounters (s : State) : State :=
  { s with
    link := { s.link with counters := ⟨LinkCounters.zero, LinkCounters.zero⟩ }
    sig := { s.sig with counters := ⟨0, 0, 0⟩ }
    weigh := { s.weigh with reversals := 0 }
    acc := { s.acc with openRefusals := 0, unknownDepartures := 0, unallocatedCredits := 0 } }

/-- CLEAR_COUNTERS (R188). -/
def execClearCounters (req : Request) (s : State) : Host.Outcome State Fault Refusal :=
  .next (State.serve .operate 0 req (fun s => answerOk s.clearCounters []) (s.take (.clearCounters req)))

/-! ### CONFIG -/

def State.doEnterConfig (s : State) : Answer :=
  if s.mgt.config = .config then refuse s .wrongMode
  else answerOk s.takeEnterConfig (enumByte configStates .config)

/-- ENTER_CONFIG (R182). -/
def execEnterConfig (req : Request) (s : State) : Host.Outcome State Fault Refusal :=
  .next (State.serve .config 0 req State.doEnterConfig (s.take (.enterConfig req)))

/-- WRITE_ENTRY, by the checks of R183. -/
def State.doWriteEntry (req : Request) (s : State) : Answer :=
  let table := byteAt req.data 0
  let index := byteAt req.data 1
  if s.mgt.config ≠ .config then refuse s .wrongMode
  else match tableCheck table index with
    | some status => refuse s status
    | none =>
      if (table = 6 ∨ table = 7) ∧ !s.acq.bothOff then refuse s .busy
      else match s.writeTable table index (req.data.drop 2) with
        | some s' => answerOk s' []
        | none => refuse s .badValue

/-- WRITE_ENTRY (R183). -/
def execWriteEntry (req : Request) (s : State) : Host.Outcome State Fault Refusal :=
  .next (State.serve .config 2 req (State.doWriteEntry req) (s.take (.writeEntry req)))

def State.doCommit (s : State) : Answer :=
  if s.mgt.config ≠ .config then refuse s .wrongMode
  else match s.commitFailure with
    | some (table, index) => ⟨s, .invalidConfig, u8 table ++ u8 index⟩
    | none => answerOk s.takeCommit []

/-- COMMIT (R184). -/
def execCommit (req : Request) (s : State) : Host.Outcome State Fault Refusal :=
  .next (State.serve .config 0 req State.doCommit (s.take (.commit req)))

def State.doSetClock (req : Request) (s : State) : Answer :=
  let c := clockAt req.data 0
  match c.badField with
  | some n => ⟨s, .badValue, u8 n⟩
  | none => answerOk (s.onTime fun t => t.load c) (clockBytes c)

/-- SET_CLOCK (R81). -/
def execSetClock (req : Request) (s : State) : Host.Outcome State Fault Refusal :=
  .next (State.serve .config 7 req (State.doSetClock req) (s.take (.setClock req)))

/-- The lift count and Mref of a start lie in range for its kind (R113, check 2). -/
def startInRange (kind : CalKind) (lifts mref : Nat) : Bool :=
  match kind with
  | .empty => inRange 3 8 lifts
  | .reference => inRange 3 8 lifts && inRange 500 30000 mref
  | .zero => lifts == 1

/-- The run Mref of a kind (R112). -/
def runMref (kind : CalKind) (mref : Nat) : Nat :=
  match kind with
  | .empty => 0
  | .reference => mref
  | .zero => 0

def State.doCalStart (req : Request) (s : State) : Answer :=
  let lifts := byteAt req.data 1
  let mref := natAt req.data 2 2
  s.inRun
    (match enumAt calKinds req.data 0 with
    | none => refuse s .badValue
    | some kind =>
      if !startInRange kind lifts mref then refuse s .badValue
      else if s.cal.run ≠ .off then refuse s .busy
      else if kind = .zero ∧ !s.cal.active.valid then refuse s .noCal
      else answerOk (s.startRun kind false lifts (runMref kind mref)) (enumByte calKinds kind ++ u8 lifts))

/-- CAL_START needs its kind and N, and for REFERENCE an Mref (R113; log 14). -/
def calStartNeed (req : Request) : Nat := if byteAt req.data 0 = 1 then 4 else 2

/-- CAL_START (R113). -/
def execCalStart (req : Request) (s : State) : Host.Outcome State Fault Refusal :=
  .next (State.serve .config (calStartNeed req) req (State.doCalStart req) (s.take (.calStart req)))

def State.doCalAccept (s : State) : Answer :=
  if s.cal.run ≠ .review then refuse s .wrongMode
  else if s.cal.candidate.valid then answerOk s.acceptRun [] else refuse s .calInvalid

/-- CAL_ACCEPT (R119). -/
def execCalAccept (req : Request) (s : State) : Host.Outcome State Fault Refusal :=
  .next (State.serve .config 0 req State.doCalAccept (s.take (.calAccept req)))

def State.doCalDiscard (s : State) : Answer :=
  if s.cal.run = .off then refuse s .wrongMode else answerOk s.discardRun []

/-- CAL_DISCARD (R120). -/
def execCalDiscard (req : Request) (s : State) : Host.Outcome State Fault Refusal :=
  .next (State.serve .config 0 req State.doCalDiscard (s.take (.calDiscard req)))

/-! ### CONTROL -/

/-- The response data of QUEUE_CONTROL (R63). -/
def Acquisition.controlData (a : Acquisition) (q : QueueId) : List Byte :=
  enumByte queueStates (a.queue q).state ++ u8 (a.queue q).position ++ flagByte (a.queue q).overrun

/-- QUEUE_CONTROL's mode check, then the queue it names (R63). A queue byte that names neither queue is refused BAD_VALUE,
after the mode check; the status and its place are the model's choice (log 15). -/
def State.onQueue (req : Request) (body : QueueId → State → Answer) (s : State) : Answer :=
  if s.mgt.config = .unconfigured then refuse s .wrongMode
  else match enumAt [QueueId.fast, .slow] req.data 0 with
    | some q => body q s
    | none => refuse s .badValue

def accepted (q : QueueId) (s : State) : Answer := answerOk s (s.acq.controlData q)

def State.doArm (req : Request) (q : QueueId) (s : State) : Answer :=
  if byteAt req.data 1 ≠ 0 then refuse s .badValue
  else if s.acq.released then refuse s .wrongMode
  else if (s.acq.setup.get q).mode = .off ∨ (s.acq.word (s.acq.firstWord q)).channel.isNone then refuse s .badValue
  else accepted q (s.onAcq fun a => a.armQueue q)

/-- ARM (R64). An operation the rule does not list is refused BAD_VALUE here (log 15). -/
def execArm (req : Request) (s : State) : Host.Outcome State Fault Refusal :=
  .next (State.serve .control 2 req (State.onQueue req (State.doArm req)) (s.take (.arm req)))

def State.doDisarm (q : QueueId) (s : State) : Answer := accepted q (s.onAcq fun a => a.disarmQueue q)

/-- DISARM (R65). -/
def execDisarm (req : Request) (s : State) : Host.Outcome State Fault Refusal :=
  .next (State.serve .control 2 req (State.onQueue req State.doDisarm) (s.take (.disarm req)))

def State.doTrigger (q : QueueId) (s : State) : Answer :=
  if (s.acq.setup.get q).trigger = .timer then refuse s .badValue else accepted q (s.triggerQueue q)

/-- TRIGGER (R66). -/
def execTrigger (req : Request) (s : State) : Host.Outcome State Fault Refusal :=
  .next (State.serve .control 2 req (State.onQueue req State.doTrigger) (s.take (.trigger req)))

/-- SOFT_RESET (R189). -/
def execSoftReset (req : Request) (s : State) : Host.Outcome State Fault Refusal :=
  .next (State.serve .control 0 req (fun s => answerOk s.takeSoftReset []) (s.take (.softReset req)))

def State.doBypass (s : State) : Answer :=
  answerOk (if s.link.relay = .relay then s.enterRelease else s) (enumByte relayStates .release)

/-- BYPASS (R190). -/
def execBypass (req : Request) (s : State) : Host.Outcome State Fault Refusal :=
  .next (State.serve .control 0 req State.doBypass (s.take (.bypass req)))

end Sys2Proof.Machine
end

