-- ==== Sys2Proof/Machine/Idle.lean ====
section
/-!
DEFINITION. What the part does with no command waiting (log 3): an arbiter starts a frame at the first moment it can
(R16); then requests handed between blocks are taken, in order; then what has fallen due; otherwise one microsecond
passes (R73).
-/

namespace Sys2Proof.Machine

/-! ### What comes next -/

def bothPorts : List Port := [.mp, .dp]

/-- A port's arbiter would start a frame now (R16). -/
def Link.arbiterDue (l : Link) (p : Port) : Bool := l.arbiterReady p && (l.choice p).isSome

/-- The transmission of a port has run its time (R14). -/
def Link.transmissionDue (l : Link) (p : Port) : Bool := (l.egress.get p).tx.any fun t => t.left == 0

def allTimers : List (TimerId × Instr) :=
  [(.tf, .tfExpiry), (.ts, .tsExpiry), (.tr, .trExpiry), (.td, .tdExpiry), (.tc, .tcExpiry)]

def allSignalSlots : List (Fin 32) := List.ofFn id

/-- The events whose time has come, in the model's order (log 3), but for the conversion. -/
def State.dueEvents (s : State) : List Instr :=
  ((bothPorts.filter fun p => (s.link.ingress.get p).downDue).map Instr.ingressDown)
    ++ ((bothPorts.filter s.link.transmissionDue).map Instr.transmissionComplete)
    ++ ((allTimers.filter fun t => timerDue (s.time.timer t.1)).map Prod.snd)
    ++ (if s.time.secondLeft = 0 then [.secondEvent] else [])
    ++ ((allSignalSlots.filter fun i => s.sig.slots[i].staleDue).map Instr.stalenessExpiry)
    ++ (if s.link.relay = .release ∧ s.link.limit = .running 0 then [.releaseLimitExpiry] else [])

/-- The conversion in flight has run its time (R47). -/
def Acquisition.conversionDue (a : Acquisition) : Bool := a.conversion.any fun c => c.left == 0

/-- The conversion completes with a free result (R47; log 5), and the model's count of them goes on. -/
def State.freeConversion (s : State) : Instr × State :=
  (.conversionComplete (Config.converterResult s.acq.freeReads),
    s.onAcq fun a => { a with freeReads := a.freeReads + 1 })

/-- The event that comes next, and the state it is taken in; none when only time passes (logs 3 and 28). -/
def State.nextEvent (s : State) : Option (Instr × State) :=
  match bothPorts.find? s.link.arbiterDue with
  | some p => some (.arbiterStart p, s)
  | none =>
    match s.handed with
    | c :: _ => some (c, s)
    | [] =>
      if s.acq.conversionDue then some s.freeConversion
      else match s.dueEvents with
        | c :: _ => some (c, s)
        | [] => none

/-! ### One microsecond -/

def Timer.tick (t : Timer) : Timer := if t.running then { t with left := t.left - 1 } else t

def TimeBase.tick (t : TimeBase) : TimeBase :=
  { t with
    tag := t.tag + 1
    timers := ⟨t.timers.tf.tick, t.timers.ts.tick, t.timers.tr.tick, t.timers.td.tick, t.timers.tc.tick⟩
    secondLeft := t.secondLeft - 1 }

def Acquisition.tick (a : Acquisition) : Acquisition :=
  { a with conversion := a.conversion.map fun c => { c with left := c.left - 1 } }

def SlotLive.tick (v : SlotLive) : SlotLive :=
  { v with timer := v.timer.map fun t => { t with elapsed := t.elapsed + 1 } }

def Signals.tick (g : Signals) : Signals := { g with slots := g.slots.map SlotLive.tick }

/-- Silence is counted up to the 2 ms of R6. -/
def Ingress.tick (i : Ingress) : Ingress := { i with silence := satInc 2000 i.silence }

def ReleaseLimit.tick : ReleaseLimit → ReleaseLimit
  | .running left => .running (left - 1)
  | .stopped => .stopped
  | .expired => .expired

/-- A transmitter sends on: its frame, or SPACE characters of 10 µs, counted up to the largest minimum gap (R14, R15). -/
def Egress.tick (e : Egress) : Egress :=
  match e.tx with
  | some t => { e with tx := some { t with left := t.left - 1 } }
  | none =>
    if e.spaceUs = 9 then { e with spaceUs := 0, gap := satInc 15 e.gap } else { e with spaceUs := e.spaceUs + 1 }

/-- A transmitter that is cut off sends nothing (R18). -/
def Link.tick (l : Link) : Link :=
  { l with
    ingress := ⟨l.ingress.mp.tick, l.ingress.dp.tick⟩
    limit := l.limit.tick
    egress := if carries l.relay then ⟨l.egress.mp.tick, l.egress.dp.tick⟩ else l.egress }

/-- One microsecond passes (R73). -/
def State.tick (s : State) : State :=
  { s with link := s.link.tick, sig := s.sig.tick, acq := s.acq.tick, time := s.time.tick }

end Sys2Proof.Machine
end

