-- ==== Sys2Proof/Machine/Dispatch.lean ====
section
/-!
DEFINITION. The dispatch of a command to its meaning: one arm per constructor.
-/

namespace Sys2Proof.Machine

def exec (i : Instr) (s : State) : Host.Outcome State Fault Refusal :=
  match i with
  | .powerReset straps => Sys2Proof.Machine.execPowerReset straps s
  | .characterReceived port c => Sys2Proof.Machine.execCharacterReceived port c s
  | .ingressDown port => Sys2Proof.Machine.execIngressDown port s
  | .arbiterStart port => Sys2Proof.Machine.execArbiterStart port s
  | .transmissionComplete port => Sys2Proof.Machine.execTransmissionComplete port s
  | .releaseLimitExpiry => Sys2Proof.Machine.execReleaseLimitExpiry s
  | .stalenessExpiry slot => Sys2Proof.Machine.execStalenessExpiry slot s
  | .faultSet flag => Sys2Proof.Machine.execFaultSet flag s
  | .weighSample angle tag => Sys2Proof.Machine.execWeighSample angle tag s
  | .speedSample speed tag => Sys2Proof.Machine.execSpeedSample speed tag s
  | .weighStaleNotice role => Sys2Proof.Machine.execWeighStaleNotice role s
  | .candidateEvaluation notice => Sys2Proof.Machine.execCandidateEvaluation notice s
  | .dwellEnd start => Sys2Proof.Machine.execDwellEnd start s
  | .pendingLift result => Sys2Proof.Machine.execPendingLift result s
  | .reversalNotice => Sys2Proof.Machine.execReversalNotice s
  | .calLift result forces => Sys2Proof.Machine.execCalLift result forces s
  | .bucketCredit credit => Sys2Proof.Machine.execBucketCredit credit s
  | .pendingLiftNotice => Sys2Proof.Machine.execPendingLiftNotice s
  | .nextTarget => Sys2Proof.Machine.execNextTarget s
  | .selectKey slot => Sys2Proof.Machine.execSelectKey slot s
  | .newTarget => Sys2Proof.Machine.execNewTarget s
  | .closeLoad => Sys2Proof.Machine.execCloseLoad s
  | .deleteLast => Sys2Proof.Machine.execDeleteLast s
  | .zero => Sys2Proof.Machine.execZero s
  | .dispatchArrival id capacity => Sys2Proof.Machine.execDispatchArrival id capacity s
  | .dispatchDeparture id => Sys2Proof.Machine.execDispatchDeparture id s
  | .conversionComplete result => Sys2Proof.Machine.execConversionComplete result s
  | .queueTrigger queue => Sys2Proof.Machine.execQueueTrigger queue s
  | .tfExpiry => Sys2Proof.Machine.execTfExpiry s
  | .tsExpiry => Sys2Proof.Machine.execTsExpiry s
  | .trExpiry => Sys2Proof.Machine.execTrExpiry s
  | .tdExpiry => Sys2Proof.Machine.execTdExpiry s
  | .tcExpiry => Sys2Proof.Machine.execTcExpiry s
  | .timerStart timer reload start => Sys2Proof.Machine.execTimerStart timer reload start s
  | .timerStop timer => Sys2Proof.Machine.execTimerStop timer s
  | .calDeadline start => Sys2Proof.Machine.execCalDeadline start s
  | .secondEvent => Sys2Proof.Machine.execSecondEvent s
  | .trackerShiftClose closing new => Sys2Proof.Machine.execTrackerShiftClose closing new s
  | .accountShiftClose closing new => Sys2Proof.Machine.execAccountShiftClose closing new s
  | .shiftAssemblyArrival closing part => Sys2Proof.Machine.execShiftAssemblyArrival closing part s
  | .statusReport => Sys2Proof.Machine.execStatusReport s
  | .liftResultReport result => Sys2Proof.Machine.execLiftResultReport result s
  | .bucketReport report => Sys2Proof.Machine.execBucketReport report s
  | .targetReport report => Sys2Proof.Machine.execTargetReport report s
  | .calReport report => Sys2Proof.Machine.execCalReport report s
  | .faultReport set => Sys2Proof.Machine.execFaultReport set s
  | .loadDrain => Sys2Proof.Machine.execLoadDrain s
  | .unknownCommand req => Sys2Proof.Machine.execUnknownCommand req s
  | .identify req => Sys2Proof.Machine.execIdentify req s
  | .readEntry req => Sys2Proof.Machine.execReadEntry req s
  | .readState req => Sys2Proof.Machine.execReadState req s
  | .readClock req => Sys2Proof.Machine.execReadClock req s
  | .readCounters req => Sys2Proof.Machine.execReadCounters req s
  | .readFaults req => Sys2Proof.Machine.execReadFaults req s
  | .readTotals req => Sys2Proof.Machine.execReadTotals req s
  | .calStatus req => Sys2Proof.Machine.execCalStatus req s
  | .targetOpen req => Sys2Proof.Machine.execTargetOpen req s
  | .targetSelect req => Sys2Proof.Machine.execTargetSelect req s
  | .targetClose req => Sys2Proof.Machine.execTargetClose req s
  | .deleteLastBucket req => Sys2Proof.Machine.execDeleteLastBucket req s
  | .latchTotals req => Sys2Proof.Machine.execLatchTotals req s
  | .readLoadLog req => Sys2Proof.Machine.execReadLoadLog req s
  | .clearFaults req => Sys2Proof.Machine.execClearFaults req s
  | .clearCounters req => Sys2Proof.Machine.execClearCounters req s
  | .enterConfig req => Sys2Proof.Machine.execEnterConfig req s
  | .writeEntry req => Sys2Proof.Machine.execWriteEntry req s
  | .commit req => Sys2Proof.Machine.execCommit req s
  | .setClock req => Sys2Proof.Machine.execSetClock req s
  | .calStart req => Sys2Proof.Machine.execCalStart req s
  | .calAccept req => Sys2Proof.Machine.execCalAccept req s
  | .calDiscard req => Sys2Proof.Machine.execCalDiscard req s
  | .arm req => Sys2Proof.Machine.execArm req s
  | .disarm req => Sys2Proof.Machine.execDisarm req s
  | .trigger req => Sys2Proof.Machine.execTrigger req s
  | .softReset req => Sys2Proof.Machine.execSoftReset req s
  | .bypass req => Sys2Proof.Machine.execBypass req s

end Sys2Proof.Machine
end

