-- ==== Sys2Proof/Machine/Step.lean ====
section
/-!
DEFINITION. One step: the command at the front of the queue, or with none waiting the event that comes next, or one
microsecond (log 3).
-/

namespace Sys2Proof.Machine

def step (s : State) : Host.Outcome State Fault Refusal :=
  match s.pending with
  | c :: rest => exec c { s with pending := rest }
  | [] =>
    match s.nextEvent with
    | some (c, s') => exec c s'
    | none => .next s.tick

/-- The state with the command that a word spells at the front of its queue (log 31). -/
def State.withFetchWord (s : State) (nbits w : Nat) : State :=
  match decodeTableWord nbits w with
  | some c => { s with pending := c :: s.pending }
  | none => s

end Sys2Proof.Machine
end

