-- ==== Sys2Proof/WellFormed.lean ====
section
/-!
DEFINITION. Which terms of the syntax are commands the spec allows: operands in their ranges, and the relations the
spec states between them. The machine gives every term an effect; a term that is not well formed is one that neither
the line nor a block can produce.
-/

namespace Sys2Proof

/-! ### Ranges -/

/-- A signed 32-bit value (R39). -/
def signed32 (x : Int) : Bool := decide (-2147483648 ≤ x ∧ x ≤ 2147483647)

def idOk (id : Nat) : Bool := decide (1 ≤ id ∧ id ≤ 65535)

/-- 0, or 1000 to 250000 kg (R146). -/
def capacityInRange (c : Nat) : Bool := c == 0 || decide (1000 ≤ c ∧ c ≤ 250000)

/-- The roles whose staleness reaches the weighing engine (R44). -/
def staleToWeighing : Role → Bool
  | .headP => true
  | .rodP => true
  | .boom => true
  | .tilt => true
  | .speed => false
  | .pitch => false
  | .park => false

/-- The roles whose writes reach the cycle tracker (R44). -/
def writeToTracker : Role → Bool
  | .headP => true
  | .rodP => false
  | .boom => true
  | .tilt => true
  | .speed => false
  | .pitch => false
  | .park => true

/-- The roles whose staleness reaches the cycle tracker (R44). -/
def staleToTracker : Role → Bool
  | .headP => true
  | .rodP => true
  | .boom => true
  | .tilt => true
  | .speed => false
  | .pitch => false
  | .park => true

/-- A notification that the signal table sends to the cycle tracker (R44). -/
def Notice.toTracker : Notice → Bool
  | .written r v _ => writeToTracker r && signed32 v
  | .stale r => staleToTracker r

/-! ### Records -/

/-- A lift result as R105 gives it: a payload and an empty reason set exactly for GOOD and MARGINAL. -/
def LiftResult.wellFormed (r : LiftResult) : Bool :=
  (r.payload.isSome == (r.grade != .rejected)) && ((r.reasons == 0) == (r.grade != .rejected))
    && decide (r.samples ≤ 65535) && decide (r.binsCovered ≤ 16)
    && r.payload.all signed32 && r.spread.all (fun x => decide (0 ≤ x ∧ x ≤ 4294967295))
    && r.rate.all (fun x => decide (0 ≤ x ∧ x ≤ 65535)) && r.meanPitch.all signed32

/-- A credit as R137 hands it: no lift sequence and payload 0 exactly for an unweighed bucket. -/
def Credit.wellFormed (c : Credit) : Bool :=
  (c.sequence.isNone == (c.grade == .unweighed)) && (c.grade != .unweighed || c.payload == 0) && signed32 c.payload

/-- An entry as R147 gives it. -/
def BucketEntry.wellFormed (e : BucketEntry) : Bool :=
  (e.sequence.isNone == (e.grade == .unweighed)) && (e.grade != .unweighed || e.payload == 0) && signed32 e.payload

def BucketReport.wellFormed (b : BucketReport) : Bool := b.entry.wellFormed && decide (b.buckets ≤ 65535)

/-- A TARGET report carries a removed entry exactly for REMOVED (R193), and no slot only for SELECTED (R149). -/
def TargetReport.wellFormed (t : TargetReport) : Bool :=
  (t.removed.isSome == (t.event == .removed)) && (t.figures.slot.isSome || t.event == .selected)
    && decide (t.figures.id ≤ 65535) && capacityInRange t.figures.capacity && decide (t.figures.buckets ≤ 65535)
    && t.removed.all BucketEntry.wellFormed

def CalReport.wellFormed (c : CalReport) : Bool := decide (c.accepted ≤ 8) && decide (c.refused ≤ 255)

/-- A one-shot's start carries a reload, a periodic timer's does not (R74 to R76). -/
def startWellFormed (t : TimerId) (reload : Option Nat) : Bool :=
  match t with
  | .tf => reload.isNone
  | .ts => reload.isNone
  | .tr => reload.isNone
  | .td => reload.isSome && reload.all (fun v => decide (v ≤ 65535))
  | .tc => reload.isSome && reload.all (fun v => decide (v ≤ 65535))

/-! ### Requests (R192) -/

/-- The codes that name a command. -/
def commandCodes : List Nat :=
  [0x10, 0x11, 0x12, 0x13, 0x14, 0x15, 0x16, 0x17, 0x20, 0x21, 0x22, 0x23, 0x24, 0x25, 0x26, 0x27, 0x30, 0x31, 0x32, 0x33,
    0x34, 0x35, 0x36, 0x40, 0x41, 0x42]

/-- A request of one command: its code, and at most the 59 data bytes that a payload of 60 leaves. -/
def Request.names (r : Request) (code : Nat) : Bool := r.code.toNat == code && decide (r.data.length ≤ 59)

/-- A request of QUEUE_CONTROL with one operation. -/
def Request.operates (r : Request) (operation : Nat) : Bool :=
  r.names 0x40 && r.data[1]?.any fun b => b.toNat == operation

/-- The operation of a QUEUE_CONTROL request is DISARM or TRIGGER. -/
def Request.otherOperation (r : Request) : Bool := r.operates 1 || r.operates 2

/-! ### Commands -/

def Instr.wellFormed : Instr → Bool
  | .powerReset _ => true
  | .characterReceived _ _ => true
  | .ingressDown _ => true
  | .arbiterStart _ => true
  | .transmissionComplete _ => true
  | .releaseLimitExpiry => true
  | .stalenessExpiry _ => true
  | .faultSet _ => true
  | .weighSample angle _ => signed32 angle
  | .speedSample speed _ => signed32 speed
  | .weighStaleNotice r => staleToWeighing r
  | .candidateEvaluation n => n.toTracker
  | .dwellEnd _ => true
  | .pendingLift r => r.wellFormed && !r.calFlag
  | .reversalNotice => true
  | .calLift r _ => r.wellFormed && r.calFlag
  | .bucketCredit c => c.wellFormed
  | .pendingLiftNotice => true
  | .nextTarget => true
  | .selectKey _ => true
  | .newTarget => true
  | .closeLoad => true
  | .deleteLast => true
  | .zero => true
  | .dispatchArrival id capacity => idOk id && capacityInRange capacity
  | .dispatchDeparture id => idOk id
  | .conversionComplete _ => true
  | .queueTrigger _ => true
  | .tfExpiry => true
  | .tsExpiry => true
  | .trExpiry => true
  | .tdExpiry => true
  | .tcExpiry => true
  | .timerStart t reload _ => startWellFormed t reload
  | .timerStop _ => true
  | .calDeadline _ => true
  | .secondEvent => true
  | .trackerShiftClose closing new => new == closing + 1
  | .accountShiftClose closing new => new == closing + 1
  | .shiftAssemblyArrival _ _ => true
  | .statusReport => true
  | .liftResultReport r => r.wellFormed
  | .bucketReport b => b.wellFormed
  | .targetReport t => t.wellFormed
  | .calReport c => c.wellFormed
  | .faultReport set => set != 0
  | .loadDrain => true
  | .unknownCommand r => !commandCodes.contains r.code.toNat && decide (r.data.length ≤ 59)
  | .identify r => r.names 0x10
  | .readEntry r => r.names 0x11
  | .readState r => r.names 0x12
  | .readClock r => r.names 0x13
  | .readCounters r => r.names 0x14
  | .readFaults r => r.names 0x15
  | .readTotals r => r.names 0x16
  | .calStatus r => r.names 0x17
  | .targetOpen r => r.names 0x20
  | .targetSelect r => r.names 0x21
  | .targetClose r => r.names 0x22
  | .deleteLastBucket r => r.names 0x23
  | .latchTotals r => r.names 0x24
  | .readLoadLog r => r.names 0x25
  | .clearFaults r => r.names 0x26
  | .clearCounters r => r.names 0x27
  | .enterConfig r => r.names 0x30
  | .writeEntry r => r.names 0x31
  | .commit r => r.names 0x32
  | .setClock r => r.names 0x33
  | .calStart r => r.names 0x34
  | .calAccept r => r.names 0x35
  | .calDiscard r => r.names 0x36
  | .arm r => r.names 0x40 && !r.otherOperation
  | .disarm r => r.operates 1
  | .trigger r => r.operates 2
  | .softReset r => r.names 0x41
  | .bypass r => r.names 0x42

end Sys2Proof
end

