-- ==== Sys2Proof/Safety.lean ====
section
/-!
DEFINITION. The words the statements use: which requests the part takes, what a response adds to the link, and the
invariants of the blocks. The part stops on no command, so a safe run is one on which the invariants hold.
-/

namespace Sys2Proof.Machine

/-! ### Requests and responses (R186) -/

/-- The part takes a request now: the line is carried, and the port's originate queue holds no response. -/
def State.canTake (s : State) (req : Request) : Prop :=
  carries s.link.relay = true ∧ holdsResponse (s.link.origQ.get req.port) = false

/-- The part takes a request now, and its port has a command group in force. -/
def State.admits (s : State) (group : Group) (req : Request) : Prop :=
  s.canTake req ∧ hasGroup (s.mgt.inForce.get req.port) group = true

/-- A link with one response more. -/
def Link.answered (l : Link) (req : Request) (status : Status) (data : List Byte) : Link :=
  l.joinOriginate req.port ⟨.response, responseFrame l.node req status data⟩

/-- The state after a command that changes nothing but for its answer: the command is taken, the response queued. -/
def State.answers (s : State) (c : Instr) (req : Request) (status : Status) (data : List Byte) : State :=
  { s with link := s.link.answered req status data, handed := s.handed.erase c }

/-- The group of a management command (R187). -/
def commandGroup : Instr → Option Group
  | .identify _ | .readEntry _ | .readState _ | .readClock _ | .readCounters _ | .readFaults _ | .readTotals _
  | .calStatus _ => some .info
  | .targetOpen _ | .targetSelect _ | .targetClose _ | .deleteLastBucket _ | .latchTotals _ | .readLoadLog _
  | .clearFaults _ | .clearCounters _ => some .operate
  | .enterConfig _ | .writeEntry _ | .commit _ | .setClock _ | .calStart _ | .calAccept _ | .calDiscard _ =>
    some .config
  | .arm _ | .disarm _ | .trigger _ | .softReset _ | .bypass _ => some .control
  | .powerReset _ | .characterReceived _ _ | .ingressDown _ | .arbiterStart _ | .transmissionComplete _
  | .releaseLimitExpiry | .stalenessExpiry _ | .faultSet _ | .weighSample _ _ | .speedSample _ _
  | .weighStaleNotice _ | .candidateEvaluation _ | .dwellEnd _ | .pendingLift _ | .reversalNotice | .calLift _ _
  | .bucketCredit _ | .pendingLiftNotice | .nextTarget | .selectKey _ | .newTarget | .closeLoad | .deleteLast | .zero
  | .dispatchArrival _ _ | .dispatchDeparture _ | .conversionComplete _ | .queueTrigger _ | .tfExpiry | .tsExpiry
  | .trExpiry | .tdExpiry | .tcExpiry | .timerStart _ _ _ | .timerStop _ | .calDeadline _ | .secondEvent
  | .trackerShiftClose _ _ | .accountShiftClose _ _ | .shiftAssemblyArrival _ _ | .statusReport
  | .liftResultReport _ | .bucketReport _ | .targetReport _ | .calReport _ | .faultReport _ | .loadDrain
  | .unknownCommand _ => none

/-- The data bytes a management command needs (R186, R192): every field its rule lists, an optional one with its
presence byte. -/
def commandNeed : Instr → Nat
  | .readState _ | .targetSelect _ | .targetClose _ => 1
  | .readEntry _ | .calStatus _ | .writeEntry _ | .arm _ | .disarm _ | .trigger _ => 2
  | .calStart req => if byteAt req.data 0 = 1 then 4 else 2
  | .targetOpen _ | .setClock _ => 7
  | .identify _ | .readClock _ | .readCounters _ | .readFaults _ | .readTotals _ | .deleteLastBucket _ | .latchTotals _
  | .readLoadLog _ | .clearFaults _ | .clearCounters _ | .enterConfig _ | .commit _ | .calAccept _ | .calDiscard _
  | .softReset _ | .bypass _ | .powerReset _ | .characterReceived _ _ | .ingressDown _ | .arbiterStart _
  | .transmissionComplete _ | .releaseLimitExpiry | .stalenessExpiry _ | .faultSet _ | .weighSample _ _
  | .speedSample _ _ | .weighStaleNotice _ | .candidateEvaluation _ | .dwellEnd _ | .pendingLift _ | .reversalNotice
  | .calLift _ _ | .bucketCredit _ | .pendingLiftNotice | .nextTarget | .selectKey _ | .newTarget | .closeLoad
  | .deleteLast | .zero | .dispatchArrival _ _ | .dispatchDeparture _ | .conversionComplete _ | .queueTrigger _
  | .tfExpiry | .tsExpiry | .trExpiry | .tdExpiry | .tcExpiry | .timerStart _ _ _ | .timerStop _ | .calDeadline _
  | .secondEvent | .trackerShiftClose _ _ | .accountShiftClose _ _ | .shiftAssemblyArrival _ _ | .statusReport
  | .liftResultReport _ | .bucketReport _ | .targetReport _ | .calReport _ | .faultReport _ | .loadDrain
  | .unknownCommand _ => 0

/-! ### The passing of time -/

/-- The events whose time has come (R6, R14, R22, R41, R74, R80), the end of a conversion apart. -/
inductive State.Due (s : State) : Instr → Prop where
  | silence (p : Port) : (s.link.ingress.get p).mode ≠ .down → 2000 ≤ (s.link.ingress.get p).silence →
      s.Due (.ingressDown p)
  | sent (p : Port) (x : Transmission) : (s.link.egress.get p).tx = some x → x.left = 0 →
      s.Due (.transmissionComplete p)
  | timer (i : TimerId) (c : Instr) :
      (i, c) ∈ [(.tf, .tfExpiry), (.ts, .tsExpiry), (.tr, .trExpiry), (.td, .tdExpiry), (.tc, Instr.tcExpiry)] →
      (s.time.timer i).running = true → (s.time.timer i).left = 0 → s.Due c
  | second : s.time.secondLeft = 0 → s.Due .secondEvent
  | stale (i : Fin 32) (x : StaleTimer) : s.sig.slots[i].timer = some x → x.limit * 1000 ≤ x.elapsed →
      s.Due (.stalenessExpiry i)
  | limit : s.link.relay = .release → s.link.limit = .running 0 → s.Due .releaseLimitExpiry

/-- The state one microsecond later (R6, R14, R15, R18, R22, R41, R47, R73, R74, R80). A transmitter with no frame sends
SPACE characters of 10 µs and counts them to 15; one that is cut off sends nothing. -/
structure State.Ticked (s t : State) : Prop where
  tag : t.time.tag = s.time.tag + 1
  second : t.time.secondLeft = s.time.secondLeft - 1
  timers : ∀ i, t.time.timer i =
    if (s.time.timer i).running = true then { s.time.timer i with left := (s.time.timer i).left - 1 }
    else s.time.timer i
  silence : ∀ p, t.link.ingress.get p =
    { s.link.ingress.get p with silence := satInc 2000 (s.link.ingress.get p).silence }
  limit : t.link.limit = match s.link.limit with
    | .running n => .running (n - 1)
    | .stopped => .stopped
    | .expired => .expired
  cutOff : carries s.link.relay = false → t.link.egress = s.link.egress
  sends : ∀ p x, carries s.link.relay = true → (s.link.egress.get p).tx = some x →
    t.link.egress.get p = { s.link.egress.get p with tx := some { x with left := x.left - 1 } }
  spaces : ∀ p, carries s.link.relay = true → (s.link.egress.get p).tx = none →
    let e := s.link.egress.get p
    t.link.egress.get p =
      if e.spaceUs = 9 then { e with spaceUs := 0, gap := satInc 15 e.gap } else { e with spaceUs := e.spaceUs + 1 }
  staleness : ∀ i : Fin 32, t.sig.slots[i] =
    { s.sig.slots[i] with timer := s.sig.slots[i].timer.map fun x => { x with elapsed := x.elapsed + 1 } }
  conversion : t.acq.conversion = s.acq.conversion.map fun c => { c with left := c.left - 1 }
  rest : t = { s with
    link := { s.link with ingress := t.link.ingress, limit := t.link.limit, egress := t.link.egress }
    sig := { s.sig with slots := t.sig.slots }
    acq := { s.acq with conversion := t.acq.conversion }
    time := { s.time with tag := t.time.tag, timers := t.time.timers, secondLeft := t.time.secondLeft } }

/-! ### The link unit -/

/-- A frame accepted at a port is offered to the relay queue toward the other port (R12): it joins, or is dropped whole,
counted and reported. -/
def State.relays (p : Port) (e : RelayEntry) (s : State) : State :=
  let q := s.link.relayQ.get (otherPort p)
  let k := s.link.counters.get p
  if q.length + 1 ≤ 8 ∧ relayBytes q + e.bytes.length ≤ 512 then
    { s with link := { s.link with relayQ := s.link.relayQ.set (otherPort p) (q ++ [e]) } }
  else
    State.setFault (dropFault (otherPort p))
      { s with link := { s.link with
          counters := s.link.counters.set p { k with relayDrops := satInc 65535 k.relayDrops } } }

/-- The state after an ingress side took a character that closed no frame: its new mode and its run of SPACE
characters. -/
def State.hears (s : State) (p : Port) (c : Character) (mode : IngressMode) (run : Nat) : State :=
  { s with link := s.link.setIngress p ⟨mode, run, 0⟩, handed := s.handed.erase (.characterReceived p c) }

/-- The mode in which a character leaves an ingress side whose frame it closed (R8). -/
def modeAfterClose : Character → IngressMode
  | .start => .aligned (some ⟨[], 0⟩)
  | .codingError => .hunt true
  | .data _ | .space | .endMark | .abort => .aligned none

/-- A frame stands whole in an ingress side, and END would close it as good (R9). -/
def FrameIn.good (f : FrameIn) : Prop :=
  f.count = f.stored.length ∧ 6 ≤ f.count ∧ f.count ≤ 66 ∧ f.count = 6 + (f.stored.getD 3 0).toNat
    ∧ f.stored = withCheck (f.stored.take (f.count - 2))

/-- A hunt is on, over material or not; a side that is DOWN begins one over none with its first character (R6, R7). -/
def Ingress.hunts (i : Ingress) (material : Bool) : Prop :=
  i.mode = .hunt material ∨ (i.mode = .down ∧ material = false)

/-- What a character makes of an ingress side (R6 to R8): the mode and the run of SPACE characters it leaves. -/
inductive Ingress.Takes (i : Ingress) : Character → IngressMode → Nat → Prop where
  | boundary (m : Bool) (c : Character) : i.hunts m → c = .endMark ∨ c = .abort → i.Takes c (.aligned none) 0
  | sixteenth (m : Bool) : i.hunts m → 15 ≤ i.spaces → i.Takes .space (.aligned none) 16
  | earlier (m : Bool) : i.hunts m → i.spaces < 15 → i.Takes .space (.hunt m) (i.spaces + 1)
  | material (m : Bool) (c : Character) : i.hunts m → c = .start ∨ c = .codingError ∨ (∃ b, c = .data b) →
      i.Takes c (.hunt true) 0
  | opens : i.mode = .aligned none → i.Takes .start (.aligned (some ⟨[], 0⟩)) 0
  | idles : i.mode = .aligned none → i.Takes .space (.aligned none) (satInc 16 i.spaces)
  | discards (c : Character) : i.mode = .aligned none → c = .endMark ∨ c = .abort → i.Takes c (.aligned none) 0
  | loses (c : Character) : i.mode = .aligned none → c = .codingError ∨ (∃ b, c = .data b) → i.Takes c (.hunt true) 0
  | byte (f : FrameIn) (b : Byte) : i.mode = .aligned (some f) →
      i.Takes (.data b)
        (.aligned (some ⟨if f.stored.length < 66 then f.stored ++ [b] else f.stored, f.count + 1⟩)) 0
  | closes (f : FrameIn) (c : Character) : i.mode = .aligned (some f) → (∀ b, c ≠ .data b) →
      i.Takes c (modeAfterClose c) (if c = .space then satInc 16 i.spaces else 0)

/-- Both segments are quiet (R17). -/
def Link.quiet (l : Link) : Prop := ∀ p, 16 ≤ (l.ingress.get p).spaces ∨ (l.ingress.get p).mode = .down

/-- The link with its contacts opened (R17). -/
def Link.opened (l : Link) : Link :=
  { l with
    relay := .relay
    egress := ⟨{ l.egress.mp with gap := 0, spaceUs := 0 }, { l.egress.dp with gap := 0, spaceUs := 0 }⟩ }

/-- What the relay state makes of a state whose ingress side has just taken a character (R17, R18, R21). -/
structure State.SettlesTo (s t : State) : Prop where
  opens : s.link.relay = .takeover → s.link.quiet → t = { s with link := s.link.opened }
  waits : s.link.relay = .takeover → ¬ s.link.quiet → t = s
  bypassed : s.link.relay = .bypass → t = s
  carried : carries s.link.relay = true → t = s.releaseTest

/-- An arbiter may start a frame: the part carries the line, and the release limit has not run out (R16, R22). -/
def Link.mayStart (l : Link) : Prop := carries l.relay = true ∧ l.limit ≠ .expired

/-- The last field, in the order of entries and fields, that names a slot and fits (R32): its entry and raw value. -/
def Signals.lastField (g : Signals) (src : Port) (frame : List Byte) (slot : Fin 32) : Option (Nat × Int) :=
  (((g.matching src frame).flatMap fun x =>
    match x.1.action with
    | .extract fields =>
      fields.filterMap fun f =>
        if f.2 = slot then (f.1.read (framePayload frame)).map fun raw => (x.2, raw) else none
    | .key _ => []
    | .target _ _ _ => []
    | .page _ => [])).getLast?

/-- An entry meets a frame (R29). -/
structure MatchEntry.Meets (e : MatchEntry) (src : Port) (frame : List Byte) : Prop where
  enabled : e.enable = true
  direction : e.direction = .either ∨ (e.direction = .fromMp ∧ src = .mp) ∨ (e.direction = .fromDp ∧ src = .dp)
  frameClass : ∀ n < 8, e.classMask.getLsbD n = true → (frameClass frame).getLsbD n = e.classValue.getLsbD n
  source : ∀ n < 4, e.sourceMask.getLsbD n = true → (frameSource frame).getLsbD n = e.sourceValue.getLsbD n
  byte0 : e.byte0Mask ≠ 0 → ∃ b rest, framePayload frame = b :: rest ∧
    ∀ n < 8, e.byte0Mask.getLsbD n = true → b.getLsbD n = e.byte0Value.getLsbD n
  length : e.minLength ≤ (framePayload frame).length

/-- What a field descriptor reads from a payload (R28): its raw value, or none where a byte it needs is missing. -/
structure FieldDesc.Reads (f : FieldDesc) (payload : List Byte) (raw : Option Int) : Prop where
  skipped : payload.length < f.offset + (match f.width with | .bit => 1 | .one => 1 | .two => 2 | .four => 4) → raw = none
  bit : ∀ a, f.width = .bit → payload[f.offset]? = some a → raw = some (if a.getLsbD f.bit = true then 1 else 0)
  one : ∀ a, f.width = .one → payload[f.offset]? = some a → raw = some (if f.signed = true then a.toInt else a.toNat)
  two : ∀ a b, f.width = .two → payload[f.offset]? = some a → payload[f.offset + 1]? = some b →
    let w := if f.lowFirst = true then b ++ a else a ++ b
    raw = some (if f.signed = true then w.toInt else w.toNat)
  four : ∀ a b c d, f.width = .four → payload[f.offset]? = some a → payload[f.offset + 1]? = some b →
    payload[f.offset + 2]? = some c → payload[f.offset + 3]? = some d →
    let w := if f.lowFirst = true then d ++ c ++ b ++ a else a ++ b ++ c ++ d
    raw = some (if f.signed = true then w.toInt else w.toNat)

/-- The command of each key function (R34); SELECT_1 names slot 0. -/
def keyCommands : List (KeyFunction × Instr) :=
  [(.nextTarget, .nextTarget), (.select1, .selectKey 0), (.select2, .selectKey 1), (.select3, .selectKey 2),
    (.select4, .selectKey 3), (.newTarget, .newTarget), (.closeLoad, .closeLoad), (.deleteLast, .deleteLast),
    (.zero, .zero)]

/-- What a matching KEY entry hands on and counts (R33, R34). -/
structure Signals.PressesKey (g : Signals) (offset : Nat) (payload : List Byte) (y : Yield) : Prop where
  short : payload.length ≤ offset → y.requests = [] ∧ y.short = 1 ∧ y.unmapped = 0 ∧ y.dispatch = 0
  mapped : ∀ raw k, payload[offset]? = some raw → k ∈ g.keyMap.toList → k.inUse = true → k.raw = raw →
    ∃ k' ∈ g.keyMap.toList, k'.inUse = true ∧ k'.raw = raw ∧
      (∃ c, y.requests = [c] ∧ (k'.function, c) ∈ keyCommands) ∧ y.short = 0 ∧ y.unmapped = 0 ∧ y.dispatch = 0
  unmapped : ∀ raw, payload[offset]? = some raw → (∀ k ∈ g.keyMap.toList, k.inUse = true → k.raw ≠ raw) →
    y.requests = [] ∧ y.short = 0 ∧ y.unmapped = 1 ∧ y.dispatch = 0

/-- What a matching TARGET entry hands on and counts (R35). Each descriptor that is read and does not fit is one short
field, the capacity not on a departure (log 27). -/
structure Dispatches (id : FieldDesc) (capacity departure : Option FieldDesc) (payload : List Byte) (y : Yield) :
    Prop where
  skippedId : id.read payload = none → y.requests = [] ∧ y.dispatch = 0
  badId : ∀ v, id.read payload = some v → v < 1 ∨ 65535 < v → y.requests = [] ∧ y.dispatch = 1
  skippedDeparture : ∀ v d, id.read payload = some v → 1 ≤ v → v ≤ 65535 → departure = some d →
    d.read payload = none → y.requests = [] ∧ y.dispatch = 0
  departs : ∀ v d x, id.read payload = some v → 1 ≤ v → v ≤ 65535 → departure = some d → d.read payload = some x →
    x ≠ 0 → y.requests = [.dispatchDeparture v.toNat] ∧ y.dispatch = 0
  arrives : ∀ v, id.read payload = some v → 1 ≤ v → v ≤ 65535 → (∀ d, departure = some d → d.read payload = some 0) →
    ((∀ c, capacity = some c → c.read payload = none) →
      y.requests = [.dispatchArrival v.toNat 0] ∧ y.dispatch = 0) ∧
    (∀ c x, capacity = some c → c.read payload = some x →
      (x = 0 ∨ 1000 ≤ x ∧ x ≤ 250000 → y.requests = [.dispatchArrival v.toNat x.toNat] ∧ y.dispatch = 0) ∧
      (¬ (x = 0 ∨ 1000 ≤ x ∧ x ≤ 250000) → y.requests = [.dispatchArrival v.toNat 0] ∧ y.dispatch = 1))
  unmapped : y.unmapped = 0
  short :
    let skipped := fun d : FieldDesc => (d.read payload).isNone
    y.short = (if skipped id = true then 1 else 0) + (if departure.any skipped = true then 1 else 0) +
      (if capacity.any skipped = true ∧ ¬ departure.any (fun d => (d.read payload).any fun x => x != 0) = true then 1
        else 0)

/-- What a matching entry hands on and counts (R32, R33, R35, R36, R38). -/
def MatchEntry.Does (e : MatchEntry) (g : Signals) (payload : List Byte) (y : Yield) : Prop :=
  match e.action with
  | .extract fields =>
    y.requests = [] ∧ y.short = fields.countP (fun f => (f.1.read payload).isNone) ∧ y.unmapped = 0 ∧ y.dispatch = 0
  | .key offset => g.PressesKey offset payload y
  | .target id capacity departure => Dispatches id capacity departure payload y
  | .page _ => y.requests = [] ∧ y.short = 0 ∧ y.unmapped = 0 ∧ y.dispatch = 0

/-- The first matching PAGE entry (R36). -/
def pageOf (entries : List (MatchEntry × Nat)) (set : Nat) : Prop :=
  ∃ before x after, entries = before ++ x :: after ∧ x.1.action = .page set ∧
    ∀ y ∈ before, ∀ k, y.1.action ≠ .page k

/-- The notifications of a write of a slot, in RUN (R44), for the roles mapped to it in the order of R43. -/
def Signals.tells (g : Signals) (i : Fin 32) : List Instr :=
  let v := g.slots[i]
  let evaluate := fun r => if g.slotOf r = some i then [Instr.candidateEvaluation (.written r v.value v.tag)] else []
  evaluate .headP ++ (if g.slotOf .boom = some i then [.weighSample v.value v.tag] else []) ++ evaluate .boom ++
    evaluate .tilt ++ (if g.slotOf .speed = some i then [.speedSample v.value v.tag] else []) ++ evaluate .park

/-- The live part of a slot after a write (R40), spelled out. -/
def writtenSlot (v : SlotLive) (c : SlotConfig) (raw : Int) (tag : TimeTag) (source : WriteSource) : SlotLive :=
  { value := max (-2147483648) (min 2147483647 (raw * c.gain / 2 ^ c.shift + c.offset))
    tag := tag, fresh := .fresh, writes := v.writes + 1, source := source
    timer := if c.timeout = 0 then none else some ⟨0, c.timeout⟩ }

/-- The transmission of a port sends an entry that stands in its queue. -/
def Link.txStands (l : Link) (p : Port) : Prop :=
  ∀ t, (l.egress.get p).tx = some t → l.frameAt p t.source = some (t.bytes, t.mark)

/-- What holds of one port of the link unit: the limits of R12, R13 and R16, the entry being sent in its queue (R12,
R14), a side that is cut off holds nothing to relay and sends nothing (R18), and a frame in progress has its bytes
stored, up to 66 of them (R8). -/
structure Link.PortInv (l : Link) (p : Port) : Prop where
  relayFrames : (l.relayQ.get p).length ≤ 8
  relayLimit : relayBytes (l.relayQ.get p) ≤ 512
  reports : reportCount (l.origQ.get p) ≤ 11
  responses : responseCount (l.origQ.get p) ≤ 1
  passOver : (l.egress.get p).passOver ≤ 4
  sending : l.txStands p
  cutOff : carries l.relay = false → (l.egress.get p).tx = none ∧ l.relayQ.get p = []
  bypassed : l.relay = .bypass → l.origQ.get p = []
  stored : ∀ f, (l.ingress.get p).mode = .aligned (some f) → f.stored.length = min 66 f.count

/-- What holds of the link unit: each port's part, and the minimum gaps (R15). -/
structure Link.Inv (l : Link) : Prop where
  ports : ∀ p, l.PortInv p
  gapInUse : 2 ≤ l.gapInUse ∧ l.gapInUse ≤ 15
  gapEntry : 2 ≤ l.gapEntry ∧ l.gapEntry ≤ 15

/-! ### The signal table -/

/-- What holds of a slot: a value of 32 bits (R40), and a timer only while FRESH, toward a timeout that is not 0
(R39, R41). -/
structure SlotLive.Inv (v : SlotLive) : Prop where
  value : signed32 v.value = true
  running : v.timer.isSome → v.fresh = .fresh
  timeout : ∀ t, v.timer = some t → t.limit ≠ 0

def Signals.Inv (g : Signals) : Prop := ∀ i : Fin 32, (g.slots[i]).Inv

/-! ### The acquisition unit -/

/-- What holds of the acquisition unit (R49, R50, R53, R58, R60, R64, R68). -/
structure Acquisition.Inv (a : Acquisition) : Prop where
  boundary : 1 ≤ a.boundary ∧ a.boundary ≤ 47
  converts : ∀ q, (a.queue q).state = .active ↔ ∃ c, a.conversion = some c ∧ c.queue = q
  word : ∀ c, a.conversion = some c → c.word = (a.queue c.queue).position
  oneActive : ¬ ((a.queue .fast).state = .active ∧ (a.queue .slow).state = .active)
  fastNeverWaits : (a.queue .fast).state ≠ .pending ∧ (a.queue .fast).state ≠ .suspended
  slowWaits : (a.queue .slow).state = .pending ∨ (a.queue .slow).state = .suspended → (a.queue .fast).state = .active
  released : a.released = true → ∀ q, (a.queue q).state = .off
  inRange : ∀ q, a.firstWord q ≤ (a.queue q).position ∧ (a.queue q).position ≤ a.highWord q ∧
    a.firstWord q ≤ (a.queue q).subStart ∧ (a.queue q).subStart ≤ a.highWord q
  armed : ∀ q, (a.queue q).state ≠ .off → (a.setup.get q).mode ≠ .off ∧ (a.word (a.firstWord q)).channel.isSome

/-- The byte that names a queue in QUEUE_CONTROL (R192). -/
def queueCode : QueueId → Byte
  | .fast => 0
  | .slow => 1

/-- A queue waits for a trigger: IDLE or PAUSED. -/
def SampleQueue.ready (x : SampleQueue) : Prop := x.state = .idle ∨ x.state = .paused

/-- The word a trigger starts a waiting queue at (R56). -/
def Acquisition.triggerWord (a : Acquisition) (q : QueueId) : Nat :=
  if (a.queue q).state = .idle then a.firstWord q else (a.queue q).position

/-- What a trigger of a queue makes of a state (R56 to R59). -/
structure State.Triggered (q : QueueId) (s t : State) : Prop where
  ignored : (s.acq.queue q).state = .off → t = s
  overrun : (s.acq.queue q).state ≠ .off → ¬ (s.acq.queue q).ready →
    t = State.setFault .acqOverrun
      { s with acq := { s.acq with queues := s.acq.queues.set q { s.acq.queue q with overrun := true } } }
  fast : q = .fast → (s.acq.queue q).ready →
    let a := s.acq
    let w := a.triggerWord q
    t = { s with acq := { a with
      queues :=
        ⟨{ a.queues.fast with state := .active, position := w, subStart := w },
          if a.queues.slow.state = .active then { a.queues.slow with state := .suspended } else a.queues.slow⟩
      conversion := some ⟨.fast, w, 4 * 2 ^ (a.word w).settle + 12⟩ } }
  slow : q = .slow → (s.acq.queue q).ready →
    let a := s.acq
    let w := a.triggerWord q
    t = { s with acq :=
      if a.queues.fast.state = .active then
        { a with queues := { a.queues with slow :=
            { a.queues.slow with state := .pending, position := w, subStart := w } } }
      else
        { a with
          queues := { a.queues with slow := { a.queues.slow with state := .active, position := w, subStart := w } }
          conversion := some ⟨.slow, w, 4 * 2 ^ (a.word w).settle + 12⟩ } }

/-- The converter is free of the fast queue: a waiting slow queue takes it, by its resume policy (R60). -/
structure Acquisition.Resumed (a b : Acquisition) : Prop where
  free : a.queues.slow.state ≠ .pending → a.queues.slow.state ≠ .suspended → b = { a with conversion := none }
  resumes : a.queues.slow.state = .pending ∨ a.queues.slow.state = .suspended →
    let x := a.queues.slow
    let w := if x.state = .suspended ∧ a.setup.slow.resume = 1 then x.subStart else x.position
    b = { a with
      queues := { a.queues with slow := { x with state := .active, position := w } }
      conversion := some ⟨.slow, w, 4 * 2 ^ (a.word w).settle + 12⟩ }

/-! ### The weighing engine -/

/-- The state after a window ended with this result: numbered, kept as the last result, and handed to its receiver and
to the report engine (R104). -/
def State.published (s : State) (r : LiftResult) : State :=
  let w := s.weigh.window
  let forces : BinForces := w.bins.map fun b => if 1 ≤ b.count then some (roundDiv b.force b.count) else none
  { s with
    weigh := { s.weigh with sequence := r.sequence, last := some r, state := .spent }
    handed := s.handed ++ [if r.calFlag = true then .calLift r forces else .pendingLift r, .liftResultReport r] }

/-- The covered bins of a window (R100). -/
def WindowRecord.sampledBins (w : WindowRecord) : List BinSum := w.bins.toList.filter fun b => decide (1 ≤ b.count)

/-- The result of a window that ended without evaluation (R105). -/
def State.lostResult (s : State) (reasons : ReasonSet) : LiftResult :=
  { sequence := s.weigh.sequence + 1, tag := s.time.tag, payload := none, grade := .rejected, reasons := reasons
    samples := min 65535 s.weigh.window.samples, binsCovered := s.weigh.window.sampledBins.length
    spread := none, rate := none, meanPitch := none, calFlag := s.weigh.window.calFlag }

/-- The pressures and the tilt can be read (R95, case 1). -/
def State.signalsFresh (s : State) : Prop :=
  s.sig.freshOf .headP = true ∧ s.sig.freshOf .rodP = true ∧ s.sig.freshOf .tilt = true

/-- Both pressures lie in their range (R95, case 2). -/
def State.pressuresOk (s : State) : Prop :=
  ∀ r, r = .headP ∨ r = .rodP → 0 ≤ s.sig.valueOf r ∧ s.sig.valueOf r ≤ s.weigh.params.pressureMax

/-- A valid calibration holds a force delta of at least 1 N in every bin (R110). -/
def CalRecord.bins (c : CalRecord) (b : Nat) (e r : Int) : Prop := c.empty[b]? = some (some e) ∧ c.reference[b]? = some (some r)

/-! ### The calibration unit -/

/-- The CAL report of the unit as it stands (R124). -/
def Calibration.reported (c : Calibration) : CalReport :=
  { run := c.run, cause := c.record.cause, kind := c.record.kind, keyStarted := c.record.keyStarted
    accepted := c.record.accepted, refused := c.record.refused, candidateValid := c.candidate.valid
    activeValid := c.active.valid }

/-- The unit after a run started (R112 to R114). -/
def Calibration.started (c : Calibration) (kind : CalKind) (key : Bool) (lifts mref : Nat) : Calibration :=
  { c with
    candidate := c.active
    run := .collecting
    record :=
      { kind := kind, keyStarted := key, lifts := lifts, mref := mref, accepted := 0, refused := 0
        binSums := Vector.replicate 16 0, binLifts := Vector.replicate 16 0, rateSum := 0, cause := .started }
    starts := c.starts + 1
    startOpen := true }

/-- The unit after a run changed its state with a cause (R124). -/
def Calibration.changed (c : Calibration) (run : RunState) (cause : CalCause) : Calibration :=
  { c with run := run, record := { c.record with cause := cause } }

/-- A run refuses a flagged result (R115). -/
def Calibration.refuses (c : Calibration) (r : LiftResult) : Prop :=
  (∃ x, hasReason r.reasons x = true ∧ x ≠ .liftSlow ∧ x ≠ .liftFast ∧ x ≠ .noCal) ∨
    (c.record.kind = .zero ∧ ∀ p, r.payload = some p →
      c.candidate.zeroOffset - p < -30000 ∨ 30000 < c.candidate.zeroOffset - p)

/-- The run record after an accepted lift (R115). -/
structure RunRecord.Gathers (k : RunRecord) (r : LiftResult) (forces : BinForces) (k' : RunRecord) : Prop where
  zero : k.kind = .zero → k' = { k with accepted := k.accepted + 1 }
  bins : k.kind ≠ .zero → ∀ b : Fin 16, k'.binSums[b] = k.binSums[b] + (forces[b]).getD 0 ∧
    k'.binLifts[b] = k.binLifts[b] + if (forces[b]).isSome = true then 1 else 0
  rate : k.kind ≠ .zero → k'.rateSum = k.rateSum + r.rate.getD 0
  rest : k.kind ≠ .zero → k' = { k with
    accepted := k.accepted + 1, binSums := k'.binSums, binLifts := k'.binLifts, rateSum := k'.rateSum }

/-- A force table learnt from a run: the mean of each bin that at least half the lifts, rounded up, covered (R116). -/
def RunRecord.Learns (k : RunRecord) (v : Vector (Option Int) 16) : Prop :=
  ∀ b : Fin 16, v[b] =
    if (k.lifts + 1) / 2 ≤ k.binLifts[b] then some (roundDiv k.binSums[b] (k.binLifts[b] : Nat)) else none

/-! ### The cycle tracker -/

/-- The tracker has acted on its candidate (R131): it stands in the phase, with TD stopped; or it differs, is remembered,
and TD times its dwell. -/
def State.settled (s : State) : Prop :=
  (s.candidate = s.trk.phase ∧ s.trk.candidate = none ∧ s.trk.startOpen = false) ∨
    (s.candidate ≠ s.trk.phase ∧ s.candidate ≠ .unknown ∧ s.trk.params.dwell s.candidate ≠ 0 ∧
      s.trk.candidate = some s.candidate ∧ s.trk.startOpen = true)

/-- The state after the age test of R134. -/
structure State.Aged (s u : State) : Prop where
  old : ∀ start, s.trk.cycleStart = some start → 3600000000 ≤ (s.time.tag - start).toNat →
    u = { s with trk := { s.trk with cycleStart := none, dumped := false } }
  young : (∀ start, s.trk.cycleStart = some start → (s.time.tag - start).toNat < 3600000000) → u = s

/-- The stop request that goes to TD when its last start is open (R131, R133; log 25). -/
def Tracker.stops (k : Tracker) : List Instr := if k.startOpen = true then [.timerStop .td] else []

/-- A handed request that ENTER_CONFIG and SOFT_RESET leave: any but a timer trigger (R67), a notification of the signal
table (R44, R107), a lift result and a reversal notice (R144). -/
def outlivesRun : Instr → Bool
  | .queueTrigger _ | .weighSample _ _ | .speedSample _ _ | .weighStaleNotice _ | .candidateEvaluation _ => false
  | .pendingLift _ | .reversalNotice | .calLift _ _ => false
  | _ => true

/-- What ENTER_CONFIG and SOFT_RESET hand on as they end a run (R123) and reset the tracker (R144): the stop request to TC
and the CAL report with cause CONFIG, the stop request to TD, and the notice of the pending lift cleared. -/
def State.halts (s : State) : List Instr :=
  (if s.cal.run = .off then [] else [.timerStop .tc, .calReport (s.cal.changed .off .config).reported]) ++ s.trk.stops ++
    (if s.trk.pending = none then [] else [.pendingLiftNotice])

/-! ### Load accounting -/

/-- Overload-ahead holds (R150). -/
def State.Ahead (s : State) : Prop :=
  ∃ i r, s.acc.pointer = some i ∧ s.trk.pending = some r ∧ r.grade ≠ .rejected ∧ (s.acc.slot i).capacity ≠ 0 ∧
    ((s.acc.slot i).capacity * (100 + s.acc.params.tolerance) : Int)
      < ((s.acc.slot i).accumulated + r.payload.getD 0) * 100

/-- Overload-ahead has been evaluated afresh (R150). -/
def State.aheadFresh (s : State) : Prop := s.acc.overloadAhead = true ↔ s.Ahead

/-- The state and the overloaded flag of a slot are those of R148. -/
structure TargetSlot.Evaluated (p : AccountRecord) (t : TargetSlot) : Prop where
  full : t.state = .full ↔ t.capacity ≠ 0 ∧ (t.capacity * p.full : Int) ≤ t.accumulated * 100
  held : t.state ≠ .free
  overload : t.overloaded = true ↔ t.capacity ≠ 0 ∧ (t.capacity * (100 + p.tolerance) : Int) < t.accumulated * 100

/-- The lowest-indexed slot of which something holds. -/
def lowestSlot (q : Fin 4 → Prop) (i : Fin 4) : Prop := q i ∧ ∀ j < i, ¬ q j

/-- A STATE report follows when a request changed the state of a slot (R148, R149). -/
def Accounts.stateReport (a b : Accounts) (i : Fin 4) : List Instr :=
  if (a.slot i).state = (b.slot i).state then [] else [b.report .state i]

/-- A slot is opened (R154, R155, R156). -/
structure State.Opens (i : Fin 4) (id capacity : Nat) (current : Bool) (s t : State) : Prop where
  slot : t.acc.slot i = { TargetSlot.free with state := .opened, id := id, capacity := capacity, opened := s.time.clockValue }
  others : ∀ j, j ≠ i → t.acc.slot j = s.acc.slot j
  pointer : t.acc.pointer = if current = true then some i else s.acc.pointer
  ahead : (current = true → t.aheadFresh) ∧ (current = false → t.acc.overloadAhead = s.acc.overloadAhead)
  report : t.handed = s.handed ++ [t.acc.report .opened i]
  rest : t = { s with
    acc := { s.acc with slots := t.acc.slots, pointer := t.acc.pointer, overloadAhead := t.acc.overloadAhead }
    handed := t.handed }

/-- A slot is selected (R149, R150). -/
structure State.Selects (i : Fin 4) (s t : State) : Prop where
  stays : s.acc.pointer = some i → t = s
  moves : s.acc.pointer ≠ some i →
    t.aheadFresh ∧
    t = { s with
      acc := { s.acc with pointer := some i, overloadAhead := t.acc.overloadAhead }
      handed := s.handed ++ [t.acc.report .selected i] }

/-- The tail entry of a slot's list is removed (R157). -/
structure State.Removes (i : Fin 4) (e : BucketEntry) (s t : State) : Prop where
  slot :
    let v := s.acc.slot i
    let w := t.acc.slot i
    w = { v with
      list := v.list.dropLast, accumulated := v.accumulated - e.payload, buckets := v.buckets - 1
      unweighed := v.unweighed - (if e.grade = .unweighed then 1 else 0)
      marginal := v.marginal - (if e.grade = .marginal then 1 else 0)
      state := w.state, overloaded := w.overloaded } ∧
    w.Evaluated s.acc.params
  others : ∀ j, j ≠ i → t.acc.slot j = s.acc.slot j
  totals :
    let f := s.acc.totals
    (e.shift = s.acc.shift → t.acc.totals = { f with
      weighed := f.weighed - e.payload, buckets := f.buckets - 1
      unweighed := f.unweighed - (if e.grade = .unweighed then 1 else 0) }) ∧
    (e.shift ≠ s.acc.shift → t.acc.totals = f)
  ahead : t.aheadFresh
  reports : t.handed = s.handed ++ [.targetReport ⟨.removed, t.acc.figures i, some e⟩] ++ s.acc.stateReport t.acc i
  rest : t = { s with
    acc := { s.acc with slots := t.acc.slots, totals := t.acc.totals, overloadAhead := t.acc.overloadAhead }
    handed := t.handed }

/-- The load record of a slot that closes (R161). -/
def State.closingRecord (s : State) (i : Fin 4) (cause : CloseCause) : LoadRecord :=
  let v := s.acc.slot i
  { sequence := s.acc.log.next, id := v.id, capacity := v.capacity
    payload := max (-2147483648) (min 2147483647 v.accumulated)
    buckets := v.buckets, unweighed := v.unweighed, marginal := v.marginal, opened := v.opened
    closed := s.time.clockValue, cause := cause, overloaded := v.overloaded, shift := s.acc.shift
    missed := s.acc.log.missed }

/-- The sequence after a record was built (R160): the last one is spent, and never given again. -/
def LoadLog.built (log : LoadLog) : LoadLog :=
  { log with
    next := if log.next = 4294967295 ∨ log.spent = true then log.next else log.next + 1
    spent := log.spent || log.next == 4294967295 }

/-- The reports of a close (R158, steps 2 and 4): CLOSED with the slot as it stood, and SELECTED if the pointer moved. -/
def State.closeReports (s t : State) (i : Fin 4) : List Instr :=
  s.acc.report .closed i :: if s.acc.pointer = some i then [t.acc.selectedReport] else []

/-- A slot is closed (R158, R160, R161). -/
structure State.Closes (i : Fin 4) (cause : CloseCause) (s t : State) : Prop where
  empty : (s.acc.slot i).buckets = 0 →
    t.acc.log = s.acc.log ∧ t.acc.totals = s.acc.totals ∧ t.mgt = s.mgt ∧ t.handed = s.handed ++ s.closeReports t i
  counted : (s.acc.slot i).buckets ≠ 0 →
    t.acc.totals = { s.acc.totals with loads := satInc 4294967295 s.acc.totals.loads }
  joins : (s.acc.slot i).buckets ≠ 0 → s.acc.log.records.length < 16 → s.acc.log.spent = false →
    t.acc.log =
      { s.acc.log.built with records := s.acc.log.records ++ [s.closingRecord i cause], missed := 0 } ∧
    t.mgt = s.mgt ∧ t.handed = s.handed ++ [.loadDrain] ++ s.closeReports t i
  lost : (s.acc.slot i).buckets ≠ 0 → 16 ≤ s.acc.log.records.length ∨ s.acc.log.spent = true →
    t.acc.log = { s.acc.log.built with missed := satInc 7 s.acc.log.missed } ∧
    t.mgt = (s.setFault .logMissed).mgt ∧ t.handed = (s.setFault .logMissed).handed ++ s.closeReports t i
  freed : t.acc.slot i = TargetSlot.free ∧ ∀ j, j ≠ i → t.acc.slot j = s.acc.slot j
  pointer : (s.acc.pointer ≠ some i → t.acc.pointer = s.acc.pointer) ∧
    (s.acc.pointer = some i → ∀ j, t.acc.pointer = some j ↔ lowestSlot (fun k => (t.acc.slot k).state ≠ .free) j)
  ahead : t.aheadFresh
  rest : t = { s with
    acc := { s.acc with
      slots := t.acc.slots, pointer := t.acc.pointer, overloadAhead := t.acc.overloadAhead
      log := t.acc.log, totals := t.acc.totals }
    mgt := t.mgt
    handed := t.handed }

/-! ### The overlay (R168, R171, R172) -/

/-- The width of an overlay entry's field in bytes (R168). -/
def OverlayEntry.width (e : OverlayEntry) : Nat := if e.wide = true then 4 else 2

/-- The bytes an entry writes for an item's value, or none where they stay as they came (R171). -/
structure OverlayEntry.Writes (e : OverlayEntry) (v : Option Int) (bytes : Option (List Byte)) : Prop where
  leave : v = none → e.fill = false → bytes = none
  fills : v = none → e.fill = true → bytes = some (List.replicate e.width 0xFF)
  narrow : ∀ x, v = some x → e.wide = false →
    bytes = some (intBytes 2 (max (-32768) (min 32767 (x.tdiv e.divisor))))
  broad : ∀ x, v = some x → e.wide = true →
    bytes = some (intBytes 4 (max (-2147483648) (min 2147483647 (x.tdiv e.divisor))))

/-- Entries applied to a page's payload, one after another (R172): one that does not fit is skipped and sets OVERLAY_FIT
before the next reads its item; a later field stands where two share bytes. -/
inductive Overlaid : List OverlayEntry → State → List Byte → State → List Byte → Prop where
  | done (s : State) (d : List Byte) : Overlaid [] s d s d
  | skips (e : OverlayEntry) (rest : List OverlayEntry) (s t : State) (d d' : List Byte) :
      d.length < e.offset + e.width → Overlaid rest (s.setFault .overlayFit) d t d' → Overlaid (e :: rest) s d t d'
  | leaves (e : OverlayEntry) (rest : List OverlayEntry) (s t : State) (d d' : List Byte) :
      e.offset + e.width ≤ d.length → e.Writes (s.item e.item) none → Overlaid rest s d t d' →
      Overlaid (e :: rest) s d t d'
  | writes (e : OverlayEntry) (rest : List OverlayEntry) (s t : State) (before old after new d' : List Byte) :
      before.length = e.offset → old.length = e.width → new.length = e.width →
      e.Writes (s.item e.item) (some new) → Overlaid rest s (before ++ new ++ after) t d' →
      Overlaid (e :: rest) s (before ++ old ++ after) t d'

/-! ### Reports (R173, R174) -/

/-- A kind's route names a port. -/
def State.routes (s : State) (k : ReportKind) (p : Port) : Prop :=
  s.rep.route k = .both ∨ (p = .mp ∧ s.rep.route k = .mp) ∨ (p = .dp ∧ s.rep.route k = .dp)

/-- A port's originate queue takes one report more (R13). -/
def State.roomFor (s : State) (p : Port) : Prop :=
  s.link.relay ≠ .bypass ∧ reportCount (s.link.origQ.get p) < 11 ∧ (s.link.origQ.get p).length < 12

/-- The code of a report kind (R173). -/
def codeOfKind : ReportKind → Nat
  | .liftResult => 1
  | .bucket => 2
  | .target => 3
  | .load => 4
  | .shift => 5
  | .status => 6
  | .fault => 7
  | .cal => 8

/-- A port after a report of these contents was offered to it (R174): the report joined and the tag went up, or nothing
of the port changed. -/
structure State.Offered (k : ReportKind) (kind : OrigKind) (contents : Port → List Byte) (s t : State) (p : Port) :
    Prop where
  joins : s.routes k p → s.roomFor p →
    t.link.origQ.get p = s.link.origQ.get p ++
      [⟨kind, buildFrame 0xF2 (s.rep.nodes.get p) s.link.node (s.rep.tags.get p) (u8 (codeOfKind k) ++ contents p)⟩] ∧
    t.rep.tags.get p = s.rep.tags.get p + 1
  stays : ¬ (s.routes k p ∧ s.roomFor p) →
    t.link.origQ.get p = s.link.origQ.get p ∧ t.rep.tags.get p = s.rep.tags.get p

/-- A report of a kind was sent (R174): each port its route names was offered it, and a refusal set REPORT_DROP. -/
structure State.Sent (k : ReportKind) (contents : Port → List Byte) (s t : State) : Prop where
  ports : ∀ p, s.Offered k .report contents t p
  dropped : (∃ p, s.routes k p ∧ ¬ s.roomFor p) →
    t.mgt = (s.setFault .reportDrop).mgt ∧ t.handed = (s.setFault .reportDrop).handed
  kept : (∀ p, s.routes k p → s.roomFor p) → t.mgt = s.mgt ∧ t.handed = s.handed

/-- The payload of a bucket list. -/
def listPayload (l : List BucketEntry) : Int := (l.map fun e => e.payload).sum

/-- The entries of a grade in a bucket list. -/
def gradeEntries (g : BucketGrade) (l : List BucketEntry) : Nat := l.countP fun e => e.grade == g

/-- What holds of a target slot (R146, R147): a FREE slot holds nothing; the totals of any other are those of its
folded buckets and its list. -/
structure TargetSlot.Inv (t : TargetSlot) : Prop where
  freeIsEmpty : t.state = .free → t = TargetSlot.free
  payload : t.accumulated = t.foldedPayload + listPayload t.list
  count : t.buckets = t.folded + t.list.length
  listLimit : t.list.length ≤ 12
  countLimit : t.buckets ≤ 65535
  unweighed : gradeEntries .unweighed t.list ≤ t.unweighed
  marginal : gradeEntries .marginal t.list ≤ t.marginal
  foldedGrades : (t.unweighed - gradeEntries .unweighed t.list) + (t.marginal - gradeEntries .marginal t.list) ≤ t.folded

/-- What holds of the load log (R160, R161). -/
structure LoadLog.Inv (log : LoadLog) : Prop where
  limit : log.records.length ≤ 16
  increasing : (log.records.map fun r => r.sequence).Pairwise (· < ·)
  below : ∀ r ∈ log.records, r.sequence ≤ log.next ∧ (log.spent = false → r.sequence < log.next)
  next : 1 ≤ log.next ∧ log.next ≤ 4294967295
  spent : log.spent = true → log.next = 4294967295
  missed : log.missed ≤ 7 ∧ ∀ r ∈ log.records, r.missed ≤ 7

/-- What holds of load accounting: its slots and its log, no non-zero id held twice (R146), and a pointer that is empty
or names an OPEN or FULL slot (R149). -/
structure Accounts.Inv (a : Accounts) : Prop where
  slots : ∀ i, (a.slot i).Inv
  ids : ∀ i j, (a.slot i).held = true → (a.slot j).held = true → (a.slot i).id = (a.slot j).id → (a.slot i).id ≠ 0 → i = j
  pointer : ∀ i, a.pointer = some i → (a.slot i).held = true
  log : a.log.Inv

/-! ### The drain of the load log (R162, R179, R180) -/

/-- The LOAD reports in an originate queue. -/
def loadReports (q : List OrigEntry) : Nat := q.countP fun e => e.kind == .loadReport

/-- A copy is QUEUED exactly while its report stands in the port's originate queue. -/
def State.copyStands (s : State) (p : Port) : Prop :=
  loadReports (s.link.origQ.get p) = if s.rep.drain.get p = .queued then 1 else 0

structure State.DrainInv (s : State) : Prop where
  copies : ∀ p, s.copyStands p
  inFlight : s.acc.log.inFlight = true ↔ ∃ p, s.rep.drain.get p = .queued
  ended : ∀ p, s.rep.drain.get p = .completed ∨ s.rep.drain.get p = .discarded →
    s.rep.drain.get (otherPort p) = .queued
  head : s.acc.log.inFlight = true → s.acc.log.records ≠ []

/-! ### The tables (R183, R192) -/

/-- A descriptor in its range (R28). -/
def FieldDesc.inRange (f : FieldDesc) : Prop := f.offset ≤ 59 ∧ f.bit ≤ 7

/-- The field descriptors of an action (R27). -/
def MatchAction.descriptors : MatchAction → List FieldDesc
  | .extract fields => fields.map Prod.fst
  | .key _ => []
  | .target id capacity departure => id :: (capacity.toList ++ departure.toList)
  | .page _ => []

/-- A match entry in its range (R27). -/
def MatchEntry.inRange (e : MatchEntry) : Prop :=
  e.minLength ≤ 60 ∧ (∀ f ∈ e.action.descriptors, f.inRange) ∧
    match e.action with
    | .extract fields => fields.length ≤ 3
    | .key offset => offset ≤ 59
    | .target _ _ _ => True
    | .page set => set ≤ 3

/-- A weigh parameter record in its stored ranges (R87). -/
def WeighRecord.stored (p : WeighRecord) : Prop :=
  (-9000 ≤ p.thetaS ∧ p.thetaS ≤ 9000) ∧ (-9000 ≤ p.thetaE ∧ p.thetaE ≤ 9000) ∧ p.hysteresis ≤ 1000 ∧
  p.headArea ≤ 200000 ∧ p.rodArea ≤ 200000 ∧ p.minSamples ≤ 255 ∧ p.minBins ≤ 16 ∧ p.spreadGood ≤ 65535 ∧
  p.spreadReject ≤ 65535 ∧ p.tiltLimit ≤ 18000 ∧ p.pitchLimit ≤ 9000 ∧ p.accelLimit ≤ 65535 ∧ p.pitchCoeff ≤ 500 ∧
  p.rateBand ≤ 50 ∧ p.pressureMax ≤ 60000 ∧ p.ratedLoad ≤ 60000 ∧ p.zeroLimit ≤ 10000

/-- A weigh parameter record that passes the WEIGH step, with the zones of a cycle record (R87, R88). -/
def WeighRecord.works (p : WeighRecord) (k : CycleRecord) : Prop :=
  k.thetaDig < p.thetaS ∧ 800 ≤ p.thetaE - p.thetaS ∧ p.thetaE ≤ k.thetaCarry ∧
  (50 ≤ p.hysteresis ∧ p.hysteresis ≤ 500) ∧ (1000 ≤ p.headArea ∧ p.headArea ≤ 200000) ∧ p.rodArea < p.headArea ∧
  (8 ≤ p.minSamples ∧ p.minSamples ≤ 255) ∧ (8 ≤ p.minBins ∧ p.minBins ≤ 16) ∧ p.spreadGood ≤ p.spreadReject ∧
  (1 ≤ p.spreadReject ∧ p.spreadReject ≤ 65535) ∧ (1 ≤ p.tiltLimit ∧ p.tiltLimit ≤ 18000) ∧
  (1 ≤ p.pitchLimit ∧ p.pitchLimit ≤ 9000) ∧ (1 ≤ p.accelLimit ∧ p.accelLimit ≤ 65535) ∧ p.pitchCoeff ≤ 500 ∧
  (5 ≤ p.rateBand ∧ p.rateBand ≤ 50) ∧ (1000 ≤ p.pressureMax ∧ p.pressureMax ≤ 60000) ∧
  (100 ≤ p.ratedLoad ∧ p.ratedLoad ≤ 60000) ∧ p.zeroLimit ≤ 10000

/-- A cycle record in its stored ranges (R126). -/
def CycleRecord.stored (k : CycleRecord) : Prop :=
  (-9000 ≤ k.thetaDig ∧ k.thetaDig ≤ 9000) ∧ (-9000 ≤ k.thetaCarry ∧ k.thetaCarry ≤ 9000) ∧
  (-18000 ≤ k.tauDump ∧ k.tauDump ≤ 18000) ∧ k.pDig ≤ 60000 ∧ k.parkedDwell ≤ 2550 ∧ k.digDwell ≤ 2550 ∧
  k.liftDwell ≤ 2550 ∧ k.carryDwell ≤ 2550 ∧ k.dumpDwell ≤ 2550 ∧ k.returnDwell ≤ 2550

/-- A number that 32 bits hold with its sign. -/
def inS32 (x : Int) : Prop := -2147483648 ≤ x ∧ x ≤ 2147483647

/-- What an entry of a table makes of a state, for every content in its range (R15, R27, R39, R43, R34, R49, R52, R78,
R87, R126, R145, R111, R168, R173, R83, R185). A written boundary puts both queues, which are OFF, at their first words
(R53), and their sub-queue starts with them (log 49); a PERMIT set names the four groups alone (log 50); the LOAD route
and a node bring a drain attempt (R179). -/
inductive State.Sets (s : State) : Nat → Nat → State → Prop where
  | gap (v : Nat) : 2 ≤ v → v ≤ 15 → s.Sets 0 0 { s with link := { s.link with gapEntry := v } }
  | permit (n : Nat) (p : Port) (v : BitVec 4) : (n, p) = (0, .mp) ∨ (n, p) = (1, .dp) →
      s.Sets 1 n { s with mgt := { s.mgt with written := s.mgt.written.set p v } }
  | matching (n : Nat) (e : MatchEntry) : e.inRange →
      s.Sets 2 n { s with sig := { s.sig with matchTable := s.sig.matchTable.setIfInBounds n e } }
  | signal (n : Nat) (c : SlotConfig) : -32768 ≤ c.gain → c.gain ≤ 32767 → c.shift ≤ 15 → inS32 c.offset →
      c.timeout ≤ 65535 → s.Sets 3 n { s with sig := { s.sig with config := s.sig.config.setIfInBounds n c } }
  | role (n : Nat) (v : Option (Fin 32)) :
      s.Sets 4 n { s with sig := { s.sig with roles := s.sig.roles.setIfInBounds n v } }
  | key (n : Nat) (e : KeyEntry) :
      s.Sets 5 n { s with sig := { s.sig with keyMap := s.sig.keyMap.setIfInBounds n e } }
  | word (n : Nat) (w : SampleWord) : n < 48 → w.settle ≤ 3 →
      s.Sets 6 n { s with acq := { s.acq with words := s.acq.words.setIfInBounds n w } }
  | boundary (b : Nat) : 1 ≤ b → b ≤ 47 →
      s.Sets 6 48 { s with acq := { s.acq with
        boundary := b
        queues :=
          ⟨{ s.acq.queues.fast with state := .off, position := 0, subStart := 0 },
            { s.acq.queues.slow with state := .off, position := b, subStart := b }⟩ } }
  | setup (n : Nat) (q : QueueId) (r : QueueSetup) : (n, q) = (0, .fast) ∨ (n, q) = (1, .slow) →
      (q = .slow → r.resume.toNat ≤ 1) → s.Sets 7 n { s with acq := { s.acq with setup := s.acq.setup.set q r } }
  | reload (n v : Nat) : v ≤ 65535 →
      s.Sets 8 n { s with time := { s.time with timerTable := s.time.timerTable.setIfInBounds n v } }
  | weigh (p : WeighRecord) : p.stored → s.Sets 9 0 { s with weigh := { s.weigh with params := p } }
  | cycle (k : CycleRecord) : k.stored → s.Sets 10 0 { s with trk := { s.trk with params := k } }
  | account (p : AccountRecord) : p.full ≤ 100 → p.tolerance ≤ 100 →
      s.Sets 11 0 { s with acc := { s.acc with params := p } }
  | calibration (mref : Nat) (zero : Int) (rate delta : Nat) : 500 ≤ mref → mref ≤ 30000 → -30000 ≤ zero →
      zero ≤ 30000 → rate ≤ 65535 → delta ≤ 1000000 →
      s.Sets 12 0 { s with cal := { s.cal with active :=
        { s.cal.active with mref := mref, zeroOffset := zero, rate := rate, minDelta := delta } } }
  | bin (n : Nat) (e r : Option Int) : 1 ≤ n → n ≤ 16 → (∀ x, e = some x → inS32 x) → (∀ x, r = some x → inS32 x) →
      s.Sets 12 n { s with cal := { s.cal with active :=
        { s.cal.active with
          empty := s.cal.active.empty.setIfInBounds (n - 1) e
          reference := s.cal.active.reference.setIfInBounds (n - 1) r } } }
  | deadline (v : Nat) : v ≤ 65535 → s.Sets 12 17 { s with cal := { s.cal with deadline := v } }
  | overlay (n : Nat) (e : OverlayEntry) : e.set ≤ 3 → e.offset ≤ 59 → e.divisor ∈ [1, 10, 100, 1000] →
      s.Sets 13 n { s with rep := { s.rep with overlay := s.rep.overlay.setIfInBounds n e } }
  | route (n : Nat) (v : Route) : n < 8 →
      s.Sets 14 n { s with
        rep := { s.rep with routes := s.rep.routes.setIfInBounds n v }
        handed := s.handed ++ if n = 3 then [.loadDrain] else [] }
  | node (n : Nat) (p : Port) (v : BitVec 4) : (n, p) = (8, .mp) ∨ (n, p) = (9, .dp) →
      s.Sets 14 n { s with rep := { s.rep with nodes := s.rep.nodes.set p v }, handed := s.handed ++ [.loadDrain] }
  | shift (n : Nat) (e : ShiftEntry) : e.hour ≤ 23 → e.minute ≤ 59 →
      s.Sets 15 n { s with time := { s.time with shiftTable := s.time.shiftTable.setIfInBounds n e } }

/-- The bytes of a field descriptor (R28). -/
def FieldDesc.layout (f : FieldDesc) : List Byte :=
  u8 f.offset ++ enumByte [.bit, .one, .two, .four] f.width ++ u8 f.bit ++ flagByte f.lowFirst ++ flagByte f.signed

/-- The bytes of an action (R27, R192): its code, and the data laid out for it. -/
def MatchAction.layout : MatchAction → List Byte
  | .extract fields => u8 0 ++ u8 fields.length ++ fields.flatMap fun f => f.1.layout ++ u8 f.2
  | .key offset => u8 1 ++ u8 offset
  | .target id capacity departure =>
    let optional := fun d : Option FieldDesc => match d with
      | some f => u8 1 ++ f.layout
      | none => u8 0 ++ List.replicate 5 0
    u8 2 ++ id.layout ++ optional capacity ++ optional departure
  | .page set => u8 3 ++ u8 set

/-- The bytes of an entry as the table holds it (R183, R192): its fields in the order of the table that defines them. -/
def State.entry (s : State) (table index : Nat) : List Byte :=
  match table with
  | 0 => u8 s.link.gapEntry
  | 1 => u8 (if index = 0 then s.mgt.written.mp else s.mgt.written.dp).toNat
  | 2 => (s.sig.matchTable[index]?).elim [] fun e =>
    flagByte e.enable ++ enumByte [.fromMp, .fromDp, .either] e.direction ++ [e.classValue, e.classMask] ++
      u8 e.sourceValue.toNat ++ u8 e.sourceMask.toNat ++ [e.byte0Value, e.byte0Mask] ++ u8 e.minLength ++
      flagByte e.consume ++ e.action.layout
  | 3 => (s.sig.config[index]?).elim [] fun c => s16 c.gain ++ u8 c.shift ++ s32 c.offset ++ u16 c.timeout
  | 4 => u8 (((s.sig.roles[index]?).getD none).elim 255 Fin.val)
  | 5 => (s.sig.keyMap[index]?).elim [] fun e => flagByte e.inUse ++ [e.raw] ++ enumByte keyFunctions e.function
  | 6 =>
    if index = 48 then u8 s.acq.boundary
    else (s.acq.words[index]?).elim [] fun w =>
      u8 (w.channel.elim 255 Fin.val) ++ u8 w.settle ++ flagByte w.brk ++ flagByte w.last ++ u8 (w.dest.elim 255 Fin.val)
  | 7 =>
    let r := if index = 0 then s.acq.setup.fast else s.acq.setup.slow
    enumByte [.off, .single, .continuous] r.mode ++ enumByte [.command, .timer] r.trigger ++ flagByte r.arm ++ [r.resume]
  | 8 => (s.time.timerTable[index]?).elim [] u16
  | 9 =>
    let p := s.weigh.params
    s16 p.thetaS ++ s16 p.thetaE ++ u16 p.hysteresis ++ u32 p.headArea ++ u32 p.rodArea ++ u8 p.minSamples ++
      u8 p.minBins ++ u16 p.spreadGood ++ u16 p.spreadReject ++ u16 p.tiltLimit ++ u16 p.pitchLimit ++ u16 p.accelLimit ++
      u16 p.pitchCoeff ++ u8 p.rateBand ++ u16 p.pressureMax ++ u16 p.ratedLoad ++ u16 p.zeroLimit
  | 10 =>
    let k := s.trk.params
    s16 k.thetaDig ++ s16 k.thetaCarry ++ s16 k.tauDump ++ u16 k.pDig ++ u16 k.parkedDwell ++ u16 k.digDwell ++
      u16 k.liftDwell ++ u16 k.carryDwell ++ u16 k.dumpDwell ++ u16 k.returnDwell
  | 11 => u8 s.acc.params.full ++ u8 s.acc.params.tolerance
  | 12 =>
    let c := s.cal.active
    let force := fun f : Option Int => match f with
      | some x => u8 1 ++ s32 x
      | none => u8 0 ++ List.replicate 4 0
    if index = 0 then u16 c.mref ++ s16 c.zeroOffset ++ u16 c.rate ++ u32 c.minDelta
    else if index = 17 then u16 s.cal.deadline
    else force ((c.empty[index - 1]?).getD none) ++ force ((c.reference[index - 1]?).getD none)
  | 13 => (s.rep.overlay[index]?).elim [] fun e =>
    flagByte e.enable ++ u8 e.set ++ u8 e.offset ++ u8 (if e.wide = true then 1 else 0) ++ enumByte items e.item ++
      enumByte [1, 10, 100, 1000] e.divisor ++ flagByte e.fill
  | 14 =>
    if index < 8 then enumByte [.off, .mp, .dp, .both] ((s.rep.routes[index]?).getD .off)
    else u8 (if index = 8 then s.rep.nodes.mp else s.rep.nodes.dp).toNat
  | 15 => (s.time.shiftTable[index]?).elim [] fun e => flagByte e.enable ++ u8 e.hour ++ u8 e.minute
  | _ => []

/-- The live state that READ_ENTRY returns behind an entry (R39, R51, R111, R183, R185); the two bytes of a slot's last
source are the model's choice (log 17). -/
def State.live (s : State) (table index : Nat) : List Byte :=
  match table with
  | 1 => u8 (if index = 0 then s.mgt.inForce.mp else s.mgt.inForce.dp).toNat
  | 3 => (s.sig.slots[index]?).elim [] fun v =>
    s32 v.value ++ enumByte [.never, .fresh, .stale] v.fresh ++ u32 v.tag.toNat ++ u16 v.writes.toNat ++
      match v.source with
      | .entry n => u8 0 ++ u8 n
      | .word n => u8 1 ++ u8 n
      | .unset => u8 2 ++ u8 255
  | 6 =>
    if index = 48 then []
    else (s.acq.results[index]?).elim [] fun r => u16 r.raw.toNat ++ u32 r.tag.toNat ++ flagByte r.valid
  | 12 => if index = 17 then [] else flagByte s.cal.active.valid
  | _ => []

/-- Data with the bytes behind a presence byte of 0 set to 0. -/
def zeroAbsent (place width : Nat) (d : List Byte) : List Byte :=
  if byteAt d place = 0 then d.take (place + 1) ++ List.replicate width 0 ++ d.drop (place + 1 + width) else d

/-- The bytes an entry reads back as: those written, with the descriptors and forces marked absent as 0 (logs 26 and
35). -/
def asRead (table index : Nat) (d : List Byte) : List Byte :=
  if table = 2 ∧ byteAt d 10 = 2 then zeroAbsent 22 5 (zeroAbsent 16 5 d)
  else if table = 12 ∧ index ≠ 0 ∧ index ≠ 17 then zeroAbsent 5 4 (zeroAbsent 0 4 d)
  else d

/-- An entry takes data (R183, check 5): it has the entry's length, every field lies in its range, and the entry then
holds it. -/
def State.Takes (s : State) (table index : Nat) (d : List Byte) (t : State) : Prop :=
  s.Sets table index t ∧ d.length = (t.entry table index).length ∧ t.entry table index = asRead table index d

/-! ### The checks of COMMIT (R184) -/

/-- An entry fails its step of COMMIT (R37, R43, R69, R88, R127, R145, R168, R173, R184). The destination of an UNUSED
word is no source of a slot (log 33). -/
inductive State.EntryFails (s : State) : Nat → Nat → Prop where
  | permit : (∀ p, hasGroup (s.mgt.written.get p) .config = false) → s.EntryFails 1 0
  | fieldCount (n : Nat) (e : MatchEntry) (fields : List (FieldDesc × Fin 32)) : s.sig.matchTable[n]? = some e →
      e.enable = true → e.action = .extract fields → fields = [] ∨ 3 < fields.length → s.EntryFails 2 n
  | fieldFits (n : Nat) (e : MatchEntry) (f : FieldDesc) : s.sig.matchTable[n]? = some e → e.enable = true →
      f ∈ e.action.descriptors → 60 < f.offset + (match f.width with | .bit => 1 | .one => 1 | .two => 2 | .four => 4) →
      s.EntryFails 2 n
  | departure (n : Nat) (e : MatchEntry) (id d : FieldDesc) (capacity : Option FieldDesc) :
      s.sig.matchTable[n]? = some e → e.enable = true → e.action = .target id capacity (some d) → d.width ≠ .bit →
      s.EntryFails 2 n
  | page (n : Nat) (e : MatchEntry) (set : Nat) : s.sig.matchTable[n]? = some e → e.enable = true →
      e.action = .page set → e.direction ≠ .fromMp ∨ e.consume = true → s.EntryFails 2 n
  | unmapped (n : Nat) (r : Role) : [.headP, .rodP, .boom, .tilt][n]? = some r → s.sig.slotOf r = none →
      s.EntryFails 4 n
  | sharedSlot (n m : Nat) (r q : Role) (slot : Fin 32) : allRoles[n]? = some r → allRoles[m]? = some q → m < n →
      s.sig.slotOf r = some slot → s.sig.slotOf q = some slot → s.EntryFails 4 n
  | unfed (n : Nat) (r : Role) (slot : Fin 32) : [.headP, .rodP, .boom, .tilt][n]? = some r →
      s.sig.slotOf r = some slot →
      (∀ e ∈ s.sig.matchTable.toList, ∀ fields, e.enable = true → e.action = .extract fields →
        ∀ f ∈ fields, f.2 ≠ slot) →
      (∀ w ∈ s.acq.words.toList, w.channel ≠ none → w.dest ≠ some slot) → s.EntryFails 4 n
  | sharedKey (n m : Nat) (e x : KeyEntry) : s.sig.keyMap[n]? = some e → s.sig.keyMap[m]? = some x → m < n →
      e.inUse = true → x.inUse = true → x.raw = e.raw → s.EntryFails 5 n
  | unreachable (n m : Nat) (w v : SampleWord) : s.acq.words[n]? = some w → s.acq.words[m]? = some v → m < n →
      n < s.acq.boundary ∨ s.acq.boundary ≤ m → w.channel ≠ none → v.channel = none → s.EntryFails 6 n
  | firstUnused (n : Nat) (q : QueueId) : [.fast, .slow][n]? = some q → (s.acq.setup.get q).mode ≠ .off →
      (s.acq.word (s.acq.firstWord q)).channel = none → s.EntryFails 7 n
  | armOff (n : Nat) (q : QueueId) : [.fast, .slow][n]? = some q → (s.acq.setup.get q).arm = true →
      (s.acq.setup.get q).mode = .off → s.EntryFails 7 n
  | weigh : ¬ s.weigh.params.works s.trk.params → s.EntryFails 9 0
  | cycle : ¬ (s.trk.params.thetaDig < s.trk.params.thetaCarry ∧ 1 ≤ s.trk.params.pDig ∧ s.trk.params.pDig ≤ 60000) →
      s.EntryFails 10 0
  | account : ¬ (80 ≤ s.acc.params.full ∧ s.acc.params.full ≤ 100 ∧ s.acc.params.tolerance ≤ 20) → s.EntryFails 11 0
  | overlay (n : Nat) (e : OverlayEntry) : s.rep.overlay[n]? = some e → e.enable = true → 60 < e.offset + e.width →
      s.EntryFails 13 n
  | node (n : Nat) (p : Port) (k : ReportKind) : (n, p) = (8, .mp) ∨ (n, p) = (9, .dp) → s.routes k p →
      s.rep.nodes.get p = s.link.node → s.EntryFails 14 n

/-- The first entry that fails, in the order of the steps and in each in ascending order (R184). -/
def State.firstFailing (s : State) (table index : Nat) : Prop :=
  s.EntryFails table index ∧ ∀ t i, s.EntryFails t i → table < t ∨ table = t ∧ index ≤ i

/-! ### The configuration state and the engines (R88, R92, R123, R132, R144, R145, R148, R167, R168, R169, R182) -/

structure State.ConfigInv (s : State) : Prop where
  weighing : s.weigh.state = .disabled ↔ s.mgt.config ≠ .run
  calibration : s.mgt.config ≠ .run → s.cal.run = .off
  deadline : s.cal.run ≠ .collecting → s.cal.startOpen = false
  tracker : s.mgt.config ≠ .run →
    s.trk.phase = .unknown ∧ s.trk.pending = none ∧ s.trk.cycleStart = none ∧ s.trk.dumped = false
      ∧ s.trk.candidate = none
  dwell : s.trk.startOpen = s.trk.candidate.isSome
  queues : s.mgt.config = .unconfigured → ∀ q, (s.acq.queue q).state = .off
  record : s.mgt.config = .run → s.acc.params.commits = true
  weighs : s.mgt.config = .run → s.weigh.params.works s.trk.params
  divisors : ∀ e ∈ s.rep.overlay.toList, e.divisor ∈ [1, 10, 100, 1000]
  evaluated : s.mgt.config = .run → ∀ i, (s.acc.slot i).held = true → (s.acc.slot i).evaluate s.acc.params = s.acc.slot i

/-- Every invariant of the part. -/
structure State.Inv (s : State) : Prop where
  link : s.link.Inv
  signals : s.sig.Inv
  acquisition : s.acq.Inv
  accounts : s.acc.Inv
  drain : s.DrainInv
  config : s.ConfigInv

end Sys2Proof.Machine
end

