-- ==== Sys2Proof/Certificates/Slice0/Obligations.lean ====
section
/-!
DEFINITION. The statements for the provers, from the numbered rules of spec/. Where a statement rests on a choice of
the model's, its docstring names the log entry: log 3 is notes/assumptions/3.md. Four choices run through all of them: a
request handed to another block stands in the list `handed` (log 4), requests handed to different blocks by one event
stand there in the model's order (log 22), `State.setFault` sets a fault flag in the event that raises it (log 8), and an
enumeration with no table of its own has the codes of log 16.
-/

open Sys2Proof Sys2Proof.Machine

/-! ### The machine as a whole -/

/-- A step takes the command at the front of the queue and runs it on the state with the queue's rest. -/
def Obligations.StepRunsFrontCommand : Prop :=
  ∀ (c : Instr) (rest : List Instr) (s : State), s.pending = c :: rest → step s = exec c { s with pending := rest }

/-- With no command waiting (logs 3 and 28, the model's choice): an arbiter that can start a frame does; otherwise the
oldest request handed between blocks is taken; with neither, a conversion that has run its time completes with a free
result (log 5), then an event that is due is taken; with nothing due, one microsecond passes. -/
def Obligations.EmptyQueueStep : Prop :=
  ∀ s : State, s.pending = [] →
    (∀ p, s.link.arbiterDue p = true → ∃ q, s.link.arbiterDue q = true ∧ step s = exec (.arbiterStart q) s) ∧
    ((∀ p, s.link.arbiterDue p = false) →
      (∀ c rest, s.handed = c :: rest → step s = exec c s) ∧
      (s.handed = [] →
        (∀ c, s.acq.conversion = some c → c.left = 0 → ∃ raw,
          step s = exec (.conversionComplete raw) { s with acq := { s.acq with freeReads := s.acq.freeReads + 1 } }) ∧
        ((∀ c, s.acq.conversion = some c → c.left ≠ 0) →
          ((∃ c, s.Due c) → ∃ c, s.Due c ∧ step s = exec c s) ∧
          ((∀ c, ¬ s.Due c) → ∃ t, step s = .next t ∧ s.Ticked t))))

/-- Every command completes: no command of the part stops it (00, Refusals), and no command touches the queue of those
that wait. -/
def Obligations.EveryCommandCompletes : Prop :=
  ∀ (c : Instr) (s : State), ∃ t, exec c s = .next t ∧ t.pending = s.pending

/-- A power reset, in whatever state it comes, leaves every block as the reset tables say (R4, R17, R25, R45, R46, R72,
R86, R108, R109, R112, R125, R144, R167, R168, R173, R181, R182, R185, R191). The values of fields that the tables only
clear are those of log 2. -/
def Obligations.PowerResetState : Prop :=
  ∀ (straps : BitVec 4) (s : State), ∃ t, exec (.powerReset straps) s = .next t ∧
    (t.link.straps = straps ∧ t.link.node = (if straps = 15 then 14 else straps) ∧ t.link.relay = .takeover ∧
      (∀ p, t.link.ingress.get p = ⟨.hunt false, 0, 0⟩ ∧ t.link.relayQ.get p = [] ∧ t.link.origQ.get p = [] ∧
        t.link.egress.get p = ⟨none, 0, 0, 0⟩ ∧ t.link.counters.get p = ⟨0, 0, 0, 0, 0, 0, 0, 0⟩) ∧
      t.link.gapInUse = 4 ∧ t.link.gapEntry = 4 ∧ t.link.limit = .stopped) ∧
    ((∀ e ∈ t.sig.matchTable.toList, e = ⟨false, .fromMp, 0, 0, 0, 0, 0, 0, 0, false, .extract []⟩) ∧
      (∀ e ∈ t.sig.keyMap.toList, e.inUse = false) ∧ (∀ r, t.sig.slotOf r = none) ∧
      (∀ i : Fin 32, t.sig.config[i] = ⟨1, 0, 0, 0⟩ ∧ t.sig.slots[i] = ⟨0, 0, .never, 0, .unset, none⟩) ∧
      t.sig.counters = ⟨0, 0, 0⟩) ∧
    ((∀ w ∈ t.acq.words.toList, w = ⟨none, 0, false, false, none⟩) ∧
      (∀ r ∈ t.acq.results.toList, r = ⟨0, 0, false⟩) ∧ t.acq.boundary = 24 ∧
      t.acq.setup = ⟨⟨.off, .command, false, 0⟩, ⟨.off, .command, false, 0⟩⟩ ∧
      t.acq.queues = ⟨⟨.off, 0, 0, false, false, false⟩, ⟨.off, 24, 24, false, false, false⟩⟩ ∧
      t.acq.conversion = none ∧ t.acq.released = false) ∧
    (t.time.tag = 0 ∧ (∀ i, (t.time.timer i).running = false ∧ (t.time.timer i).left = 0 ∧ (t.time.timer i).reload = 0) ∧
      (∀ v ∈ t.time.timerTable.toList, v = 0) ∧ (∀ e ∈ t.time.shiftTable.toList, e = ⟨false, 0, 0⟩) ∧
      t.time.clock = ⟨2000, 1, 1, 0, 0, 0⟩ ∧ t.time.valid = false ∧ t.time.secondLeft = 1000000 ∧
      t.time.lastSecond = 0 ∧ t.time.shiftNumber = 0) ∧
    (t.weigh.params = ⟨0, 0, 0, 0, 0, 0, 0, 0, 0, 0, 0, 0, 0, 0, 0, 0, 0⟩ ∧ t.weigh.state = .disabled ∧
      t.weigh.window.samples = 0 ∧ t.weigh.speed = none ∧ t.weigh.accel = none ∧ t.weigh.sequence = 0 ∧
      t.weigh.reversals = 0 ∧ t.weigh.last = none) ∧
    ((∀ c, c = t.cal.active ∨ c = t.cal.candidate →
        (∀ f ∈ c.empty.toList ++ c.reference.toList, f = none) ∧ c.mref = 0 ∧ c.zeroOffset = 0 ∧ c.rate = 0 ∧
        c.minDelta = 0 ∧ c.valid = false) ∧
      t.cal.deadline = 0 ∧ t.cal.run = .off ∧ t.cal.record.kind = .empty ∧ t.cal.record.keyStarted = false ∧
      t.cal.record.lifts = 0 ∧ t.cal.record.mref = 0 ∧ t.cal.record.accepted = 0 ∧ t.cal.record.refused = 0 ∧
      (∀ x ∈ t.cal.record.binSums.toList, x = 0) ∧ (∀ x ∈ t.cal.record.binLifts.toList, x = 0) ∧
      t.cal.record.rateSum = 0 ∧ t.cal.record.cause = .config) ∧
    (t.trk.phase = .unknown ∧ t.trk.candidate = none ∧ t.trk.pending = none ∧ t.trk.cycleStart = none ∧
      t.trk.dumped = false ∧ t.trk.figures = ⟨0, 0, 0, 0, 0, 0⟩ ∧ t.trk.params = ⟨0, 0, 0, 0, 0, 0, 0, 0, 0, 0⟩) ∧
    ((∀ i, t.acc.slot i = TargetSlot.free) ∧ t.acc.pointer = none ∧ t.acc.overloadAhead = false ∧
      t.acc.log = ⟨[], 1, 0, false, false⟩ ∧ t.acc.totals = ⟨0, 0, 0, 0, 0⟩ ∧ t.acc.shift = 0 ∧
      t.acc.snapshot = ⟨false, ⟨0, 0, 0, 0, 0⟩, ⟨0, 0, 0, 0, 0, 0⟩, 0, ⟨0, 0, 0, 0, 0, 0⟩, 0⟩ ∧ t.acc.params = ⟨0, 0⟩ ∧
      t.acc.openRefusals = 0 ∧ t.acc.unknownDepartures = 0 ∧ t.acc.unallocatedCredits = 0) ∧
    ((∀ e ∈ t.rep.overlay.toList, e = ⟨false, 0, 0, false, .phase, 1, false⟩) ∧ (∀ k, t.rep.route k = .off) ∧
      (∀ p, t.rep.nodes.get p = 15 ∧ t.rep.tags.get p = 0 ∧ t.rep.memory.get p = none ∧ t.rep.changes.get p = 0 ∧
        t.rep.drain.get p = .absent) ∧
      t.rep.assembly = none ∧ t.rep.lastClosing = none) ∧
    (t.mgt.config = .unconfigured ∧ t.mgt.faults = 0 ∧ t.mgt.written = t.mgt.inForce ∧
      (∀ g, hasGroup t.mgt.inForce.mp g = true) ∧
      (∀ g, hasGroup t.mgt.inForce.dp g = true ↔ g = .info ∨ g = .operate)) ∧
    t.handed = [] ∧ t.pending = s.pending

/-- The state after reset, and the state after any power reset, meet every invariant. -/
def Obligations.InvariantsAtReset : Prop :=
  State.reset.Inv ∧ ∀ (straps : BitVec 4) (s t : State), exec (.powerReset straps) s = .next t → t.Inv

/-! ### The cab link (01) -/

/-- R3: a frame with its check behind it passes the check of a receiver, leaves the register at 0, and no other two
bytes pass in the check's place. -/
def Obligations.CheckOfFrame : Prop :=
  (∀ bytes : List Byte, crc (withCheck bytes) = 0 ∧ checkHolds (withCheck bytes) = true) ∧
  (∀ (bytes : List Byte) (hi lo : Byte), checkHolds (bytes ++ [hi, lo]) = true → bytes ++ [hi, lo] = withCheck bytes) ∧
  crc [0x31, 0x32, 0x33, 0x34, 0x35, 0x36, 0x37, 0x38, 0x39] = 0x29B1 ∧ crc [] = 0xFFFF

/-- R6 to R8, R17, R18: every character in every relay state, but one that closes a frame while the part carries the
line: the mode and run it leaves the side in, the hunt discard, counted in RELAY and RELEASE only, and what the
relay state does then. A frame that closes in TAKEOVER or BYPASS is discarded, uncounted. -/
def Obligations.CharacterTaken : Prop :=
  (∀ (i : Ingress) (c : Character), ∃ mode run, i.Takes c mode run) ∧
  (∀ (p : Port) (c : Character) (mode : IngressMode) (run : Nat) (s : State),
     let i := s.link.ingress.get p
     i.Takes c mode run →
     (∀ f, i.mode = .aligned (some f) → (∃ b, c = .data b) ∨ carries s.link.relay = false) →
     let u := s.hears p c mode run
     let discards := i.mode = .hunt true ∧ mode = .aligned none ∧ carries s.link.relay = true
     ∃ t, exec (.characterReceived p c) s = .next t ∧
       (¬ discards → u.SettlesTo t) ∧
       (discards → State.SettlesTo
         { u with link := u.link.count p fun k => { k with huntDiscards := satInc 65535 k.huntDiscards } } t))

/-- R9 to R12: a frame that closes. One that is not good is counted in its class and offered to the relay queue toward
the other port with ABORT; a good one that is no request for this node, and that is of a reserved class or comes
outside RUN, is counted good and offered as received with END. Where a frame does not fit it is dropped whole, counted
and reported (log 8). In RELEASE, its limit run out or not (R20, R22), the test of R21 and R22 follows. -/
def Obligations.ClosedFrameRelayed : Prop :=
  (∀ (p : Port) (f : FrameIn) (c : Character) (s : State), carries s.link.relay = true → f.stored.length ≤ 66 →
     (s.link.ingress.get p).mode = .aligned (some f) → (∀ b, c ≠ .data b) → ¬ (c = .endMark ∧ f.good) →
     (f.count ≤ 66 → f.count = f.stored.length) →
     let q := s.link.relayQ.get (otherPort p)
     let fits := q.length + 1 ≤ 8 ∧ relayBytes q + f.stored.length ≤ 512
     let classed := fun k : LinkCounters =>
       if c ≠ .endMark then { k with aborts := satInc 65535 k.aborts }
       else if f.count < 6 then { k with runts := satInc 65535 k.runts }
       else if 66 < f.count ∨ f.count ≠ 6 + (f.stored.getD 3 0).toNat then { k with giants := satInc 65535 k.giants }
       else { k with checkErrors := satInc 65535 k.checkErrors }
     let k := classed (s.link.counters.get p)
     let t := s.hears p c (modeAfterClose c) (if c = .space then satInc 16 (s.link.ingress.get p).spaces else 0)
     exec (.characterReceived p c) s = .next (State.releaseTest
       (if fits then
         { t with link := { t.link with
             counters := t.link.counters.set p k
             relayQ := t.link.relayQ.set (otherPort p) (q ++ [⟨f.stored, .abort⟩]) } }
       else
         State.setFault (dropFault (otherPort p))
           { t with link := { t.link with
               counters := t.link.counters.set p { k with relayDrops := satInc 65535 k.relayDrops } } }))) ∧
  (∀ (p : Port) (f : FrameIn) (s : State), carries s.link.relay = true →
     (s.link.ingress.get p).mode = .aligned (some f) → f.good →
     ¬ (frameClass f.stored = 0xF0 ∧ frameDestination f.stored = s.link.node) →
     reservedClass (frameClass f.stored) = true ∨ s.mgt.config ≠ .run →
     let q := s.link.relayQ.get (otherPort p)
     let fits := q.length + 1 ≤ 8 ∧ relayBytes q + f.stored.length ≤ 512
     let k := s.link.counters.get p
     let t := s.hears p .endMark (.aligned none) 0
     exec (.characterReceived p .endMark) s = .next (State.releaseTest
       (if fits then
         { t with link := { t.link with
             counters := t.link.counters.set p { k with good := satInc 65535 k.good }
             relayQ := t.link.relayQ.set (otherPort p) (q ++ [⟨f.stored, .endMark⟩]) } }
       else
         State.setFault (dropFault (otherPort p))
           { t with link := { t.link with
               counters := t.link.counters.set p
                 { k with good := satInc 65535 k.good, relayDrops := satInc 65535 k.relayDrops } } })))

/-- R11, R186, R187, R192: a management request for this node is counted good and handed to the management unit as the
command its code names, or dropped as busy while the port's originate queue holds a response (log 9); it is never
relayed; a QUEUE_CONTROL of an operation that names none becomes the ARM row (log 15). The codes of the four groups run
in the order of R187 from 0x10, 0x20, 0x30 and 0x40. In RELEASE, its limit run out or not (R20, R22), the test of R21
and R22 follows, in which a request handed on counts (log 11). -/
def Obligations.RequestDiverted : Prop :=
  (∀ (p : Port) (f : FrameIn) (s : State), carries s.link.relay = true →
     (s.link.ingress.get p).mode = .aligned (some f) → f.good →
     frameClass f.stored = 0xF0 → frameDestination f.stored = s.link.node →
     let k := s.link.counters.get p
     let t := s.hears p .endMark (.aligned none) 0
     exec (.characterReceived p .endMark) s = .next (State.releaseTest
       (if holdsResponse (s.link.origQ.get p) = true then
         { t with link := { t.link with
             counters := t.link.counters.set p
               { k with good := satInc 65535 k.good, busyDrops := satInc 65535 k.busyDrops } } }
       else
         { t with
           link := { t.link with counters := t.link.counters.set p { k with good := satInc 65535 k.good } }
           handed := t.handed ++ [commandOf (requestIn p f.stored)] }))) ∧
  (∀ req : Request,
     requestOf (commandOf req) = some req ∧ (req.data.length ≤ 59 → (commandOf req).wellFormed = true) ∧
     (commandGroup (commandOf req) = some .info ↔ 0x10 ≤ req.code.toNat ∧ req.code.toNat ≤ 0x17) ∧
     (commandGroup (commandOf req) = some .operate ↔ 0x20 ≤ req.code.toNat ∧ req.code.toNat ≤ 0x27) ∧
     (commandGroup (commandOf req) = some .config ↔ 0x30 ≤ req.code.toNat ∧ req.code.toNat ≤ 0x36) ∧
     (commandGroup (commandOf req) = some .control ↔ 0x40 ≤ req.code.toNat ∧ req.code.toNat ≤ 0x42) ∧
     (commandGroup (commandOf req) = none ↔ commandOf req = .unknownCommand req))

/-- R11, R28 to R38, R40, R44: a good frame of a class that is not reserved, matched in RUN. Each slot that fields of
matching entries name is written once, with the last that fits; the counters take what the entries count; each slot
written brings its notifications (their order: log 22), then the entries hand on their requests. A consumed
frame is not relayed; any other is, as received, or as a page that the overlay stage has rewritten. Which
descriptors of a TARGET entry count as short: log 27; the fault flag of a frame dropped: log 8. In RELEASE, its limit
run out or not (R20, R22), the test of R21 and R22 follows. -/
def Obligations.MatchedFrame : Prop :=
  (∀ (e : MatchEntry) (p : Port) (frame : List Byte), e.matches p frame = true ↔ e.Meets p frame) ∧
  (∀ (f : FieldDesc) (payload : List Byte), f.Reads payload (f.read payload)) ∧
  (∀ (p : Port) (f : FrameIn) (s : State), carries s.link.relay = true →
    (s.link.ingress.get p).mode = .aligned (some f) → f.good →
    reservedClass (frameClass f.stored) = false → s.mgt.config = .run →
    let k := s.link.counters.get p
    let entries := s.sig.matching p f.stored
    let consumed := ∃ x ∈ entries, x.1.consume = true
    let taken := s.hears p .endMark (.aligned none) 0
    ∃ (ys : List Yield) (written : List (Fin 32)) (t : State),
      ys.length = entries.length ∧
      (∀ (n : Nat) x y, entries[n]? = some x → ys[n]? = some y → x.1.Does s.sig (framePayload f.stored) y) ∧
      written.Nodup ∧ (∀ i, i ∈ written ↔ s.sig.lastField p f.stored i ≠ none) ∧
      (∀ i : Fin 32, t.sig.slots[i] =
        match s.sig.lastField p f.stored i with
        | some (n, raw) => writtenSlot s.sig.slots[i] s.sig.config[i] raw s.time.tag (.entry n)
        | none => s.sig.slots[i]) ∧
      t = { taken with
        link := { taken.link with counters := taken.link.counters.set p { k with good := satInc 65535 k.good } }
        sig := { s.sig with
          slots := t.sig.slots
          counters :=
            ⟨min 65535 (s.sig.counters.short + (ys.map fun y => y.short).sum),
              min 65535 (s.sig.counters.unmapped + (ys.map fun y => y.unmapped).sum),
              min 65535 (s.sig.counters.dispatch + (ys.map fun y => y.dispatch).sum)⟩ }
        handed := taken.handed ++ written.flatMap t.sig.tells } ∧
      (let requests := ys.flatMap fun y => y.requests
       let handing := fun u : State => { u with handed := u.handed ++ requests }
       let ends := fun u : State => exec (.characterReceived p .endMark) s = .next u.releaseTest
       (consumed → ends (handing t)) ∧
       (¬ consumed → p = .dp ∨ (∀ set, ¬ pageOf entries set) →
         ends ((handing t).relays p ⟨f.stored, .endMark⟩)) ∧
       (∀ set, ¬ consumed → p = .mp → pageOf entries set →
         let x := overlayPage set f.stored t
         ends ((handing x.1).relays p ⟨x.2, .endMark⟩))))

/-- R6, R17, R18: 2 ms of silence take an ingress side to DOWN; its frame in progress is lost and its fault flag set. In
TAKEOVER the contacts open at a SPACE character or an entry into DOWN that makes both segments quiet, and at no other
character; until then a character changes its ingress side alone, as R6 to R8 say. The entry into DOWN clears the run of
SPACE (log 12), sets its flag at once (log 8) and does nothing before it is due (log 7). -/
def Obligations.DownAndTakeover : Prop :=
  (∀ (p : Port) (s : State), s.link.relay ≠ .takeover →
     let i := s.link.ingress.get p
     let s₀ := { s with handed := s.handed.erase (.ingressDown p) }
     (i.mode ≠ .down → 2000 ≤ i.silence →
       exec (.ingressDown p) s = .next
         (State.setFault (match p with | .mp => .mpDown | .dp => .dpDown)
           { s₀ with link := s.link.setIngress p ⟨.down, 0, i.silence⟩ }).releaseTest) ∧
     (i.mode = .down ∨ i.silence < 2000 → exec (.ingressDown p) s = .next s₀)) ∧
  (∀ (p : Port) (s : State), s.link.relay = .takeover →
     let i := s.link.ingress.get p
     let other := s.link.ingress.get (otherPort p)
     let down := State.setFault (match p with | .mp => .mpDown | .dp => .dpDown)
       { s with
         handed := s.handed.erase (.ingressDown p)
         link := s.link.setIngress p ⟨.down, 0, i.silence⟩ }
     (15 ≤ i.spaces → 16 ≤ other.spaces ∨ other.mode = .down →
       exec (.characterReceived p .space) s = .next
         { s with
           handed := s.handed.erase (.characterReceived p .space)
           link := (s.link.setIngress p ⟨.aligned none, 16, 0⟩).opened }) ∧
     (∀ c, c ≠ .space ∨ i.spaces < 15 ∨ ¬ (16 ≤ other.spaces ∨ other.mode = .down) →
       ∃ mode run, i.Takes c mode run ∧ exec (.characterReceived p c) s = .next (s.hears p c mode run)) ∧
     (i.mode ≠ .down → 2000 ≤ i.silence → 16 ≤ other.spaces ∨ other.mode = .down →
       exec (.ingressDown p) s = .next { down with link := down.link.opened }) ∧
     (i.mode ≠ .down → 2000 ≤ i.silence → ¬ (16 ≤ other.spaces ∨ other.mode = .down) →
       exec (.ingressDown p) s = .next down) ∧
     (i.mode = .down ∨ i.silence < 2000 →
       exec (.ingressDown p) s = .next { s with handed := s.handed.erase (.ingressDown p) }))

/-- R16, R20, R22: what a port's arbiter starts. In RELAY the oldest originate entry is eligible, in RELEASE the oldest
response; the relay queue's head goes first but for the fifth time. An
ARBITER_START commanded when its port can start nothing changes nothing (log 28). -/
def Obligations.ArbiterStarts : Prop :=
  ∀ (p : Port) (s : State),
    let l := s.link
    let e := l.egress.get p
    let q := l.relayQ.get p
    let o := l.origQ.get p
    let s₀ := { s with handed := s.handed.erase (.arbiterStart p) }
    let begins := fun (source : TxSource) (bytes : List Byte) (mark : EndMark) (passOver : Nat) =>
      { s₀ with
        link := { l with
          egress := l.egress.set p
            { e with tx := some ⟨source, bytes, mark, (bytes.length + 2) * 10⟩, passOver := passOver } } }
    let eligible := fun (i : Nat) (x : OrigEntry) =>
      o[i]? = some x ∧ (l.relay = .relay → i = 0) ∧
        (l.relay = .release → x.kind = .response ∧ ∀ j < i, ∀ y, o[j]? = some y → y.kind ≠ .response)
    (l.mayStart → e.tx = none → l.gapInUse ≤ e.gap →
      (∀ h rest, q = h :: rest → (∀ i x, ¬ eligible i x) →
        exec (.arbiterStart p) s = .next (begins .relay h.bytes h.mark e.passOver)) ∧
      (∀ h rest i x, q = h :: rest → eligible i x → e.passOver < 4 →
        exec (.arbiterStart p) s = .next (begins .relay h.bytes h.mark (e.passOver + 1))) ∧
      (∀ h rest i x, q = h :: rest → eligible i x → 4 ≤ e.passOver →
        exec (.arbiterStart p) s = .next (begins (.originate i) x.bytes .endMark 0)) ∧
      (∀ i x, q = [] → eligible i x →
        exec (.arbiterStart p) s = .next (begins (.originate i) x.bytes .endMark 0)) ∧
      (q = [] → (∀ i x, ¬ eligible i x) → exec (.arbiterStart p) s = .next s₀)) ∧
    (¬ l.mayStart ∨ e.tx ≠ none ∨ e.gap < l.gapInUse → exec (.arbiterStart p) s = .next s₀)

/-- R14, R15, R179, R180: the end of a transmission. The entry sent leaves its queue and the gap count starts anew; the
end of an originate entry brings a drain attempt (handed on, log 39), and that of a LOAD report's last copy the removal
of the log's head, unless the other copy was lost. -/
def Obligations.TransmissionCompletes : Prop :=
  ∀ (p : Port) (tx : Transmission) (s : State), (s.link.egress.get p).tx = some tx → tx.left = 0 →
    let o := s.link.origQ.get p
    let freed := s.link.egress.set p { s.link.egress.get p with tx := none, gap := 0, spaceUs := 0 }
    let waiting := s.handed.erase (.transmissionComplete p)
    (tx.source = .relay →
      exec (.transmissionComplete p) s = .next (State.releaseTest
        { s with
          link := { s.link with relayQ := s.link.relayQ.set p (s.link.relayQ.get p).tail, egress := freed }
          handed := waiting })) ∧
    (∀ i x, tx.source = .originate i → o[i]? = some x →
      let link := { s.link with origQ := s.link.origQ.set p (o.eraseIdx i), egress := freed }
      let other := s.rep.drain.get (otherPort p)
      (x.kind ≠ .loadReport →
        exec (.transmissionComplete p) s = .next (State.releaseTest
          { s with link := link, handed := waiting ++ [.loadDrain] })) ∧
      (x.kind = .loadReport → other = .queued →
        exec (.transmissionComplete p) s = .next (State.releaseTest
          { s with
            link := link
            rep := { s.rep with drain := s.rep.drain.set p .completed }
            handed := waiting ++ [.loadDrain] })) ∧
      (x.kind = .loadReport → other ≠ .queued →
        exec (.transmissionComplete p) s = .next (State.releaseTest
          { s with
            link := link
            rep := { s.rep with drain := ⟨.absent, .absent⟩ }
            acc := { s.acc with log := { s.acc.log with
              records := if other = .discarded then s.acc.log.records else s.acc.log.records.tail
              inFlight := false } }
            handed := waiting ++ [.loadDrain, .loadDrain] })))

/-- R21, R22: RELEASE ends in BYPASS once the line has drained (a diverted request that waits counts as its response,
log 11), or, after the limit, once both transmitters are free. The queues are emptied, frames in progress are dropped
(log 38), no record leaves the load log, and a LOAD report flushed is no longer in flight. From the expiry of the limit
no arbiter starts a frame; RELEASE_LIMIT_EXPIRY before its time does nothing (log 7). -/
def Obligations.ReleaseEnds : Prop :=
  (∀ s : State, s.DrainInv →
     let idle := fun i : Ingress => ∀ f, i.mode ≠ .aligned (some f)
     let free := s.link.egress.mp.tx = none ∧ s.link.egress.dp.tx = none
     let drained := s.link.relayQ = ⟨[], []⟩ ∧ (∀ p, idle (s.link.ingress.get p)) ∧ free ∧
       (∀ p, ∀ e ∈ s.link.origQ.get p, e.kind ≠ .response) ∧ (∀ c ∈ s.handed, requestOf c = none)
     (s.link.relay = .release ∧ (drained ∨ s.link.limit = .expired ∧ free) →
       let t := s.releaseTest
       t.link.relay = .bypass ∧ t.link.limit = .stopped ∧ t.link.relayQ = ⟨[], []⟩ ∧ t.link.origQ = ⟨[], []⟩ ∧
       (∀ p, t.link.egress.get p = { s.link.egress.get p with passOver := 0 } ∧ idle (t.link.ingress.get p)) ∧
       t.link.counters = s.link.counters ∧ t.acc.log.records = s.acc.log.records ∧ t.acc.log.inFlight = false ∧
       t.rep.drain = ⟨.absent, .absent⟩ ∧ t.mgt = s.mgt ∧
       t = { s with link := t.link, acc := t.acc, rep := t.rep, handed := t.handed }) ∧
     (¬ (s.link.relay = .release ∧ (drained ∨ s.link.limit = .expired ∧ free)) → s.releaseTest = s)) ∧
  (∀ s : State,
     let s₀ := { s with handed := s.handed.erase .releaseLimitExpiry }
     (s.link.relay = .release → s.link.limit = .running 0 →
       exec .releaseLimitExpiry s = .next (State.releaseTest { s₀ with link := { s.link with limit := .expired } })) ∧
     (s.link.relay ≠ .release ∨ s.link.limit ≠ .running 0 → exec .releaseLimitExpiry s = .next s₀) ∧
     (∀ p, s.link.limit = .expired → exec (.arbiterStart p) s = .next { s with handed := s.handed.erase (.arbiterStart p) }))

/-- R19, R68, R190: BYPASS in RELAY begins RELEASE with its limit of 100 ms and releases the line, which turns both
sample queues off, and a drain attempt is handed on (log 39); in RELEASE it is answered and changes nothing more. The
answer's byte 3 for RELEASE is the model's reading (log 16). -/
def Obligations.BypassBeginsRelease : Prop :=
  ∀ (req : Request) (s : State), s.admits .control req →
    let answered := s.link.answered req .ok [3]
    (s.link.relay = .relay →
      exec (.bypass req) s = .next
        { s with
          link := { answered with relay := .release, limit := .running 100000 }
          acq := { s.acq with
            queues :=
              ⟨{ s.acq.queues.fast with state := .off, position := 0, subStart := 0 },
                { s.acq.queues.slow with state := .off, position := s.acq.boundary, subStart := s.acq.boundary }⟩
            conversion := none
            released := true }
          handed := s.handed.erase (.bypass req) ++ [.loadDrain] }) ∧
    (s.link.relay = .release → exec (.bypass req) s = .next (s.answers (.bypass req) req .ok [3]))

/-- R17, R19, R21, R22, R23: but for a power reset the relay state moves only from TAKEOVER to RELAY, from RELAY to
RELEASE, by BYPASS alone, and from RELEASE to BYPASS; BYPASS holds, and in it nothing is counted, queued or commanded.
-/
def Obligations.RelayStateMoves : Prop :=
  ∀ (c : Instr) (s t : State), s.link.Inv → (∀ straps, c ≠ .powerReset straps) → exec c s = .next t →
    (t.link.relay = s.link.relay ∨ s.link.relay = .takeover ∧ t.link.relay = .relay ∨
      s.link.relay = .relay ∧ t.link.relay = .release ∧ (∃ req, c = .bypass req) ∨
      s.link.relay = .release ∧ t.link.relay = .bypass) ∧
    (s.link.relay = .bypass →
      t.link.counters = s.link.counters ∧ t.link.relayQ = s.link.relayQ ∧ t.link.origQ = s.link.origQ ∧
      t.mgt.config = s.mgt.config ∧ t.link.contactsClosed = true)

/-- R8, R12 to R16, R18: every step keeps what holds of the link unit: the limits of its queues and counts, the entry
being sent in its queue, a side that is cut off holding nothing to relay and sending nothing, and of a frame in
progress its first 66 bytes stored. -/
def Obligations.StepKeepsLinkInv : Prop :=
  ∀ s t : State, s.link.Inv → step s = .next t → t.link.Inv

/-! ### The signal table and the fault flags (02, 10) -/

/-- R41, R44, R97: a slot whose staleness timer has reached its timeout becomes STALE, and nothing else of it changes; in
RUN the engines that read its role are told, the weighing engine first (log 22), and SIGNAL_STALE is set (log 8) for
the four roles that R44 names. A SPEED slot that becomes STALE makes the current acceleration absent (R97), in the same
event (log 47). Before the timeout is reached STALENESS_EXPIRY does nothing (log 7). -/
def Obligations.SlotGoesStale : Prop :=
  ∀ (i : Fin 32) (s : State),
    let v := s.sig.slots[i]
    let s₀ := { s with handed := s.handed.erase (.stalenessExpiry i) }
    let s₁ := { s₀ with
      sig := { s.sig with slots := s.sig.slots.set i { v with fresh := .stale, timer := none } }
      weigh := { s.weigh with accel := if s.sig.slotOf .speed = some i then none else s.weigh.accel } }
    let tells := fun (r : Role) (u : State) => exec (.stalenessExpiry i) s = .next u ∧ s.sig.slotOf r = some i
    (∀ x, v.timer = some x → x.limit * 1000 ≤ x.elapsed →
      (s.mgt.config ≠ .run ∨ (∀ r, s.sig.slotOf r ≠ some i) → exec (.stalenessExpiry i) s = .next s₁) ∧
      (∀ r, s.mgt.config = .run → (∀ r', s.sig.slotOf r' = some i ↔ r' = r) →
        (r = .headP ∨ r = .rodP ∨ r = .boom ∨ r = .tilt →
          tells r ((s₁.setFault .signalStale).hand [.weighStaleNotice r, .candidateEvaluation (.stale r)])) ∧
        (r = .park → tells r (s₁.hand [.candidateEvaluation (.stale r)])) ∧
        (r = .speed ∨ r = .pitch → tells r s₁))) ∧
    ((∀ x, v.timer = some x → x.elapsed < x.limit * 1000) → exec (.stalenessExpiry i) s = .next s₀)

/-- R177, R191: setting a clear flag sets it and asks for a FAULT report with the whole set after the change; setting a
set flag changes nothing; and a flag that is set stays set through every command but CLEAR_FAULTS and a power reset. -/
def Obligations.FaultFlags : Prop :=
  (∀ (f : FaultFlag) (s : State),
     let s₀ := { s with handed := s.handed.erase (.faultSet f) }
     (hasFault s.mgt.faults f = true → exec (.faultSet f) s = .next s₀) ∧
     (hasFault s.mgt.faults f = false → ∃ set : FaultSet,
       exec (.faultSet f) s = .next
         { s₀ with mgt := { s.mgt with faults := set }, handed := s₀.handed ++ [.faultReport set] } ∧
       ∀ g, hasFault set g = true ↔ g = f ∨ hasFault s.mgt.faults g = true)) ∧
  (∀ (c : Instr) (s t : State) (f : FaultFlag), (∀ straps, c ≠ .powerReset straps) → (∀ req, c ≠ .clearFaults req) →
     exec c s = .next t → hasFault s.mgt.faults f = true → hasFault t.mgt.faults f = true)

/-- R39 to R41, R49, R50, R53, R58, R60, R64, R68: every step keeps what holds of the signal slots (values of 32 bits, a
staleness timer running only while a slot is FRESH) and of the acquisition unit: a queue is ACTIVE exactly while the
converter converts the word at its position, never both at once; only the slow queue waits, and only while the fast
queue is ACTIVE; word numbers stay in their queue's range; and no queue is armed while the line is released. -/
def Obligations.StepKeepsAcquisitionInv : Prop :=
  (∀ s t : State, s.sig.Inv → step s = .next t → t.sig.Inv) ∧
  (∀ s t : State, s.acq.Inv → step s = .next t → t.acq.Inv)

/-! ### The acquisition unit (03) -/

/-- R44, R48, R51, R61: a completed conversion writes the result entry of its word and the slot the word names, if any,
and nothing else of the tables; in RUN the slot's notifications are handed on (their order: log 22). A result of
channel 8, 9 or 10 more than 24 counts from 0, 4095 or 2048 sets CONVERTER_CHECK in the same event (log 8), and no
other result does. -/
def Obligations.ConversionWrites : Prop :=
  ∀ (raw : BitVec 12) (c : Conversion) (s : State), s.acq.conversion = some c → c.left = 0 → c.word < 48 →
    let word := s.acq.word c.word
    let fails := (word.channel = some 8 ∧ 24 < raw.toNat) ∨ (word.channel = some 9 ∧ raw.toNat < 4071) ∨
      (word.channel = some 10 ∧ (raw.toNat < 2024 ∨ 2072 < raw.toNat))
    let s₀ := { s with handed := s.handed.erase (.conversionComplete raw) }
    ∃ t u, exec (.conversionComplete raw) s = .next t ∧
      (fails → u = s₀.setFault .converterCheck ∧ hasFault u.mgt.faults .converterCheck = true) ∧ (¬ fails → u = s₀) ∧
      (∀ n, t.acq.results[n]? = if n = c.word then some ⟨raw, s.time.tag, true⟩ else s.acq.results[n]?) ∧
      (∀ i : Fin 32, t.sig.slots[i] =
        if word.dest = some i then writtenSlot s.sig.slots[i] s.sig.config[i] raw.toNat s.time.tag (.word c.word)
        else s.sig.slots[i]) ∧
      (∀ i, s.mgt.config = .run → word.dest = some i → t.handed = u.handed ++ t.sig.tells i) ∧
      (s.mgt.config ≠ .run ∨ word.dest = none → t.handed = u.handed) ∧
      t.sig = { s.sig with slots := t.sig.slots } ∧
      t.acq = { s.acq with results := t.acq.results, queues := t.acq.queues, conversion := t.acq.conversion } ∧
      t = { u with acq := t.acq, sig := t.sig, handed := t.handed }

/-- R50, R60, R62: what a queue does after a completed word. It ends at its final word, pauses after a break word, and
otherwise converts the next; when the fast queue lets the converter go, a waiting slow queue takes it. A queue that ends
keeps its sub-queue start (log 37). -/
def Obligations.QueueContinues : Prop :=
  ∀ (raw : BitVec 12) (c : Conversion) (s : State), s.acq.Inv → s.acq.conversion = some c → c.left = 0 →
    let a := s.acq
    let x := a.queue c.queue
    let next := a.word (c.word + 1)
    let final := (a.word c.word).last = true ∨ c.word = a.highWord c.queue ∨ next.channel = none
    let mode := (a.setup.get c.queue).mode
    let leaves := fun (x' : SampleQueue) (b : Acquisition) =>
      let a' := { a with results := b.results, queues := a.queues.set c.queue x' }
      (c.queue = .fast → a'.Resumed b) ∧ (c.queue = .slow → b = { a' with conversion := none })
    ∃ t, exec (.conversionComplete raw) s = .next t ∧
      (final → mode = .single →
        leaves { x with state := .off, position := a.firstWord c.queue, complete := true } t.acq) ∧
      (final → mode = .continuous →
        leaves { x with state := .idle, position := a.firstWord c.queue, complete := true } t.acq) ∧
      (final → mode = .single ∨ mode = .continuous) ∧
      (¬ final → (a.word c.word).brk = true →
        leaves { x with state := .paused, position := c.word + 1, pause := true } t.acq) ∧
      (¬ final → (a.word c.word).brk = false →
        t.acq = { a with
          results := t.acq.results
          queues := a.queues.set c.queue { x with state := .active, position := c.word + 1 }
          conversion := some ⟨c.queue, c.word + 1, 4 * 2 ^ next.settle + 12⟩ })

/-- R55 to R59, R63, R66: an expiry of TF or TS is a trigger of a queue whose source is TIMER, and nothing to any other;
TRIGGER, taken in CONFIG and RUN, is refused BAD_VALUE for a queue whose source is TIMER and is a trigger of any other;
its answer gives the queue's state after it, its position and its overrun flag. An overrun sets its fault flag in the
same event (log 8). -/
def Obligations.QueueTriggered : Prop :=
  (∀ (q : QueueId) (s : State),
     let s₀ := { s with handed := s.handed.erase (.queueTrigger q) }
     ((s.acq.setup.get q).trigger = .timer → ∃ t, s₀.Triggered q t ∧ exec (.queueTrigger q) s = .next t) ∧
     ((s.acq.setup.get q).trigger = .command → exec (.queueTrigger q) s = .next s₀)) ∧
  (∀ (req : Request) (q : QueueId) (s : State), s.admits .control req → 2 ≤ req.data.length →
     s.mgt.config ≠ .unconfigured → req.data[0]? = some (queueCode q) →
     ((s.acq.setup.get q).trigger = .timer →
       exec (.trigger req) s = .next (s.answers (.trigger req) req .badValue [])) ∧
     ((s.acq.setup.get q).trigger = .command →
       ∃ t, State.Triggered q { s with handed := s.handed.erase (.trigger req) } t ∧
         let x := t.acq.queue q
         let data := enumByte queueStates x.state ++ u8 x.position ++ flagByte x.overrun
         exec (.trigger req) s = .next { t with link := s.link.answered req .ok data }))

/-- R60, R63 to R65: ARM takes a queue that is OFF to IDLE at its first word and leaves an armed one as it is; while the
line is released, and for a mode OFF or a first word UNUSED, it is refused. DISARM takes a queue to OFF, whatever its
state, with its conversion aborted and its flags kept; a waiting slow queue takes the converter that the fast queue
leaves. DISARM of a queue that is OFF is answered OK and changes nothing. ARM, and DISARM of a queue that is OFF, keep
the start of its sub-queue (log 37). -/
def Obligations.ArmAndDisarm : Prop :=
  (∀ (req : Request) (q : QueueId) (s : State), s.admits .control req → 2 ≤ req.data.length →
     s.mgt.config ≠ .unconfigured → req.data[0]? = some (queueCode q) →
     req.data[1]? = some 0 →
     let a := s.acq
     let x := a.queue q
     let unfit := (a.setup.get q).mode = .off ∨ (a.word (a.firstWord q)).channel = none
     (a.released = true → exec (.arm req) s = .next (s.answers (.arm req) req .wrongMode [])) ∧
     (a.released = false → unfit → exec (.arm req) s = .next (s.answers (.arm req) req .badValue [])) ∧
     (a.released = false → ¬ unfit → x.state ≠ .off →
       exec (.arm req) s = .next (s.answers (.arm req) req .ok
         (enumByte queueStates x.state ++ u8 x.position ++ flagByte x.overrun))) ∧
     (a.released = false → ¬ unfit → x.state = .off →
       exec (.arm req) s = .next
         { s.answers (.arm req) req .ok (u8 1 ++ u8 (a.firstWord q) ++ flagByte x.overrun) with
           acq := { a with queues := a.queues.set q { x with state := .idle, position := a.firstWord q } } })) ∧
  (∀ (req : Request) (q : QueueId) (s : State), s.admits .control req → 2 ≤ req.data.length →
     s.mgt.config ≠ .unconfigured → req.data[0]? = some (queueCode q) →
     let a := s.acq
     let x := a.queue q
     let x' := { x with state := .off, position := a.firstWord q, subStart := a.firstWord q }
     let a' := { a with queues := a.queues.set q x' }
     (x.state = .off →
       exec (.disarm req) s = .next
         (s.answers (.disarm req) req .ok (u8 0 ++ u8 x.position ++ flagByte x.overrun))) ∧
     (x.state ≠ .off → ∃ b : Acquisition,
       exec (.disarm req) s = .next
         { s.answers (.disarm req) req .ok (u8 0 ++ u8 (a.firstWord q) ++ flagByte x.overrun) with acq := b } ∧
       (x.state ≠ .active → b = a') ∧
       (x.state = .active → q = .slow → b = { a' with conversion := none }) ∧
       (x.state = .active → q = .fast → a'.Resumed b)))

/-! ### The time base (04) -/

/-- R74 to R77: a due expiry of TF, TS or TR is handed to its consumer, and the timer runs on from its reload; one of
TD or TC is handed to its user with the start it answers (log 25), and the timer stops, its reload kept; an expiry that
is not due does nothing (log 7). A start takes the reload it carries, if any, and counts reload × unit from now, or
leaves the timer stopped for a reload of 0; a stop keeps the reload. -/
def Obligations.TimersRun : Prop :=
  (∀ (i : TimerId) (c req : Instr) (s : State),
     (i, c, req) = (.tf, .tfExpiry, .queueTrigger .fast) ∨ (i, c, req) = (.ts, .tsExpiry, .queueTrigger .slow) ∨
       (i, c, req) = (.tr, .trExpiry, .statusReport) →
     let x := s.time.timer i
     let x' := { x with left := x.reload * 1000, running := x.reload != 0 }
     (x.running = true → x.left = 0 →
       exec c s = .next
         { s with
           time := { s.time with timers := s.time.timers.set i x' }
           handed := s.handed.erase c ++ [req] }) ∧
     (x.running = false ∨ x.left ≠ 0 → exec c s = .next { s with handed := s.handed.erase c })) ∧
  (∀ (i : TimerId) (c req : Instr) (s : State),
     let x := s.time.timer i
     (i, c, req) = (.td, .tdExpiry, .dwellEnd x.start) ∨ (i, c, req) = (.tc, .tcExpiry, .calDeadline x.start) →
     let x' := { x with left := 0, running := false }
     (x.running = true → x.left = 0 →
       exec c s = .next
         { s with
           time := { s.time with timers := s.time.timers.set i x' }
           handed := s.handed.erase c ++ [req] }) ∧
     (x.running = false ∨ x.left ≠ 0 → exec c s = .next { s with handed := s.handed.erase c })) ∧
  (∀ (i : TimerId) (reload : Option Nat) (n : Nat) (s : State),
     let x := s.time.timer i
     let r := reload.getD x.reload
     let started := ⟨r, r * (if i = .tc then 1000000 else 1000), r != 0, n⟩
     exec (.timerStart i reload n) s = .next
       { s with
         time := { s.time with timers := s.time.timers.set i started }
         handed := s.handed.erase (.timerStart i reload n) } ∧
     exec (.timerStop i) s = .next
       { s with
         time := { s.time with timers := s.time.timers.set i { x with left := 0, running := false } }
         handed := s.handed.erase (.timerStop i) })

/-- R80, R84, R85: a due second event. The clock advances by a second through the calendar of R80; past the end of 2099
it starts anew and is invalid; and a valid clock at second 0 of an enabled entry's time marks one shift boundary, handed
on to three blocks (in this order: log 22). R73, R81, R85: no command but a power reset writes the time tag, none but
SECOND_EVENT and a power reset the shift number, and none but those two and SET_CLOCK the shift clock. -/
def Obligations.SecondAdvancesClock : Prop :=
  (∀ (c : Instr) (s t : State), (∀ straps, c ≠ .powerReset straps) → exec c s = .next t →
    t.time.tag = s.time.tag ∧
    (c ≠ .secondEvent → t.time.shiftNumber = s.time.shiftNumber ∧
      ((∀ req, c ≠ .setClock req) → t.time.clock = s.time.clock ∧ t.time.valid = s.time.valid ∧
        t.time.secondLeft = s.time.secondLeft ∧ t.time.lastSecond = s.time.lastSecond))) ∧
  ∀ s : State, s.time.secondLeft = 0 → s.time.clock.badField = none →
    let c := s.time.clock
    let days := if c.month = 2 then (if c.year % 4 = 0 then 29 else 28)
      else if c.month = 4 ∨ c.month = 6 ∨ c.month = 9 ∨ c.month = 11 then 30 else 31
    let n := s.time.shiftNumber
    ∃ t, exec .secondEvent s = .next t ∧
      (c.second < 59 → t.time.clock = { c with second := c.second + 1 }) ∧
      (c.second = 59 →
        (c.minute < 59 → t.time.clock = { c with second := 0, minute := c.minute + 1 }) ∧
        (c.minute = 59 →
          (c.hour < 23 → t.time.clock = { c with second := 0, minute := 0, hour := c.hour + 1 }) ∧
          (c.hour = 23 →
            (c.day < days → t.time.clock = ⟨c.year, c.month, c.day + 1, 0, 0, 0⟩) ∧
            (c.day = days → c.month < 12 → t.time.clock = ⟨c.year, c.month + 1, 1, 0, 0, 0⟩) ∧
            (c.day = days → c.month = 12 → c.year < 2099 → t.time.clock = ⟨c.year + 1, 1, 1, 0, 0, 0⟩) ∧
            (c.day = days → c.month = 12 → c.year = 2099 → t.time.clock = ⟨2000, 1, 1, 0, 0, 0⟩)))) ∧
      (t.time.valid = true ↔ s.time.valid = true ∧ c ≠ ⟨2099, 12, 31, 23, 59, 59⟩) ∧
      (let c' := t.time.clock
       let boundary := t.time.valid = true ∧ c'.second = 0 ∧
         ∃ e ∈ s.time.shiftTable.toList, e.enable = true ∧ e.hour = c'.hour ∧ e.minute = c'.minute
       (boundary → t.time.shiftNumber = n + 1 ∧
         t.handed = s.handed.erase .secondEvent ++
           [.trackerShiftClose n (n + 1), .accountShiftClose n (n + 1), .shiftAssemblyArrival n .boundary]) ∧
       (¬ boundary → t.time.shiftNumber = n ∧ t.handed = s.handed.erase .secondEvent)) ∧
      t.time = { s.time with
        clock := t.time.clock, valid := t.time.valid, secondLeft := 1000000, lastSecond := s.time.tag
        shiftNumber := t.time.shiftNumber } ∧
      t = { s with time := t.time, handed := t.handed }

/-- R81: SET_CLOCK. The first field out of range refuses it, named in the answer by a name that no other field has, and
the clock stands; otherwise the clock is loaded and valid, its second phase restarts, and no shift boundary is marked.
-/
def Obligations.SetClock : Prop :=
  ∃ name : Nat → List Byte, (∀ a b, a < 6 → b < 6 → name a = name b → a = b) ∧
  ∀ (req : Request) (s : State), s.admits .config req → 7 ≤ req.data.length →
    let c : Clock := ⟨natAt req.data 0 2, byteAt req.data 2, byteAt req.data 3, byteAt req.data 4, byteAt req.data 5,
      byteAt req.data 6⟩
    let days := if c.month = 2 then (if c.year % 4 = 0 then 29 else 28)
      else if c.month = 4 ∨ c.month = 6 ∨ c.month = 9 ∨ c.month = 11 then 30 else 31
    let outside : List Bool :=
      [decide (c.year < 2000 ∨ 2099 < c.year), decide (c.month < 1 ∨ 12 < c.month), decide (c.day < 1 ∨ days < c.day),
        decide (23 < c.hour), decide (59 < c.minute), decide (59 < c.second)]
    let data := u16 c.year ++ u8 c.month ++ u8 c.day ++ u8 c.hour ++ u8 c.minute ++ u8 c.second
    (∀ n, outside.findIdx? id = some n →
      exec (.setClock req) s = .next (s.answers (.setClock req) req .badValue (name n))) ∧
    (outside.findIdx? id = none →
      exec (.setClock req) s = .next
        { s.answers (.setClock req) req .ok data with
          time := { s.time with clock := c, valid := true, secondLeft := 1000000, lastSecond := s.time.tag } })

/-! ### Lift weighing (05) -/

/-- R92 to R95, R98, R99, R105: a weigh sample outside a window, and what cuts a window short. In ARMED one at or above
θs opens a window, which takes the calibration and its flag as they stand, and is then a sample of that window; in
SPENT one below θs − h arms the engine. A stale notification outside a window changes nothing. In a window a signal
that is not FRESH, a stale notification of one of the four required roles, or a pressure out of range ends it with a
REJECTED result of that one reason; a sample more than h below the highest angle closes it unpublished. The order in
which a result is handed on is log 22's. -/
def Obligations.WindowOpensAndEnds : Prop :=
  (∀ (theta : Int) (tag : TimeTag) (s : State),
     let p := s.weigh.params
     let s₀ := { s with handed := s.handed.erase (.weighSample theta tag) }
     let opened : WindowRecord :=
       { entryTag := tag, entryAngle := theta, highest := theta, calFlag := s.cal.run == .collecting, cal := s.cal.active
         samples := 0, bins := Vector.replicate 16 ⟨0, 0, 0⟩, tiltMin := none, tiltMax := none, pitchSum := 0
         pitchCount := 0, accelSeen := false, accelMax := 0 }
     (s.weigh.state = .disabled → exec (.weighSample theta tag) s = .next s₀) ∧
     (s.weigh.state = .armed →
       (theta < p.thetaS → exec (.weighSample theta tag) s = .next s₀) ∧
       (p.thetaS ≤ theta → exec (.weighSample theta tag) s =
         exec (.weighSample theta tag) { s with weigh := { s.weigh with state := .window, window := opened } })) ∧
     (s.weigh.state = .spent →
       (theta < p.thetaS - p.hysteresis →
         exec (.weighSample theta tag) s = .next { s₀ with weigh := { s.weigh with state := .armed } }) ∧
       (p.thetaS - p.hysteresis ≤ theta → exec (.weighSample theta tag) s = .next s₀)) ∧
     (∀ role, s.weigh.state ≠ .window →
       exec (.weighStaleNotice role) s = .next { s with handed := s.handed.erase (.weighStaleNotice role) })) ∧
  (∀ (theta : Int) (tag : TimeTag) (role : Role) (s : State), s.weigh.state = .window →
     let s₀ := { s with handed := s.handed.erase (.weighSample theta tag) }
     let s₁ := { s with handed := s.handed.erase (.weighStaleNotice role) }
     let only := fun r => BitVec.twoPow 11 (reasonIndex r);
     (¬ s.signalsFresh →
       exec (.weighSample theta tag) s = .next (s₀.published (s.lostResult (only .signalLost)))) ∧
     (s.signalsFresh → ¬ s.pressuresOk →
       exec (.weighSample theta tag) s = .next (s₀.published (s.lostResult (only .range)))) ∧
     (role = .headP ∨ role = .rodP ∨ role = .boom ∨ role = .tilt →
       exec (.weighStaleNotice role) s = .next (s₁.published (s.lostResult (only .signalLost)))) ∧
     (role = .speed ∨ role = .pitch ∨ role = .park → exec (.weighStaleNotice role) s = .next s₁)) ∧
  (∀ (theta : Int) (tag : TimeTag) (s : State), s.weigh.state = .window → s.signalsFresh → s.pressuresOk →
     theta < s.weigh.window.highest - s.weigh.params.hysteresis →
     exec (.weighSample theta tag) s = .next
       { s with
         weigh := { s.weigh with state := .spent, reversals := satInc 65535 s.weigh.reversals }
         handed := s.handed.erase (.weighSample theta tag) ++ [.reversalNotice] })

/-- R89, R90, R95, R96: a sample accumulated in a window. Its force enters its bin, and its payload if the window's
calibration is valid; the tilt range, the pitch, the acceleration and the highest angle follow. A sample below the
window start enters one of the bins, left free (log 41). The acceleration counts only
while SPEED is FRESH. -/
def Obligations.SampleAccumulated : Prop :=
  ∀ (theta : Int) (tag : TimeTag) (s : State), s.weigh.state = .window → s.signalsFresh → s.pressuresOk →
    let p := s.weigh.params
    let w := s.weigh.window
    w.highest - p.hysteresis ≤ theta → theta < p.thetaE →
    let force := (s.sig.valueOf .headP * p.headArea - s.sig.valueOf .rodP * p.rodArea).tdiv 1000
    let payload := if w.cal.valid = true then p.payload w.cal force theta else 0
    let tilt := s.sig.valueOf .tilt
    let pitch := s.sig.valueOf .pitch
    ∃ (b : Nat) (t : State), b < 16 ∧
      (p.thetaS ≤ theta → 800 ≤ p.thetaE - p.thetaS →
        b = min 15 ((theta - p.thetaS).toNat / ((p.thetaE - p.thetaS).toNat / 16))) ∧
      exec (.weighSample theta tag) s = .next t ∧
      (let v := t.weigh.window
       v.samples = w.samples + 1 ∧
       (∀ i : Fin 16, v.bins[i] = if i.val = b then
          ⟨(w.bins[i]).count + 1, (w.bins[i]).force + force, (w.bins[i]).payload + payload⟩ else w.bins[i]) ∧
       v.tiltMin = some (min (w.tiltMin.getD tilt) tilt) ∧ v.tiltMax = some (max (w.tiltMax.getD tilt) tilt) ∧
       (s.sig.freshOf .pitch = true → v.pitchSum = w.pitchSum + pitch ∧ v.pitchCount = w.pitchCount + 1) ∧
       (s.sig.freshOf .pitch = false → v.pitchSum = w.pitchSum ∧ v.pitchCount = w.pitchCount) ∧
       (∀ a, s.sig.freshOf .speed = true → s.weigh.accel = some a →
         v.accelSeen = true ∧ v.accelMax = max w.accelMax a.natAbs) ∧
       (s.sig.freshOf .speed = false ∨ s.weigh.accel = none → v.accelSeen = w.accelSeen ∧ v.accelMax = w.accelMax) ∧
       v.highest = max w.highest theta ∧
       v.entryTag = w.entryTag ∧ v.entryAngle = w.entryAngle ∧ v.calFlag = w.calFlag ∧ v.cal = w.cal) ∧
      t = { s with
        weigh := { s.weigh with window := t.weigh.window }
        handed := s.handed.erase (.weighSample theta tag) }

/-- R100 to R105: a sample at or above θe evaluates its window and publishes the result: the figures from the bins that
hold a sample, the reasons of R102, and the grade and payload they leave; for a corrected result beyond 32 bits the
payload is a free value of its 32 bits (log 32). The order in which the result is handed on is log 22's. -/
def Obligations.WindowEvaluated : Prop :=
  ∀ (theta : Int) (tag : TimeTag) (s : State), s.weigh.state = .window → s.signalsFresh → s.pressuresOk →
    let p := s.weigh.params
    let w := s.weigh.window
    w.highest - p.hysteresis ≤ theta → p.thetaE ≤ theta →
    let covered := w.sampledBins
    let means := covered.map fun b => roundDiv b.payload b.count
    let d := tagDiff tag w.entryTag
    let pitchMapped := (s.sig.slotOf .pitch).isSome = true
    let speedMapped := (s.sig.slotOf .speed).isSome = true
    ∃ r : LiftResult, ∃ rate : Int,
      exec (.weighSample theta tag) s =
        .next (State.published { s with handed := s.handed.erase (.weighSample theta tag) } r) ∧
      r.sequence = s.weigh.sequence + 1 ∧ r.tag = s.time.tag ∧ r.calFlag = w.calFlag ∧
      r.samples = min 65535 w.samples ∧ r.binsCovered = covered.length ∧
      r.rate = some rate ∧ (d = 0 → rate = 0) ∧
      (d ≠ 0 → rate = min 65535 (((theta - w.entryAngle) * 1000000).tdiv d)) ∧
      r.meanPitch = (if 1 ≤ w.pitchCount then some (roundDiv w.pitchSum w.pitchCount) else none) ∧
      (r.spread.isSome = true ↔ w.cal.valid = true ∧ covered ≠ []) ∧
      (∀ x, r.spread = some x → (∃ hi ∈ means, ∃ lo ∈ means, x = hi - lo) ∧ ∀ a ∈ means, ∀ b ∈ means, a - b ≤ x) ∧
      (hasReason r.reasons .fewSamples = true ↔ w.samples < p.minSamples) ∧
      (hasReason r.reasons .fewBins = true ↔ covered.length < p.minBins) ∧
      (hasReason r.reasons .liftSlow = true ↔
        w.calFlag = false ∧ w.cal.valid = true ∧ rate * 100 < w.cal.rate * (100 - (p.rateBand : Int))) ∧
      (hasReason r.reasons .liftFast = true ↔
        w.calFlag = false ∧ w.cal.valid = true ∧ w.cal.rate * (100 + (p.rateBand : Int)) < rate * 100) ∧
      (hasReason r.reasons .spread = true ↔ ∃ x, r.spread = some x ∧ (p.spreadReject : Int) < x) ∧
      (hasReason r.reasons .tiltMoved = true ↔
        ∃ lo hi, w.tiltMin = some lo ∧ w.tiltMax = some hi ∧ (p.tiltLimit : Int) < hi - lo) ∧
      (hasReason r.reasons .slope = true ↔ pitchMapped ∧ ∀ m, r.meanPitch = some m → p.pitchLimit < m.natAbs) ∧
      (hasReason r.reasons .accel = true ↔ speedMapped ∧ (w.accelSeen = false ∨ p.accelLimit < w.accelMax)) ∧
      (hasReason r.reasons .noCal = true ↔ w.cal.valid = false ∨ s.cal.active.valid = false) ∧
      hasReason r.reasons .signalLost = false ∧ hasReason r.reasons .range = false ∧
      (r.grade = .rejected ↔ r.reasons ≠ 0) ∧
      (r.grade = .marginal ↔ r.reasons = 0 ∧ ∃ x, r.spread = some x ∧ (p.spreadGood : Int) < x) ∧
      (r.grade = .rejected → r.payload = none) ∧
      (r.grade ≠ .rejected → w.cal.valid = true → covered ≠ [] →
        let u := roundDiv means.sum covered.length;
        (¬ pitchMapped ∨ r.meanPitch = none → r.payload = some u) ∧
        (∀ m, pitchMapped → r.meanPitch = some m →
          let x := roundDiv (u * 1000000 + u * p.pitchCoeff * m) 1000000;
          ∃ y, r.payload = some y ∧ inS32 y ∧ (inS32 x → y = x)))

/-- R91: the payload of a sample with a valid calibration, which holds forces of a delta of 1 N or more in every bin.
Between the centres of bins b and b + 1 the empty and the reference force lie on the line between the two bins' forces;
below centre 0 they are bin 0's and at or above centre 15 bin 15's. The raw payload Mref × (F − E) / (R − E) is rounded
to the nearest kg, one half away from zero, the zero offset is added, and the sum is clamped to 32 bits. A sample in a
window uses the window's calibration; where that is not valid its force is accumulated and no payload is formed. -/
def Obligations.SamplePayload : Prop :=
  (∀ (p : WeighRecord) (c : CalRecord), 800 ≤ p.thetaE - p.thetaS → c.valid = true →
     let span := (p.thetaE - p.thetaS).toNat
     let width := span / 16
     let centre := fun b : Nat => if b < 15 then p.thetaS + ((b * width + width / 2 : Nat) : Int)
       else p.thetaS + ((15 * width + (span - 15 * width) / 2 : Nat) : Int)
     let rounds := fun (num den : Int) (theta : Int) (force : Int) => ∃ raw : Int,
       (0 ≤ num → 2 * num - den < 2 * (raw * den) ∧ 2 * (raw * den) ≤ 2 * num + den) ∧
       (num < 0 → 2 * num - den ≤ 2 * (raw * den) ∧ 2 * (raw * den) < 2 * num + den) ∧
       p.payload c force theta = max (-2147483648) (min 2147483647 (raw + c.zeroOffset))
     (∀ b < 16, ∃ e r, c.bins b e r ∧ 1 ≤ c.minDelta ∧ (c.minDelta : Int) ≤ r - e) ∧
     (∀ (b : Nat) (e r e' r' force theta : Int), b < 15 → c.bins b e r → c.bins (b + 1) e' r' →
       centre b ≤ theta → theta < centre (b + 1) →
       let d := centre (b + 1) - centre b
       let x := theta - centre b
       let empty := e * d + (e' - e) * x
       let reference := r * d + (r' - r) * x
       0 < d ∧ 0 < reference - empty ∧ rounds (c.mref * (force * d - empty)) (reference - empty) theta force) ∧
     (∀ (e r force theta : Int), c.bins 0 e r → theta < centre 0 →
       0 < r - e ∧ rounds (c.mref * (force - e)) (r - e) theta force) ∧
     (∀ (e r force theta : Int), c.bins 15 e r → centre 15 ≤ theta →
       0 < r - e ∧ rounds (c.mref * (force - e)) (r - e) theta force) ∧
     (∀ (b : Nat) (e r : Int), b < 16 → c.bins b e r → -30000 ≤ c.zeroOffset → c.zeroOffset ≤ 30000 →
       p.payload c e (centre b) = c.zeroOffset ∧ p.payload c r (centre b) = c.mref + c.zeroOffset)) ∧
  (∀ (theta : Int) (tag : TimeTag) (s : State), s.weigh.state = .window → s.signalsFresh → s.pressuresOk →
     let p := s.weigh.params
     let w := s.weigh.window
     w.highest - p.hysteresis ≤ theta → theta < p.thetaE →
     let force := p.force (s.sig.valueOf .headP) (s.sig.valueOf .rodP)
     ∃ (b : Fin 16) (t : State), exec (.weighSample theta tag) s = .next t ∧
       (∀ i, i ≠ b → t.weigh.window.bins[i] = w.bins[i]) ∧
       (w.cal.valid = true → t.weigh.window.bins[b] =
         ⟨(w.bins[b]).count + 1, (w.bins[b]).force + force, (w.bins[b]).payload + p.payload w.cal force theta⟩) ∧
       (w.cal.valid = false → t.weigh.window.bins[b] =
         ⟨(w.bins[b]).count + 1, (w.bins[b]).force + force, (w.bins[b]).payload⟩))

/-- R97: a speed sample. The acceleration is formed from two writes at most a second apart, kept over two of one time
tag, and absent otherwise; the write becomes the memory. -/
def Obligations.SpeedSample : Prop :=
  ∀ (v : Int) (tag : TimeTag) (s : State),
    let s₀ := { s with handed := s.handed.erase (.speedSample v tag) }
    (s.weigh.state = .disabled → exec (.speedSample v tag) s = .next s₀) ∧
    (s.weigh.state ≠ .disabled → ∃ a : Option Int,
      exec (.speedSample v tag) s = .next { s₀ with weigh := { s.weigh with speed := some ⟨v, tag⟩, accel := a } } ∧
      (s.weigh.speed = none → a = none) ∧
      (∀ m, s.weigh.speed = some m →
        let d := (tag - m.tag).toNat
        (d = 0 → a = s.weigh.accel) ∧ (1 ≤ d → d ≤ 1000000 → a = some (((v - m.speed) * 1000000).tdiv d)) ∧
        (1000000 < d → a = none)))

/-! ### Calibration runs (06) -/

/-- R113, R114: CAL_START (the data it needs: log 14), by its four checks in order, and what an accepted one starts;
and a ZERO key taken in RUN (log 23) with no run on and a valid active record starts a key-started ZERO run, any other
being ignored. The start request to TC carries its number (log 25). -/
def Obligations.RunStarts : Prop :=
  (∀ (req : Request) (s : State), s.admits .config req → calStartNeed req ≤ req.data.length →
     let kind := byteAt req.data 0
     let n := byteAt req.data 1
     let mref := natAt req.data 2 2
     let fits := (kind = 0 ∧ 3 ≤ n ∧ n ≤ 8) ∨ (kind = 1 ∧ 3 ≤ n ∧ n ≤ 8 ∧ 500 ≤ mref ∧ mref ≤ 30000) ∨ (kind = 2 ∧ n = 1)
     let refused := fun status => exec (.calStart req) s = .next (s.answers (.calStart req) req status [])
     let accepted := fun k m =>
       let c := s.cal.started k false n m
       exec (.calStart req) s = .next
         { s.answers (.calStart req) req .ok (u8 kind ++ u8 n) with
           cal := c
           handed := s.handed.erase (.calStart req) ++
             [.timerStart .tc (some s.cal.deadline) (s.cal.starts + 1), .calReport c.reported] }
     (s.mgt.config ≠ .run → refused .wrongMode) ∧
     (s.mgt.config = .run → ¬ fits → refused .badValue) ∧
     (s.mgt.config = .run → fits → s.cal.run ≠ .off → refused .busy) ∧
     (s.mgt.config = .run → fits → s.cal.run = .off → kind = 2 → s.cal.active.valid = false → refused .noCal) ∧
     (s.mgt.config = .run → fits → s.cal.run = .off →
       (kind = 0 → accepted .empty 0) ∧ (kind = 1 → accepted .reference mref) ∧
       (kind = 2 → s.cal.active.valid = true → accepted .zero 0))) ∧
  (∀ s : State,
     let c := s.cal.started .zero true 1 0
     let starts := s.mgt.config = .run ∧ s.cal.run = .off ∧ s.cal.active.valid = true
     (starts → exec .zero s = .next
       { s with
         cal := c
         handed := s.handed.erase .zero ++
           [.timerStart .tc (some s.cal.deadline) (s.cal.starts + 1), .calReport c.reported] }) ∧
     (¬ starts → exec .zero s = .next { s with handed := s.handed.erase .zero }))

/-- R115: a flagged result (one with LIFT_SLOW or LIFT_FAST, which no flagged window gives, is judged by its other
reasons: log 29). Outside COLLECTING it is discarded; a refused one is counted; an accepted one that is not the run's
last is counted and, for EMPTY and REFERENCE, enters the sums. -/
def Obligations.CalLiftTaken : Prop :=
  ∀ (r : LiftResult) (forces : BinForces) (s : State),
    let c := s.cal
    let k := c.record
    let s₀ := { s with handed := s.handed.erase (.calLift r forces) }
    (c.run ≠ .collecting → exec (.calLift r forces) s = .next s₀) ∧
    (c.run = .collecting → c.refuses r →
      exec (.calLift r forces) s = .next
        { s₀ with cal := { c with record := { k with refused := satInc 255 k.refused } } }) ∧
    (c.run = .collecting → ¬ c.refuses r → k.accepted + 1 ≠ k.lifts → ∃ k' : RunRecord,
      exec (.calLift r forces) s = .next { s₀ with cal := { c with record := k' } } ∧ k.Gathers r forces k')

/-- R115 to R118: the last accepted lift of a run joins its record, as every accepted lift does, and writes the run's
figures into the candidate and stops TC; a commanded run waits in REVIEW, and a key-started one decides itself by the
zero limit. The start is no longer open (log 25), and what refuses a lift is log 29's reading. -/
def Obligations.CollectionEnds : Prop :=
  ∀ (r : LiftResult) (forces : BinForces) (s : State), s.cal.run = .collecting → ¬ s.cal.refuses r →
    s.cal.record.accepted + 1 = s.cal.record.lifts →
    let c := s.cal
    ∃ (k : RunRecord) (x : CalRecord) (d : Calibration),
      exec (.calLift r forces) s = .next
        { s with
          cal := d
          handed := s.handed.erase (.calLift r forces) ++ [.timerStop .tc, .calReport d.reported] } ∧
      c.record.Gathers r forces k ∧
      (c.record.kind = .empty → k.Learns x.empty ∧ x.rate = (roundDiv k.rateSum k.lifts).toNat ∧
        x = { c.candidate with empty := x.empty, rate := x.rate }) ∧
      (c.record.kind = .reference → k.Learns x.reference ∧
        x = { c.candidate with reference := x.reference, mref := c.record.mref }) ∧
      (∀ p, c.record.kind = .zero → r.payload = some p →
        x = { c.candidate with zeroOffset := c.candidate.zeroOffset - p }) ∧
      (let ended := { c with record := k, candidate := x, startOpen := false }
       (c.record.keyStarted = false → d = ended.changed .review .collected) ∧
       (c.record.keyStarted = true → x.zeroOffset.natAbs ≤ s.weigh.params.zeroLimit →
         d = { ended with active := x }.changed .off .accepted) ∧
       (c.record.keyStarted = true → s.weigh.params.zeroLimit < x.zeroOffset.natAbs →
         d = ended.changed .off .discarded))

/-- R119, R120, R122: CAL_ACCEPT makes a valid candidate in REVIEW active, and CAL_DISCARD ends a run that is on; in any
other case they are refused and change nothing. An expiry of TC that answers the last start (log 25), with no stop sent
since, ends a run that is COLLECTING and sets CAL_TIMEOUT (log 8); any other expiry leaves the run as it is. -/
def Obligations.RunEnds : Prop :=
  (∀ (req : Request) (s : State), s.admits .config req →
     let ends := fun (cmd : Instr) (stop : List Instr) (c : Calibration) =>
       exec cmd s = .next
         { s.answers cmd req .ok [] with cal := c, handed := s.handed.erase cmd ++ stop ++ [.calReport c.reported] }
     let c := s.cal
     (c.run = .review → c.candidate.valid = true →
       ends (.calAccept req) [] ({ c with active := c.candidate }.changed .off .accepted)) ∧
     (c.run = .review → c.candidate.valid = false →
       exec (.calAccept req) s = .next (s.answers (.calAccept req) req .calInvalid [])) ∧
     (c.run ≠ .review → exec (.calAccept req) s = .next (s.answers (.calAccept req) req .wrongMode [])) ∧
     (c.run = .review → ends (.calDiscard req) [] (c.changed .off .discarded)) ∧
     (c.run = .collecting →
       ends (.calDiscard req) [.timerStop .tc] ({ c with startOpen := false }.changed .off .discarded)) ∧
     (c.run = .off → exec (.calDiscard req) s = .next (s.answers (.calDiscard req) req .wrongMode []))) ∧
  (∀ (n : Nat) (s : State),
     let c := s.cal
     let s₀ := { s with handed := s.handed.erase (.calDeadline n) }
     let d := { c with startOpen := false }.changed .off .timeout
     (c.startOpen = true → n = c.starts → c.run = .collecting →
       exec (.calDeadline n) s = .next
         (State.hand [.calReport d.reported] { (s₀.setFault .calTimeout) with cal := d })) ∧
     (c.startOpen = true → n = c.starts → c.run ≠ .collecting →
       exec (.calDeadline n) s = .next { s₀ with cal := { c with startOpen := false } }) ∧
     (c.startOpen = false ∨ n ≠ c.starts → exec (.calDeadline n) s = .next s₀))

/-- R103, R115, R119, R124: but for the resets and CONFIG, the active record changes only by an acceptance: CAL_ACCEPT,
or the lift that ends a key-started run; a change of the run state hands on a CAL report of the new state; and a lift
result that any command publishes with a payload, or with a grade other than REJECTED, is published with the active
calibration valid. -/
def Obligations.CalibrationChanges : Prop :=
  ∀ (c : Instr) (s t : State), (∀ straps, c ≠ .powerReset straps) → exec c s = .next t →
    (t.cal.active ≠ s.cal.active →
      (∃ req, c = .calAccept req) ∨ (∃ r f, c = .calLift r f ∧ s.cal.record.keyStarted = true) ∨
      (∃ req, c = .softReset req) ∨ (∃ req, c = .writeEntry req ∧ s.mgt.config = .config)) ∧
    (t.cal.run ≠ s.cal.run → ∃ r, .calReport r ∈ t.handed ∧ r.run = t.cal.run) ∧
    (∀ r, t.weigh.last = some r → s.weigh.last ≠ some r → r.payload.isSome = true ∨ r.grade ≠ .rejected →
      s.cal.active.valid = true ∧ s.weigh.state ≠ .disabled)

/-! ### Work-cycle tracking (07) -/

/-- R128, R130: the candidate phase, step by step. -/
def Obligations.CandidatePhase : Prop :=
  ∀ s : State,
    let p := s.trk.params
    let theta := s.sig.valueOf .boom
    let low := theta < p.thetaDig
    let high := ¬ low ∧ p.thetaCarry ≤ theta
    let mid := ¬ low ∧ theta < p.thetaCarry
    let dumping := s.sig.valueOf .tilt < p.tauDump
    let digging := s.sig.freshOf .headP = true ∧ (p.pDig : Int) ≤ s.sig.valueOf .headP
    let parked := s.sig.freshOf .park = true ∧ s.sig.valueOf .park = 1
    let seen := s.sig.freshOf .boom = true ∧ s.sig.freshOf .tilt = true
    (parked → s.candidate = .parked) ∧
    (¬ parked → s.trk.phase = .parked → s.candidate = .unknown) ∧
    (¬ parked → s.trk.phase ≠ .parked → ¬ seen → s.candidate = .unknown) ∧
    (¬ parked → seen →
      (s.trk.phase = .unknown →
        (high → dumping → s.candidate = .dump) ∧ (high → ¬ dumping → s.candidate = .carry) ∧
        (mid → s.candidate = .lift) ∧ (low → digging → s.candidate = .dig) ∧
        (low → ¬ digging → s.candidate = .unknown)) ∧
      (s.trk.phase = .dig → (mid ∨ high → s.candidate = .lift) ∧ (low → s.candidate = .dig)) ∧
      (s.trk.phase = .lift →
        (high → ¬ dumping → s.candidate = .carry) ∧ (high → dumping → s.candidate = .dump) ∧
        (low → s.candidate = .dig) ∧ (mid → s.candidate = .lift)) ∧
      (s.trk.phase = .carry →
        (high → dumping → s.candidate = .dump) ∧ (low → s.candidate = .dig) ∧
        (mid ∨ high ∧ ¬ dumping → s.candidate = .carry)) ∧
      (s.trk.phase = .dump →
        (¬ dumping ∨ low → s.candidate = .ret) ∧ (dumping → ¬ low → s.candidate = .dump)) ∧
      (s.trk.phase = .ret →
        (low → digging → s.candidate = .dig) ∧ (¬ low ∨ ¬ digging → s.candidate = .ret)))

/-- R129, R131 to R134: a notification that makes the tracker evaluate, in RUN (log 23). Its candidate stops TD, starts
it (by number, log 25), leaves it or is taken at once; any other notification leaves all but the age test, and an
expiry of TD that is ignored makes none (log 51); and whatever follows, an evaluation and a taken expiry of TD end with
the candidate acted on. -/
def Obligations.CandidateActedOn : Prop :=
  ∀ (n : Notice) (k : Nat) (s u : State),
    let cmd := Instr.candidateEvaluation n
    let s₀ := { s with handed := s.handed.erase cmd }
    let told := match n with
      | .written r _ _ => r = .boom ∨ r = .tilt ∨ r = .headP ∨ r = .park
      | .stale r => r = .boom ∨ r = .tilt ∨ r = .headP ∨ r = .park
    let q := u.candidate
    (s.mgt.config ≠ .run → exec cmd s = .next s₀) ∧
    (s.mgt.config = .run → s₀.Aged u →
      (¬ told → exec cmd s = .next u) ∧
      (told → q = u.trk.phase → exec cmd s = .next
        { u with
          trk := { u.trk with startOpen := false, candidate := none }
          handed := u.handed ++ u.trk.stops }) ∧
      (told → q ≠ u.trk.phase → q ≠ .unknown → u.trk.params.dwell q ≠ 0 →
        (u.trk.candidate = some q → exec cmd s = .next u) ∧
        (u.trk.candidate ≠ some q → exec cmd s = .next
          { u with
            trk := { u.trk with starts := u.trk.starts + 1, startOpen := true, candidate := some q }
            handed := u.handed ++ [.timerStart .td (some (u.trk.params.dwell q)) (u.trk.starts + 1)] })) ∧
      (told → q ≠ u.trk.phase → q = .unknown ∨ u.trk.params.dwell q = 0 →
        exec cmd s = .next ((u.transition q).settle 3)) ∧
      (told → (u.trk.startOpen = u.trk.candidate.isSome) → ∃ t, exec cmd s = .next t ∧ t.settled)) ∧
    (let s₁ := { s with handed := s.handed.erase (.dwellEnd k) }
     (s.trk.startOpen = false ∨ k ≠ s.trk.starts → exec (.dwellEnd k) s = .next s₁) ∧
     (∀ q', s.trk.startOpen = true → k = s.trk.starts → s.trk.candidate = some q' → s₁.Aged u →
       let v := { u with trk := { u.trk with startOpen := false } }
       exec (.dwellEnd k) s = .next ((v.transition q').settle 4) ∧ ((v.transition q').settle 4).settled))

/-- R133, R135 to R138, R140: what a transition from one phase to another does, before the candidate is evaluated
again: TD, stopped if its start is open (log 25), and the remembered candidate, the cycle start and the cycle it
completes, the pending lift, the credit of a dump and the notices, in their order
(log 22 where they go to different blocks). -/
def Obligations.TransitionActions : Prop :=
  ∀ (q : Phase) (s : State),
    let k := s.trk
    let t := s.transition q
    let f := k.figures
    let calm := s.cal.run ≠ .collecting
    let notice : List Instr := if k.pending = none then [] else [.pendingLiftNotice]
    let weighed := fun r : LiftResult => Instr.bucketCredit
      (match r.grade with
        | .good => ⟨some r.sequence, r.payload.getD 0, .good, s.time.tag⟩
        | .marginal => ⟨some r.sequence, r.payload.getD 0, .marginal, s.time.tag⟩
        | .rejected => ⟨none, 0, .unweighed, s.time.tag⟩)
    let credit : List Instr := match k.pending with
      | some r => [weighed r]
      | none => if k.phase = .lift ∨ k.phase = .carry then [.bucketCredit ⟨none, 0, .unweighed, s.time.tag⟩] else []
    let begun := t.trk.cycleStart = some s.time.tag ∧ t.trk.dumped = false
    t.trk.phase = q ∧ t.trk.candidate = none ∧ t.trk.startOpen = false ∧ t.trk.params = k.params ∧
    t.trk.starts = k.starts ∧ t = { s with trk := t.trk, handed := t.handed } ∧
    (q = .dig → k.phase = .ret →
      begun ∧ t.trk.pending = k.pending ∧ t.handed = s.handed ++ k.stops ∧
      (∀ start, k.cycleStart = some start → k.dumped = true → calm →
        let ms := (s.time.tag - start).toNat / 1000
        t.trk.figures.cycles = satInc 65535 f.cycles ∧
        (f.timeSum + ms ≤ 4294967295 →
          t.trk.figures.timeSum = f.timeSum + ms ∧ t.trk.figures.timeCount = satInc 65535 f.timeCount) ∧
        (4294967295 < f.timeSum + ms →
          t.trk.figures.timeSum = f.timeSum ∧ t.trk.figures.timeCount = f.timeCount) ∧
        t.trk.figures.returned = f.returned ∧ t.trk.figures.strays = f.strays ∧
        t.trk.figures.reversals = f.reversals) ∧
      (k.cycleStart = none ∨ k.dumped = false ∨ ¬ calm → t.trk.figures = f)) ∧
    (q = .dig → k.phase = .lift ∨ k.phase = .carry →
      begun ∧ t.trk.pending = none ∧ t.handed = s.handed ++ k.stops ++ notice ∧
      (calm → t.trk.figures = { f with returned := satInc 65535 f.returned }) ∧ (¬ calm → t.trk.figures = f)) ∧
    (q = .dig → k.phase = .unknown →
      begun ∧ t.trk.pending = k.pending ∧ t.handed = s.handed ++ k.stops ∧ t.trk.figures = f) ∧
    (q = .dump →
      t.trk.pending = none ∧ t.trk.cycleStart = k.cycleStart ∧ t.trk.figures = f ∧
      (calm → t.trk.dumped = true ∧ t.handed = s.handed ++ k.stops ++ credit ++ notice) ∧
      (¬ calm → t.trk.dumped = k.dumped ∧ t.handed = s.handed ++ k.stops ++ notice)) ∧
    (q = .parked →
      t.trk.cycleStart = none ∧ t.trk.dumped = false ∧ t.trk.pending = k.pending ∧ t.trk.figures = f ∧
      t.handed = s.handed ++ k.stops) ∧
    (q = .unknown ∨ q = .lift ∨ q = .carry ∨ q = .ret →
      t.trk.cycleStart = k.cycleStart ∧ t.trk.dumped = k.dumped ∧ t.trk.pending = k.pending ∧ t.trk.figures = f ∧
      t.handed = s.handed ++ k.stops)

/-- R134, R139 to R142: a lift result becomes the pending lift in UNKNOWN, DIG, LIFT and CARRY, with a notice, and is a
stray in any other phase; a reversal is counted; a shift boundary hands on the six counters and zeroes them. Results and
reversals are taken in RUN (log 23); each event makes the age test first. -/
def Obligations.TrackerEventsTaken : Prop :=
  ∀ (r : LiftResult) (closing new : Word16) (s u : State),
    let after := fun c : Instr => { s with handed := s.handed.erase c }
    let k := u.trk
    ((after (.pendingLift r)).Aged u →
      (s.mgt.config = .run → k.phase = .unknown ∨ k.phase = .dig ∨ k.phase = .lift ∨ k.phase = .carry →
        exec (.pendingLift r) s = .next
          { u with trk := { k with pending := some r }, handed := u.handed ++ [.pendingLiftNotice] }) ∧
      (s.mgt.config = .run → k.phase = .dump ∨ k.phase = .ret ∨ k.phase = .parked →
        exec (.pendingLift r) s = .next
          { u with trk := { k with figures := { k.figures with strays := satInc 65535 k.figures.strays } } }) ∧
      (s.mgt.config ≠ .run → exec (.pendingLift r) s = .next (after (.pendingLift r)))) ∧
    ((after .reversalNotice).Aged u →
      (s.mgt.config = .run → exec .reversalNotice s = .next
        { u with trk := { k with figures := { k.figures with reversals := satInc 65535 k.figures.reversals } } }) ∧
      (s.mgt.config ≠ .run → exec .reversalNotice s = .next (after .reversalNotice))) ∧
    ((after (.trackerShiftClose closing new)).Aged u →
      exec (.trackerShiftClose closing new) s = .next
        { u with
          trk := { k with figures := ⟨0, 0, 0, 0, 0, 0⟩ }
          handed := u.handed ++ [.shiftAssemblyArrival closing (.tracker k.figures)] })

/-! ### Load accounting (08) -/

/-- R147, R148, R150 to R152: a bucket credit. With no slot to take it, or 65535 buckets in the current one, it is
unallocated; otherwise it joins the current target, or the lowest free slot, which it opens, and a list of twelve folds
its oldest entry first. Overload-ahead is evaluated with the credited lift still pending, where the tracker holds no
other (log 42). A pending-lift notice evaluates overload-ahead afresh, and nothing more. The fields of a report on no
slot (log 20), the figures of each report (log 21) the fault flag's event (log 8) and a credit taken outside RUN (log
23) are the model's reading. -/
def Obligations.BucketCredited : Prop :=
  (∀ s : State, ∃ t, exec .pendingLiftNotice s = .next t ∧ t.aheadFresh ∧
    t = { s with
      acc := { s.acc with overloadAhead := t.acc.overloadAhead }
      handed := s.handed.erase .pendingLiftNotice }) ∧
  ∀ (c : Credit) (s : State),
    let a := s.acc
    let s₀ := { s with handed := s.handed.erase (.bucketCredit c) }
    let now := s.time.clockValue
    let one := fun g : BucketGrade => if c.grade = g then 1 else 0
    let e : BucketEntry :=
      { sequence := if c.grade = .unweighed then none else c.sequence
        payload := if c.grade = .unweighed then 0 else c.payload
        grade := c.grade, tag := c.tag, shift := a.shift }
    let taken := (a.pointer = none ∧ ∀ i, (a.slot i).state ≠ .free) ∨
      ∃ i, a.pointer = some i ∧ 65535 ≤ (a.slot i).buckets
    (taken → exec (.bucketCredit c) s = .next (State.hand
      [.bucketReport ⟨none, e, a.totals.unallocated + e.payload, 0, .free, false⟩]
      (State.setFault .unallocated
        { s₀ with acc := { a with
          totals := { a.totals with unallocated := a.totals.unallocated + e.payload }
          unallocatedCredits := satInc 65535 a.unallocatedCredits } }))) ∧
    (∀ i, (a.pointer = some i ∧ (a.slot i).buckets < 65535) ∨
        (a.pointer = none ∧ lowestSlot (fun j => (a.slot j).state = .free) i) →
      let b := if a.pointer = none then { TargetSlot.free with state := .opened, opened := now } else a.slot i
      ∃ t, exec (.bucketCredit c) s = .next t ∧
        (let v := t.acc.slot i
         v.accumulated = b.accumulated + e.payload ∧ v.buckets = b.buckets + 1 ∧
         v.unweighed = b.unweighed + one .unweighed ∧ v.marginal = b.marginal + one .marginal ∧
         (b.list.length < 12 →
           v.list = b.list ++ [e] ∧ v.folded = b.folded ∧ v.foldedPayload = b.foldedPayload) ∧
         (∀ oldest rest, b.list = oldest :: rest → 12 ≤ b.list.length →
           v.list = rest ++ [e] ∧ v.folded = b.folded + 1 ∧ v.foldedPayload = b.foldedPayload + oldest.payload) ∧
         v.lastBucket = now ∧ v.firstBucket = (if b.buckets = 0 then now else b.firstBucket) ∧
         v.id = b.id ∧ v.capacity = b.capacity ∧ v.opened = b.opened ∧ v.Evaluated a.params ∧
         t.handed = s₀.handed ++ (if a.pointer = none then [t.acc.report .opened i] else []) ++
           [.bucketReport ⟨some i, e, v.accumulated, v.buckets, v.state, v.overloaded⟩] ++
           (if v.state = b.state then [] else [t.acc.report .state i])) ∧
        (∀ j, j ≠ i → t.acc.slot j = a.slot j) ∧ t.acc.pointer = some i ∧
        (s.trk.pending ≠ none ∨ c.grade = .unweighed → t.aheadFresh) ∧
        (s.trk.pending = none → c.grade ≠ .unweighed →
          let v := t.acc.slot i
          (t.acc.overloadAhead = true ↔ v.capacity ≠ 0 ∧
            (v.capacity * (100 + a.params.tolerance) : Int) < (v.accumulated + c.payload) * 100)) ∧
        t.acc.totals = { a.totals with
          weighed := a.totals.weighed + e.payload
          buckets := satInc 4294967295 a.totals.buckets
          unweighed := min 4294967295 (a.totals.unweighed + one .unweighed) } ∧
        t = { s with
          acc := { a with
            slots := t.acc.slots, pointer := t.acc.pointer, overloadAhead := t.acc.overloadAhead, totals := t.acc.totals }
          handed := t.handed })

/-- R34, R154, R156: the keys and the dispatch arrival that select or open a target. An arrival for a held id selects
its slot and may change its capacity; one for any other id, and NEW_TARGET, opens the lowest free slot, or is refused.
The figures of each report are those after the request (log 21); a refusal sets its fault flag at once (log 8); outside
RUN a request still waiting is carried out as in RUN (log 23). -/
def Obligations.TargetsOpened : Prop :=
  ∀ s : State,
    let a := s.acc
    let after := fun c : Instr => { s with handed := s.handed.erase c }
    let held := fun j => (a.slot j).state ≠ .free
    let free := fun j => (a.slot j).state = .free
    let refused := fun c : Instr =>
      exec c s = .next (State.setFault .targetsFull
        { after c with acc := { a with openRefusals := satInc 65535 a.openRefusals } });
    (∀ i, (held i → ∃ t, (after (.selectKey i)).Selects i t ∧ exec (.selectKey i) s = .next t) ∧
      (free i → exec (.selectKey i) s = .next (after (.selectKey i)))) ∧
    (∀ p d, a.pointer = some p → 1 ≤ d → d ≤ 3 → held (p + Fin.ofNat 4 d) →
      (∀ k, 1 ≤ k → k < d → free (p + Fin.ofNat 4 k)) →
      ∃ t, (after .nextTarget).Selects (p + Fin.ofNat 4 d) t ∧ exec .nextTarget s = .next t) ∧
    (∀ i, a.pointer = none → lowestSlot held i →
      ∃ t, (after .nextTarget).Selects i t ∧ exec .nextTarget s = .next t) ∧
    ((∀ j, a.pointer ≠ some j → free j) → exec .nextTarget s = .next (after .nextTarget)) ∧
    (∀ i, lowestSlot free i → ∃ t, (after .newTarget).Opens i 0 0 true t ∧ exec .newTarget s = .next t) ∧
    ((∀ j, held j) → refused .newTarget) ∧
    (∀ id capacity,
      let cmd := Instr.dispatchArrival id capacity
      let holds := fun j => held j ∧ (a.slot j).id = id;
      (∀ i, (∀ j, ¬ holds j) → lowestSlot free i →
        ∃ t, (after cmd).Opens i id capacity true t ∧ exec cmd s = .next t) ∧
      ((∀ j, ¬ holds j) → (∀ j, held j) → refused cmd) ∧
      (∀ i, lowestSlot holds i →
        let v := a.slot i
        let changes := capacity ≠ 0 ∧ capacity ≠ v.capacity
        ∃ t, exec cmd s = .next t ∧ t.acc.pointer = some i ∧ t.aheadFresh ∧
          (∀ j, j ≠ i → t.acc.slot j = a.slot j) ∧
          (¬ changes → t.acc.slot i = v) ∧
          (changes →
            let w := t.acc.slot i
            w = { v with capacity := capacity, state := w.state, overloaded := w.overloaded } ∧ w.Evaluated a.params) ∧
          t.handed = (after cmd).handed ++ (if a.pointer = some i then [] else [t.acc.report .selected i]) ++
            (if changes then [t.acc.report .capacity i] else []) ++ a.stateReport t.acc i ∧
          t = { s with
            acc := { a with slots := t.acc.slots, pointer := some i, overloadAhead := t.acc.overloadAhead }
            handed := t.handed }))

/-- R155: TARGET_OPEN, by its checks in order (a select flag that is no flag is refused with the capacity, log 34), and
TARGET_SELECT, which evaluates overload-ahead afresh whether or not the pointer moves. The figures of
each report are those after the request (log 21). -/
def Obligations.TargetCommands : Prop :=
  (∀ (req : Request) (s : State), s.admits .operate req → 7 ≤ req.data.length →
     let a := s.acc
     let id := natAt req.data 0 2
     let capacity := natAt req.data 2 4
     let flag := byteAt req.data 6
     let unfit := 1 < flag ∨ ¬ (capacity = 0 ∨ 1000 ≤ capacity ∧ capacity ≤ 250000)
     let twice := id ≠ 0 ∧ ∃ j, (a.slot j).state ≠ .free ∧ (a.slot j).id = id
     let s₀ := { s with handed := s.handed.erase (.targetOpen req) }
     let refused := fun status => exec (.targetOpen req) s = .next (s.answers (.targetOpen req) req status [])
     (s.mgt.config ≠ .run → refused .wrongMode) ∧
     (s.mgt.config = .run → unfit → refused .badValue) ∧
     (s.mgt.config = .run → ¬ unfit → twice → refused .duplicate) ∧
     (s.mgt.config = .run → ¬ unfit → ¬ twice → (∀ j, (a.slot j).state ≠ .free) → refused .noSlot) ∧
     (∀ i, s.mgt.config = .run → ¬ unfit → ¬ twice → lowestSlot (fun j => (a.slot j).state = .free) i →
       ∃ t, s₀.Opens i id capacity (flag == 1) t ∧
         exec (.targetOpen req) s = .next { t with link := s.link.answered req .ok (u8 i) })) ∧
  (∀ (req : Request) (s : State), s.admits .operate req → 1 ≤ req.data.length →
     let a := s.acc
     let n := byteAt req.data 0
     let s₀ := { s with handed := s.handed.erase (.targetSelect req) }
     let refused := fun status => exec (.targetSelect req) s = .next (s.answers (.targetSelect req) req status [])
     (s.mgt.config ≠ .run → refused .wrongMode) ∧
     (s.mgt.config = .run → (∀ i : Fin 4, i.val = n → (a.slot i).state = .free) → refused .badIndex) ∧
     (∀ i : Fin 4, s.mgt.config = .run → i.val = n → (a.slot i).state ≠ .free →
       ∃ t : State, exec (.targetSelect req) s = .next { t with link := s.link.answered req .ok [] } ∧ t.aheadFresh ∧
         t = { s with
           acc := { a with pointer := some i, overloadAhead := t.acc.overloadAhead }
           handed := s₀.handed ++ if a.pointer = some i then [] else [t.acc.report .selected i] }))

/-- R158, R159: CLOSE_LOAD closes the current target, a dispatch departure the one that holds its id, TARGET_CLOSE the
slot it names, each with its cause; with none to close, the key is ignored, the departure counted and the command
refused. A record that joins hands on a drain attempt (log 39), one that is lost sets its flag at once (log 8), and the
report of an empty pointer has zero figures (log 20). CLOSED has the figures before the slot is freed (log 21); outside
RUN a key or departure still waiting is carried out as in RUN (log 23). -/
def Obligations.TargetCloses : Prop :=
  (∀ s : State,
     let s₀ := { s with handed := s.handed.erase .closeLoad }
     (∀ i, s.acc.pointer = some i → ∃ t, s₀.Closes i .operator t ∧ exec .closeLoad s = .next t) ∧
     (s.acc.pointer = none → exec .closeLoad s = .next s₀)) ∧
  (∀ (id : Nat) (s : State),
     let s₀ := { s with handed := s.handed.erase (.dispatchDeparture id) }
     let holds := fun j => (s.acc.slot j).state ≠ .free ∧ (s.acc.slot j).id = id
     (∀ i, lowestSlot holds i → ∃ t, s₀.Closes i .dispatch t ∧ exec (.dispatchDeparture id) s = .next t) ∧
     ((∀ j, ¬ holds j) → exec (.dispatchDeparture id) s = .next
       { s₀ with acc := { s.acc with unknownDepartures := satInc 65535 s.acc.unknownDepartures } })) ∧
  (∀ (req : Request) (s : State), s.admits .operate req → 1 ≤ req.data.length →
     let n := byteAt req.data 0
     let s₀ := { s with handed := s.handed.erase (.targetClose req) }
     let refused := fun status => exec (.targetClose req) s = .next (s.answers (.targetClose req) req status [])
     (s.mgt.config ≠ .run → refused .wrongMode) ∧
     (s.mgt.config = .run → (∀ i : Fin 4, i.val = n → (s.acc.slot i).state = .free) → refused .badIndex) ∧
     (∀ i : Fin 4, s.mgt.config = .run → i.val = n → (s.acc.slot i).state ≠ .free →
       ∃ t, s₀.Closes i .command t ∧
         exec (.targetClose req) s = .next { t with link := s.link.answered req .ok [] }))

/-- R157: DELETE_LAST and DELETE_LAST_BUCKET remove the tail entry of the current target's list, and give its credit
back to the totals of the shift it was credited in, if that is the shift now; with none to remove, the key is ignored
and the command refused. The figures of each report are those after the request (log 21); outside RUN a key still
waiting is carried out as in RUN (log 23). -/
def Obligations.BucketRemoved : Prop :=
  (∀ s : State,
     let s₀ := { s with handed := s.handed.erase .deleteLast }
     (∀ i e l, s.acc.pointer = some i → (s.acc.slot i).list = l ++ [e] →
       ∃ t, s₀.Removes i e t ∧ exec .deleteLast s = .next t) ∧
     ((∀ i, s.acc.pointer = some i → (s.acc.slot i).list = []) → exec .deleteLast s = .next s₀)) ∧
  (∀ (req : Request) (s : State), s.admits .operate req →
     let cmd := Instr.deleteLastBucket req
     let s₀ := { s with handed := s.handed.erase cmd }
     (s.mgt.config ≠ .run → exec cmd s = .next (s.answers cmd req .wrongMode [])) ∧
     (s.mgt.config = .run → (∀ i, s.acc.pointer = some i → (s.acc.slot i).list = []) →
       exec cmd s = .next (s.answers cmd req .noEntry [])) ∧
     (∀ i e l, s.mgt.config = .run → s.acc.pointer = some i → (s.acc.slot i).list = l ++ [e] →
       ∃ t, s₀.Removes i e t ∧ exec cmd s = .next { t with link := s.link.answered req .ok [] }))

/-- R165: LATCH_TOTALS copies the totals, the tracker's counters, the shift number, the clock value and the time tag,
and is refused while a snapshot is latched; READ_TOTALS returns the snapshot and unlatches it, and is refused while
none is latched. Its data is the snapshot's fields in R165's order, the latched flag first (log 18), clamped to 4 bytes
(log 19). -/
def Obligations.TotalsSnapshot : Prop :=
  (∀ (req : Request) (s : State), s.admits .operate req →
     (s.acc.snapshot.latched = true →
       exec (.latchTotals req) s = .next (s.answers (.latchTotals req) req .alreadyLatched [])) ∧
     (s.acc.snapshot.latched = false →
       exec (.latchTotals req) s = .next
         { s.answers (.latchTotals req) req .ok [] with
           acc := { s.acc with snapshot :=
             { latched := true, totals := s.acc.totals, figures := s.trk.figures, shift := s.time.shiftNumber
               clock := if s.time.valid = true then s.time.clock else ⟨0, 0, 0, 0, 0, 0⟩, tag := s.time.tag } } })) ∧
  (∀ (req : Request) (s : State), s.admits .info req →
     let x := s.acc.snapshot
     let f := x.figures
     let g := x.totals
     (x.latched = false → exec (.readTotals req) s = .next (s.answers (.readTotals req) req .notLatched [])) ∧
     (x.latched = true →
       exec (.readTotals req) s = .next
         { s.answers (.readTotals req) req .ok
             (u8 1 ++ s32 g.weighed ++ u32 g.buckets ++ u32 g.unweighed ++ u32 g.loads ++ s32 g.unallocated ++
               u16 f.cycles ++ u16 f.returned ++ u32 f.timeSum ++ u16 f.timeCount ++ u16 f.strays ++ u16 f.reversals ++
               u16 x.shift.toNat ++ clockBytes x.clock ++ u32 x.tag.toNat) with
           acc := { s.acc with snapshot := { x with latched := false } } }))

/-! ### The overlay and the reports (09) -/

/-- R169, R170: the value of every overlay item, or none where it is invalid. The bucket rated load is at least 100 kg
in RUN (R169), which BUCKET_FILL needs. A role with no slot is not FRESH for INPUT_STALE (log 45). -/
def Obligations.ItemValues : Prop :=
  ∀ s : State,
    let a := s.acc
    let w := s.weigh.params.ratedLoad
    let f := s.trk.figures
    let weighed := fun p : Int => ∃ r, s.trk.pending = some r ∧ r.grade ≠ .rejected ∧ r.payload = some p
    let noWeighed := ∀ r, s.trk.pending = some r → r.grade = .rejected
    let tail := fun e : BucketEntry => ∃ i l, a.pointer = some i ∧ (a.slot i).list = l ++ [e]
    (a.pointer = none →
      ∀ x ∈ [Item.accPayload, .remaining, .targetFill, .buckets, .lastBucket, .targetId, .targetSlot], s.item x = none) ∧
    (∀ i, a.pointer = some i →
      let v := a.slot i
      s.item .accPayload = some v.accumulated ∧ s.item .buckets = some v.buckets ∧ s.item .targetId = some v.id ∧
      s.item .targetSlot = some i.val ∧
      (v.capacity = 0 → s.item .remaining = none ∧ s.item .targetFill = none) ∧
      (v.capacity ≠ 0 → s.item .remaining = some (v.capacity - v.accumulated) ∧
        s.item .targetFill = some ((v.accumulated * 100).tdiv v.capacity)) ∧
      (v.list = [] → s.item .lastBucket = none)) ∧
    (∀ e, tail e → s.item .lastBucket = some (if e.grade = .unweighed then 0 else e.payload)) ∧
    (∀ p, weighed p → s.item .pending = some p ∧ (1 ≤ w → s.item .bucketFill = some ((p * 100).tdiv w))) ∧
    (noWeighed → s.item .pending = none ∧
      (∀ e, tail e → e.grade ≠ .unweighed → 1 ≤ w → s.item .bucketFill = some ((e.payload * 100).tdiv w)) ∧
      ((∀ e, tail e → e.grade = .unweighed) → s.item .bucketFill = none)) ∧
    (∀ n : Nat, [Phase.unknown, .parked, .dig, .lift, .carry, .dump, .ret][n]? = some s.trk.phase → s.item .phase = some n) ∧
    s.item .shiftPayload = some a.totals.weighed ∧ s.item .shiftLoads = some a.totals.loads ∧
    s.item .shiftCycles = some f.cycles ∧
    (f.timeCount = 0 → s.item .meanCycle = none) ∧
    (f.timeCount ≠ 0 → s.item .meanCycle = some ((f.timeSum / (f.timeCount * 100) : Nat) : Int)) ∧
    (∃ isFull isOver isStale : Bool,
      (isFull = true ↔ ∃ i, a.pointer = some i ∧ (a.slot i).state = .full) ∧
      (isOver = true ↔ ∃ i, a.pointer = some i ∧ (a.slot i).overloaded = true) ∧
      (isStale = true ↔ ∃ r, (r = .headP ∨ r = .rodP ∨ r = .boom ∨ r = .tilt) ∧ s.sig.freshOf r = false) ∧
      s.item .statusBits = some (
        (if isFull = true then 1 else 0) + (if a.overloadAhead = true then 2 else 0) + (if isOver = true then 4 else 0) +
          (if s.cal.active.valid = true then 0 else 8) + (if s.cal.run = .off then 0 else 16) +
          (if s.mgt.faults = 0 then 0 else 32) + (if s.time.valid = true then 0 else 64) +
          (if isStale = true then 128 else 0)))

/-- R171, R172: the overlay stage. The enabled entries of the set are applied in ascending order to the page's payload,
the check is computed anew, and the header, the length and the bytes outside the fields that fit stay as they came; the
state changes by OVERLAY_FIT alone, set if an entry does not fit, in the same event (log 8). -/
def Obligations.OverlayStage : Prop :=
  ∀ (set : Nat) (frame : List Byte) (s : State), (∀ e ∈ s.rep.overlay.toList, e.divisor ∈ [1, 10, 100, 1000]) →
    let payload := framePayload frame
    let entries := s.rep.overlay.toList.filter fun e => e.enable && e.set == set
    let x := overlayPage set frame s
    ∃ payload',
      Overlaid entries s payload x.1 payload' ∧ x.2 = withCheck (frame.take 4 ++ payload') ∧
      payload'.length = payload.length ∧
      (∀ n, (∀ e ∈ entries, e.offset + e.width ≤ payload.length → n < e.offset ∨ e.offset + e.width ≤ n) →
        payload'[n]? = payload[n]?) ∧
      ((∃ e ∈ entries, payload.length < e.offset + e.width) → x.1 = s.setFault .overlayFit) ∧
      ((∀ e ∈ entries, e.offset + e.width ≤ payload.length) → x.1 = s) ∧
      (∀ f : FrameIn, f.good → f.stored = frame → payload' = payload → x.2 = frame)

/-- R173, R174, R175, R193, R194: what sending a report of a kind does, port by port, and the five requests that send
one at once, with the bytes of their contents: 27 of a lift result, 23 of a credit, 25 of a target, 8 of a run and 2 of
the fault set. A refusal sets REPORT_DROP in the same event (log 8). The presence byte of a removed entry is its lift
sequence's (log 48). -/
def Obligations.ReportsRouted : Prop :=
  (∀ (k : ReportKind) (contents : List Byte) (s : State),
     let t := s.sendReport k contents
     s.Sent k (fun _ => contents) t ∧
     t = { s with
       link := { s.link with origQ := t.link.origQ }
       rep := { s.rep with tags := t.rep.tags }
       mgt := t.mgt
       handed := t.handed }) ∧
  (∀ s : State,
     let sends := fun (c : Instr) (k : ReportKind) (contents : List Byte) =>
       exec c s = .next (State.sendReport k contents { s with handed := s.handed.erase c });
     (∀ r, let lift := u16 r.sequence.toNat ++ u32 r.tag.toNat ++
             u8 (maskOf [r.payload.isSome, r.spread.isSome, r.rate.isSome, r.meanPitch.isSome, r.calFlag]) ++
             s32 (r.payload.getD 0) ++ enumByte [.good, .marginal, .rejected] r.grade ++ u16 r.reasons.toNat ++
             u16 r.samples ++ u8 r.binsCovered ++ u32 (r.spread.getD 0).toNat ++ u16 (r.rate.getD 0).toNat ++
             s32 (r.meanPitch.getD 0)
           sends (.liftResultReport r) .liftResult lift ∧ lift.length = 27) ∧
     (∀ b, let bucket := u8 (b.slot.elim 255 Fin.val) ++ u8 (maskOf [b.entry.sequence.isSome]) ++
             u16 (b.entry.sequence.getD 0).toNat ++ s32 b.entry.payload ++
             enumByte [.good, .marginal, .unweighed] b.entry.grade ++ u32 b.entry.tag.toNat ++ u16 b.entry.shift.toNat ++
             s32 b.total ++ u16 b.buckets ++ enumByte [.free, .opened, .full] b.state ++ flagByte b.overloaded
           sends (.bucketReport b) .bucket bucket ∧ bucket.length = 23) ∧
     (∀ r, let f := r.figures
           let removed := match r.removed with
             | some e => u8 (maskOf [e.sequence.isSome]) ++ u16 (e.sequence.getD 0).toNat ++ s32 e.payload ++
               enumByte [.good, .marginal, .unweighed] e.grade
             | none => List.replicate 8 0
           let target := enumByte [.opened, .selected, .state, .capacity, .removed, .closed] r.event ++
             u8 (f.slot.elim 255 Fin.val) ++ enumByte [.free, .opened, .full] f.state ++ u16 f.id ++ u32 f.capacity ++
             s32 f.accumulated ++ u16 f.buckets ++ flagByte f.overloaded ++ flagByte f.current ++ removed
           sends (.targetReport r) .target target ∧ target.length = 25) ∧
     (∀ r, let run := enumByte [.off, .collecting, .review] r.run ++
             enumByte [.started, .collected, .accepted, .discarded, .timeout, .config] r.cause ++
             enumByte [.empty, .reference, .zero] r.kind ++ flagByte r.keyStarted ++ u8 r.accepted ++ u8 r.refused ++
             flagByte r.candidateValid ++ flagByte r.activeValid
           sends (.calReport r) .cal run ∧ run.length = 8) ∧
     (∀ set : FaultSet, sends (.faultReport set) .fault (u16 set.toNat) ∧ (u16 set.toNat).length = 2))

/-- R178: a STATUS report. It is full when the port's memory is empty or its change count is 7, and otherwise carries
the fields that differ from the memory; a report that joins becomes the memory, and a refused one leaves it and sets
REPORT_DROP (log 8). A request that is taken outside RUN is sent as in RUN (log 23). -/
def Obligations.StatusReport : Prop :=
  ∀ s : State,
    let fields : Vector (Option Int) 8 :=
      #v[s.item .phase, s.item .targetSlot, s.item .accPayload, s.item .remaining, s.item .pending,
        s.item .shiftPayload, s.item .shiftCycles, s.item .statusBits].map fun v => v.map fun x =>
          max (-2147483648) (min 2147483647 x)
    let full := fun p => (s.rep.memory.get p).isNone || s.rep.changes.get p == 7
    let included := fun p => (List.finRange 8).map fun n =>
      full p || ((s.rep.memory.get p).any fun m => decide (m[n] ≠ fields[n]))
    let absent := fun p => (List.finRange 8).map fun n => (included p)[n]?.getD false && (fields[n]).isNone
    let sent := fun p => (List.finRange 8).flatMap fun n =>
      if (included p)[n]?.getD false = true then
        (fields[n]).elim [] fun x => intBytes ([1, 1, 4, 4, 4, 4, 2, 1].getD n 0) x
      else []
    let contents := fun p => u8 (maskOf (included p)) ++ u8 (maskOf (absent p)) ++ flagByte (full p) ++ sent p
    let s₀ := { s with handed := s.handed.erase .statusReport }
    ∃ t, exec .statusReport s = .next t ∧ s₀.Sent .status contents t ∧
      (∀ p, s.routes .status p → s.roomFor p →
        t.rep.memory.get p = some fields ∧
        t.rep.changes.get p = if full p = true then 0 else s.rep.changes.get p + 1) ∧
      (∀ p, ¬ (s.routes .status p ∧ s.roomFor p) →
        t.rep.memory.get p = s.rep.memory.get p ∧ t.rep.changes.get p = s.rep.changes.get p) ∧
      t = { s with
        link := { s.link with origQ := t.link.origQ }
        rep := { s.rep with tags := t.rep.tags, memory := t.rep.memory, changes := t.rep.changes }
        mgt := t.mgt
        handed := t.handed }

/-- R164, R176: the shift boundary at load accounting hands on the five totals and zeroes them; an arrival at the shift
assembly is ignored after its report, raises an assembly of another boundary, joins its own, and completes it when both
parts are present. -/
def Obligations.ShiftCloses : Prop :=
  (∀ (closing new : Word16) (s : State),
     exec (.accountShiftClose closing new) s = .next
       { s with
         acc := { s.acc with totals := ⟨0, 0, 0, 0, 0⟩, shift := new }
         handed := s.handed.erase (.accountShiftClose closing new) ++
           [.shiftAssemblyArrival closing (.account s.acc.totals)] }) ∧
  (∀ (n : Word16) (part : ShiftPart) (s : State),
     let s₀ := { s with handed := s.handed.erase (.shiftAssemblyArrival n part) }
     let raised := fun (a : Assembly) (u : State) =>
       let f := a.tracker.getD ⟨0, 0, 0, 0, 0, 0⟩
       let g := a.account.getD ⟨0, 0, 0, 0, 0⟩
       let v := u.sendReport .shift
         (u16 a.closing.toNat ++ u16 (a.closing + 1).toNat ++ u8 (maskOf [a.tracker.isSome, a.account.isSome]) ++
           u16 f.cycles ++ u16 f.returned ++ u32 f.timeSum ++ u16 f.timeCount ++ u16 f.strays ++ u16 f.reversals ++
           s32 g.weighed ++ u32 g.buckets ++ u32 g.unweighed ++ u32 g.loads ++ s32 g.unallocated)
       { v with rep := { v.rep with assembly := none, lastClosing := some a.closing } }
     let joined := fun (a : Assembly) (u : State) =>
       let b := match part with
         | .boundary => a
         | .tracker f => { a with tracker := some f }
         | .account f => { a with account := some f }
       if b.tracker ≠ none ∧ b.account ≠ none then raised b u else { u with rep := { u.rep with assembly := some b } }
     let arrives := fun t => exec (.shiftAssemblyArrival n part) s = .next t
     (s.rep.lastClosing = some n → arrives s₀) ∧
     (s.rep.lastClosing ≠ some n → s.rep.assembly = none → arrives (joined ⟨n, none, none⟩ s₀)) ∧
     (∀ a, s.rep.lastClosing ≠ some n → s.rep.assembly = some a → a.closing = n → arrives (joined a s₀)) ∧
     (∀ a, s.rep.lastClosing ≠ some n → s.rep.assembly = some a → a.closing ≠ n →
       arrives (joined ⟨n, none, none⟩ (raised a s₀))))

/-- R163: READ_LOAD_LOG, by its checks in order; otherwise it answers the head record and the number of records left,
and the record leaves the log. And a drain attempt (R162, R179): when its four conditions hold, the head record is
taken and a copy of its LOAD report joins the queue of every port the route names; otherwise nothing changes. The
attempt is an event of its own (log 39). -/
def Obligations.LoadLogEmptied : Prop :=
  (∀ (req : Request) (s : State), s.admits .operate req →
     let log := s.acc.log
     let refused := fun status => exec (.readLoadLog req) s = .next (s.answers (.readLoadLog req) req status [])
     (s.rep.route .load ≠ .off → refused .routed) ∧
     (s.rep.route .load = .off → log.inFlight = true → refused .busy) ∧
     (s.rep.route .load = .off → log.inFlight = false → log.records = [] → refused .noEntry) ∧
     (∀ r rest, s.rep.route .load = .off → log.inFlight = false → log.records = r :: rest →
       exec (.readLoadLog req) s = .next
         { s.answers (.readLoadLog req) req .ok
             (u32 r.sequence ++ u16 r.id ++ u32 r.capacity ++ s32 r.payload ++ u16 r.buckets ++ u16 r.unweighed ++
               u16 r.marginal ++ clockBytes r.opened ++ clockBytes r.closed ++ enumByte closeCauses r.cause ++
               flagByte r.overloaded ++ u16 r.shift.toNat ++ u8 r.missed ++ u8 rest.length) with
           acc := { s.acc with log := { log with records := rest } } })) ∧
  (∀ s : State,
     let log := s.acc.log
     let s₀ := { s with handed := s.handed.erase .loadDrain }
     let open_ := s.rep.route .load ≠ .off ∧ s.rep.drain = ⟨.absent, .absent⟩ ∧ log.inFlight = false ∧
       ∀ p, s.routes .load p → s.roomFor p
     (∀ r rest, open_ → log.records = r :: rest →
       ∃ t, exec .loadDrain s = .next t ∧
         (∀ p, s₀.Offered .load .loadReport (fun _ => loadRecord r) t p) ∧ (loadRecord r).length = 39 ∧
         (∀ p, s.routes .load p → t.rep.drain.get p = .queued) ∧
         (∀ p, ¬ s.routes .load p → t.rep.drain.get p = .absent) ∧
         t.acc = { s.acc with log := { log with inFlight := true } } ∧
         t = { s with
           link := { s.link with origQ := t.link.origQ }
           rep := { s.rep with tags := t.rep.tags, drain := t.rep.drain }
           acc := t.acc
           handed := s₀.handed }) ∧
     (¬ open_ ∨ log.records = [] → exec .loadDrain s = .next s₀))

/-! ### In-band management (10) -/

/-- R24, R82, R121, R183, R186, R188, R191: what the reading commands answer, but for the sections of READ_STATE; none
changes more than its answer adds. CLEAR_FAULTS and CLEAR_COUNTERS clear what they name, and a command code that names
no command is answered so. The order of the fields and the presence bytes of an answer are those of log 18, the codes
of an enumeration those of log 16, a presence byte above 1 in CAL_STATUS is refused by log 34, the bin byte behind a
presence byte of 0 is ignored by log 46, and the two bytes of a slot's last source are those of log 17. -/
def Obligations.ReadsAnswer : Prop :=
  (∀ (req : Request) (s : State), s.canTake req →
     exec (.unknownCommand req) s = .next (s.answers (.unknownCommand req) req .unknownCommand [])) ∧
  (∀ (req : Request) (s : State), s.admits .info req →
     let answers := fun (c : Instr) (status : Status) (data : List Byte) =>
       exec c s = .next (s.answers c req status data)
     let x := byteAt req.data 0
     let y := byteAt req.data 1
     let l := s.link
     let eight := fun k : LinkCounters => u16 k.good ++ u16 k.checkErrors ++ u16 k.runts ++ u16 k.giants ++
       u16 k.aborts ++ u16 k.huntDiscards ++ u16 k.relayDrops ++ u16 k.busyDrops
     let c := s.cal;
     answers (.identify req) .ok (u8 58 ++ u8 2 ++ u8 l.node.toNat ++ enumByte configStates s.mgt.config ++
       enumByte relayStates l.relay) ∧
     answers (.readClock req) .ok (clockBytes s.time.clock ++ flagByte s.time.valid ++ u16 s.time.shiftNumber.toNat ++
       u32 s.time.tag.toNat ++ u32 s.time.lastSecond.toNat) ∧
     answers (.readCounters req) .ok (eight l.counters.mp ++ eight l.counters.dp) ∧
     answers (.readFaults req) .ok (u16 s.mgt.faults.toNat) ∧
     (2 ≤ req.data.length →
       (16 ≤ x → answers (.readEntry req) .badTable []) ∧
       (∀ n, entryCounts[x]? = some n → n ≤ y → answers (.readEntry req) .badIndex []) ∧
       (∀ n, entryCounts[x]? = some n → y < n → answers (.readEntry req) .ok (s.entry x y ++ s.live x y)) ∧
       (x = 0 → answers (.calStatus req) .ok
         (enumByte runStates c.run ++ enumByte calKinds c.record.kind ++ flagByte c.record.keyStarted ++
           u8 c.record.lifts ++ u16 c.record.mref ++ u8 c.record.accepted ++ u8 c.record.refused ++
           enumByte calCauses c.record.cause ++ flagByte c.candidate.valid ++ u16 c.candidate.mref ++
           s16 c.candidate.zeroOffset ++ u16 c.candidate.rate ++ u8 (c.candidate.empty.toList.countP Option.isSome) ++
           u8 (c.candidate.reference.toList.countP Option.isSome) ++ flagByte c.active.valid ++
           u16 (timerCount .tc s.time.timers.tc))) ∧
       (∀ b : Fin 16, x = 1 → y = b.val → answers (.calStatus req) .ok
         (forceBytes c.candidate.empty[b] ++ forceBytes c.candidate.reference[b] ++ u8 c.record.binLifts[b])) ∧
       (1 < x ∨ x = 1 ∧ 15 < y → answers (.calStatus req) .badValue []))) ∧
  (∀ (req : Request) (s : State), s.admits .operate req →
     exec (.clearFaults req) s = .next
       { s.answers (.clearFaults req) req .ok (u16 s.mgt.faults.toNat) with mgt := { s.mgt with faults := 0 } } ∧
     (let t := s.answers (.clearCounters req) req .ok [];
      exec (.clearCounters req) s = .next
        { t with
          link := { t.link with counters := ⟨LinkCounters.zero, LinkCounters.zero⟩ }
          sig := { s.sig with counters := ⟨0, 0, 0⟩ }
          weigh := { s.weigh with reversals := 0 }
          acc := { s.acc with openRefusals := 0, unknownDepartures := 0, unallocatedCredits := 0 } }))

/-- R54, R71, R74, R106, R143, R166, R188, R194: what READ_STATE answers, section by section; a section above 16 is
refused, and only section 1 changes anything, by clearing the six queue flags. The order of the fields, the presence
bytes and the byte 0xFF for none are those of log 18, the codes of an enumeration those of log 16, the width of an open
window's sample count that of log 43, the order of the ports in section 0 that of log 52, and totals wider than their 4
bytes are clamped by log 19. -/
def Obligations.SectionsRead : Prop :=
  ∀ (req : Request) (s : State), s.admits .info req → 1 ≤ req.data.length →
    let n := byteAt req.data 0
    let shows := fun (k : Nat) (data : List Byte) =>
      n = k → exec (.readState req) s = .next (s.answers (.readState req) req .ok data)
    let l := s.link
    let ingress := fun i : Ingress => u8 (match i.mode with | .down => 0 | .hunt _ => 1 | .aligned _ => 2)
    let relayed := fun q : List RelayEntry => u8 q.length ++ u16 ((q.map fun e => e.bytes.length).sum)
    let originate := fun q : List OrigEntry =>
      u8 (q.countP fun e => e.kind != .response) ++ u8 (q.countP fun e => e.kind == .response)
    let queue := fun q : SampleQueue => enumByte queueStates q.state ++ u8 q.position ++ u8 q.subStart ++
      flagByte q.complete ++ flagByte q.pause ++ flagByte q.overrun
    let cleared := fun q : SampleQueue => { q with complete := false, pause := false, overrun := false }
    let timer := fun i : TimerId =>
      let x := s.time.timer i
      let us := if i = .tc then 1000000 else 1000
      u16 x.reload ++ u16 (if x.running = true then (x.left + us - 1) / us else 0) ++ flagByte x.running
    let w := s.weigh
    let progress :=
      let v := w.window
      if w.state = .window then
        u8 1 ++ u32 v.entryTag.toNat ++ s32 v.entryAngle ++ s32 v.highest ++ flagByte v.calFlag ++
          u16 (min 65535 v.samples) ++ u8 v.sampledBins.length
      else List.replicate 17 0
    let lift := fun r : Option LiftResult => match r with
      | some r => u8 1 ++ u16 r.sequence.toNat ++ u32 r.tag.toNat ++
        u8 (maskOf [r.payload.isSome, r.spread.isSome, r.rate.isSome, r.meanPitch.isSome, r.calFlag]) ++
        s32 (r.payload.getD 0) ++ enumByte [.good, .marginal, .rejected] r.grade ++ u16 r.reasons.toNat ++
        u16 r.samples ++ u8 r.binsCovered ++ u32 (r.spread.getD 0).toNat ++ u16 (r.rate.getD 0).toNat ++
        s32 (r.meanPitch.getD 0)
      | none => List.replicate 28 0
    let k := s.trk
    let phases := [.unknown, .parked, .dig, .lift, .carry, .dump, .ret]
    let f := k.figures
    let a := s.acc
    let g := a.totals
    (16 < n → exec (.readState req) s = .next (s.answers (.readState req) req .badValue [])) ∧
    shows 0 (enumByte [.bypass, .takeover, .relay, .release] l.relay ++ ingress l.ingress.mp ++ ingress l.ingress.dp ++
      relayed l.relayQ.mp ++ relayed l.relayQ.dp ++ originate l.origQ.mp ++ originate l.origQ.dp ++
      enumByte [.unconfigured, .config, .run] s.mgt.config) ∧
    (n = 1 → exec (.readState req) s = .next
      { s.answers (.readState req) req .ok
          (queue s.acq.queues.fast ++ queue s.acq.queues.slow ++ flagByte s.acq.released ++
            (match s.acq.conversion with | some v => u8 1 ++ u8 v.word | none => u8 0 ++ u8 0)) with
        acq := { s.acq with queues := ⟨cleared s.acq.queues.fast, cleared s.acq.queues.slow⟩ } }) ∧
    shows 2 (timer .tf ++ timer .ts ++ timer .tr ++ timer .td ++ timer .tc) ∧
    shows 3 (enumByte [.disabled, .armed, .window, .spent] w.state ++ u16 w.sequence.toNat ++ u16 w.reversals ++
      progress) ∧
    shows 4 (lift w.last) ∧
    shows 5 (enumByte phases k.phase ++ (match k.candidate with | some q => enumByte phases q | none => [0xFF]) ++
      (match k.cycleStart with | some x => u8 1 ++ u32 x.toNat | none => List.replicate 5 0) ++ flagByte k.dumped ++
      u16 f.cycles ++ u16 f.returned ++ u32 f.timeSum ++ u16 f.timeCount ++ u16 f.strays ++ u16 f.reversals) ∧
    shows 6 (lift k.pending) ∧
    shows 7 (u8 (a.pointer.elim 255 Fin.val) ++ flagByte a.overloadAhead ++ u8 a.log.records.length ++ u32 a.log.next ++
      u8 a.log.missed ++ flagByte a.log.spent ++ flagByte a.log.inFlight ++ s32 g.weighed ++ u32 g.buckets ++
      u32 g.unweighed ++ u32 g.loads ++ s32 g.unallocated ++ u16 a.shift.toNat ++ flagByte a.snapshot.latched ++
      u16 a.openRefusals ++ u16 a.unknownDepartures ++ u16 a.unallocatedCredits) ∧
    shows 8 (u16 s.sig.counters.short ++ u16 s.sig.counters.unmapped ++ u16 s.sig.counters.dispatch) ∧
    (∀ i : Fin 4,
      let v := a.slot i
      shows (9 + i.val) (enumByte [.free, .opened, .full] v.state ++ u16 v.id ++ u32 v.capacity ++ s32 v.accumulated ++
        u16 v.buckets ++ u16 v.unweighed ++ u16 v.marginal ++ u16 v.folded ++ s32 v.foldedPayload ++ u8 v.list.length ++
        flagByte v.overloaded ++ flagByte (a.pointer == some i)) ∧
      shows (13 + i.val) (clockBytes v.opened ++ clockBytes v.firstBucket ++ clockBytes v.lastBucket ++
        (match v.list.getLast? with
          | some e => u8 1 ++ flagByte e.sequence.isSome ++ u16 (e.sequence.getD 0).toNat ++ s32 e.payload ++
            enumByte [.good, .marginal, .unweighed] e.grade ++ u32 e.tag.toNat ++ u16 e.shift.toNat
          | none => List.replicate 15 0)))

/-- R67, R92, R107, R123, R144, R182, R185, R189: ENTER_CONFIG stops the engines and keeps every table. SOFT_RESET
returns every table but PERMIT to its power-reset content, and the engines to their start. Timer triggers,
notifications, lift results and reversal notices handed before either are withdrawn (log 44), and by SOFT_RESET the
requests for TD and TC too (log 24); the numbering of the starts goes on (log 25), and the requests that the end of a
run and of a phase hand on stand in the model's order (log 22). The configuration state changes by these two, by COMMIT
and by a power reset alone, the groups in force by COMMIT and a power reset alone, and those written by WRITE_ENTRY and
a power reset alone. -/
def Obligations.ConfigurationStates : Prop :=
  (∀ (req : Request) (s : State), s.admits .config req →
     let cmd := Instr.enterConfig req
     let k := s.trk
     let x := s.time.timers
     let first := s.acq.firstWord
     let off := fun (q : QueueId) => { s.acq.queue q with state := .off, position := first q, subStart := first q }
     let stopped := fun v : Timer => { v with reload := 0, left := 0, running := false }
     let run := s.cal.record
     (s.mgt.config = .config → exec cmd s = .next (s.answers cmd req .wrongMode [])) ∧
     (s.mgt.config ≠ .config → ∃ t, exec cmd s = .next t ∧
       (s.cal.run = .off → t.cal = s.cal) ∧
       (s.cal.run ≠ .off → t.cal = { s.cal with run := .off, record := { run with cause := .config }, startOpen := false }) ∧
       t.handed = (s.handed.erase cmd ++ s.halts).filter outlivesRun ∧
       t = { s with
         link := s.link.answered req .ok (u8 1)
         acq := { s.acq with queues := ⟨off .fast, off .slow⟩, conversion := none }
         time := { s.time with timers := { x with tf := stopped x.tf, ts := stopped x.ts, tr := stopped x.tr } }
         weigh := { s.weigh with state := .disabled, window := t.weigh.window, speed := none, accel := none }
         cal := t.cal
         trk := { k with phase := .unknown, candidate := none, pending := none, cycleStart := none, dumped := false,
                         startOpen := false }
         mgt := { s.mgt with config := .config }
         handed := t.handed })) ∧
  (∀ (req : Request) (s : State), s.admits .control req → ∃ t, exec (.softReset req) s = .next t ∧
     let keeps : Instr → Bool := fun c => match c with
       | .timerStart i _ _ => i != .td && i != .tc
       | .timerStop i => i != .td && i != .tc
       | c => outlivesRun c
     (∀ i, (t.time.timer i).running = false ∧ (t.time.timer i).left = 0 ∧ (t.time.timer i).reload = 0) ∧
     t.handed = (s.handed.erase (.softReset req) ++ s.halts).filter keeps ∧
     t = { s with
       link := { s.link.answered req .ok [] with gapEntry := 4 }
       sig := { Signals.initial with counters := s.sig.counters }
       acq := { Acquisition.initial with released := s.acq.released, freeReads := s.acq.freeReads }
       time := { s.time with
         timers := t.time.timers, timerTable := TimeBase.initial.timerTable, shiftTable := TimeBase.initial.shiftTable }
       weigh := { s.weigh with
         params := WeighRecord.zero, state := .disabled, window := t.weigh.window, speed := none, accel := none }
       cal := { Calibration.initial with starts := s.cal.starts, startOpen := t.cal.startOpen }
       trk := { s.trk with phase := .unknown, candidate := none, pending := none, cycleStart := none, dumped := false,
                           startOpen := false, params := CycleRecord.zero }
       acc := { s.acc with params := ⟨0, 0⟩ }
       rep := { Reports.initial with
         tags := s.rep.tags, drain := s.rep.drain, assembly := s.rep.assembly, lastClosing := s.rep.lastClosing }
       mgt := { s.mgt with config := .unconfigured }
       handed := t.handed }) ∧
  (∀ (c : Instr) (s t : State), (∀ straps, c ≠ .powerReset straps) → exec c s = .next t →
     (t.mgt.config ≠ s.mgt.config →
       (∃ req, c = .enterConfig req ∧ t.mgt.config = .config) ∨ (∃ req, c = .commit req ∧ t.mgt.config = .run) ∨
         (∃ req, c = .softReset req ∧ t.mgt.config = .unconfigured)) ∧
     (t.mgt.inForce ≠ s.mgt.inForce → ∃ req, c = .commit req) ∧
     (t.mgt.written ≠ s.mgt.written → ∃ req, c = .writeEntry req))

/-- R15, R37, R43, R45, R69, R70, R78, R88, R92, R127, R145, R148, R150, R167, R168, R173, R181, R184: COMMIT. It is
refused outside CONFIG; at the first entry that fails, in the order of the steps and in each in ascending order, it
ends with that entry and changes nothing; and with none it brings every block into RUN, each target slot that is not
FREE re-evaluated with a STATE report if its state changed. In the ROLE step an UNUSED word is no source of a slot (log
33), and a STATE report has the figures after the request (log 21). -/
def Obligations.CommitTaken : Prop :=
  ∀ (req : Request) (s : State), s.admits .config req →
    let cmd := Instr.commit req
    let a := s.acc
    let x := s.time.timers
    let armed := fun (q : QueueId) =>
      { s.acq.queue q with
        state := if s.acq.released = false ∧ (s.acq.setup.get q).arm = true then .idle else .off
        position := s.acq.firstWord q
        subStart := s.acq.firstWord q }
    let started := fun (n : Fin 3) (v : Timer) =>
      let r := s.time.timerTable[n]
      { v with reload := r, left := r * 1000, running := r != 0 }
    (s.mgt.config ≠ .config → exec cmd s = .next (s.answers cmd req .wrongMode [])) ∧
    (∀ table index, s.mgt.config = .config → s.firstFailing table index →
      exec cmd s = .next (s.answers cmd req .invalidConfig (u8 table ++ u8 index))) ∧
    ((∃ table index, s.EntryFails table index) → ∃ table index, s.firstFailing table index) ∧
    (s.mgt.config = .config → (∀ table index, ¬ s.EntryFails table index) → ∃ t, exec cmd s = .next t ∧
      (∀ i, ((a.slot i).state = .free → t.acc.slot i = a.slot i) ∧
        ((a.slot i).state ≠ .free →
          let w := t.acc.slot i
          w = { a.slot i with state := w.state, overloaded := w.overloaded } ∧ w.Evaluated a.params)) ∧
      t.aheadFresh ∧
      t.handed = s.handed.erase cmd ++ a.stateReport t.acc 0 ++ a.stateReport t.acc 1 ++ a.stateReport t.acc 2 ++
        a.stateReport t.acc 3 ∧
      (∀ i : Fin 32, t.sig.slots[i] = { s.sig.slots[i] with fresh := .never, timer := none }) ∧
      t = { s with
        link := { s.link.answered req .ok [] with gapInUse := s.link.gapEntry }
        sig := { s.sig with slots := t.sig.slots }
        acq := { s.acq with queues := ⟨armed .fast, armed .slow⟩, conversion := none }
        time := { s.time with timers := { x with tf := started 0 x.tf, ts := started 1 x.ts, tr := started 2 x.tr } }
        weigh := { s.weigh with
          state := if s.sig.valueOf .boom < s.weigh.params.thetaS then .armed else .spent
          window := t.weigh.window, speed := none, accel := none }
        acc := { a with slots := t.acc.slots, overloadAhead := t.acc.overloadAhead }
        rep := { s.rep with memory := ⟨none, none⟩, changes := ⟨0, 0⟩ }
        mgt := { s.mgt with config := .run, inForce := s.mgt.written }
        handed := t.handed })

/-- R183: WRITE_ENTRY, by its five checks in order. One that they let through takes the entry when the data has the
entry's length with every field in the range of the owning chapter, which makes of the state what the chapter says, and
is answered OK; otherwise it is refused and changes nothing. A written entry reads back as written, with the parts
marked absent as 0 (logs 26, 35 and 40), and writing what was read leaves every table as it was. The drain attempt that
a write of the LOAD route or of a node brings is a request of its own (log 39), the least length of the data is that of
log 13, and a flag byte above 1 (log 34) and a PERMIT set with a bit of no group (log 50) are out of range. A write of
the boundary puts both sub-queue starts at the first words (log 49). -/
def Obligations.EntriesReadBack : Prop :=
  (∀ (req : Request) (s : State), s.admits .config req → 2 ≤ req.data.length →
     let table := byteAt req.data 0
     let index := byteAt req.data 1
     let d := req.data.drop 2
     let off := ∀ q, (s.acq.queue q).state = .off
     let s₀ := { s with handed := s.handed.erase (.writeEntry req) }
     let refused := fun status => exec (.writeEntry req) s = .next (s.answers (.writeEntry req) req status []);
     (s.mgt.config ≠ .config → refused .wrongMode) ∧
     (s.mgt.config = .config →
       (15 < table → refused .badTable) ∧
       (∀ n, [1, 2, 24, 32, 7, 16, 49, 2, 3, 1, 1, 1, 18, 16, 10, 3][table]? = some n →
         (n ≤ index → refused .badIndex) ∧
         (index < n → table = 6 ∨ table = 7 → ¬ off → refused .busy) ∧
         (index < n → (table ≠ 6 ∧ table ≠ 7) ∨ off →
           ((∀ t, ¬ s₀.Takes table index d t) → refused .badValue) ∧
           (∀ t, s₀.Takes table index d t →
             exec (.writeEntry req) s = .next { t with link := t.link.answered req .ok [] }))))) ∧
  (∀ (table index n : Nat) (d : List Byte) (s t : State), entryCounts[table]? = some n → index < n →
     s.Takes table index d t →
     t.readTable table index = asRead table index d ++ t.live table index ∧
     ∃ u, t.Takes table index (asRead table index d) u ∧ u = { t with handed := u.handed })

/-- R63, R185, R186, R187, R192: when a request is not carried out. Outside RELAY and RELEASE it has no effect (log
10); with a response waiting at its port it is dropped as busy; with its group not in force it is denied; with less
data than it needs its value is bad, before any check of the owning block. QUEUE_CONTROL is refused in UNCONFIGURED,
and for a queue byte or an operation that names none, with the status of log 15. The data a command needs: logs 13 and
14; a request dropped as busy when it is taken: log 9. -/
def Obligations.RequestRefusals : Prop :=
  (∀ (c : Instr) (req : Request) (s : State), requestOf c = some req →
     let s₀ := { s with handed := s.handed.erase c }
     let p := req.port
     (carries s.link.relay = false → exec c s = .next s₀) ∧
     (carries s.link.relay = true → (∃ e ∈ s.link.origQ.get p, e.kind = .response) →
       let k := { s.link.counters.get p with busyDrops := satInc 65535 (s.link.counters.get p).busyDrops }
       exec c s = .next { s₀ with link := { s.link with counters := s.link.counters.set p k } }) ∧
     (∀ g, s.canTake req → commandGroup c = some g → hasGroup (s.mgt.inForce.get p) g = false →
       exec c s = .next (s.answers c req .denied [])) ∧
     (∀ g, commandGroup c = some g → s.admits g req → req.data.length < commandNeed c →
       exec c s = .next (s.answers c req .badValue []))) ∧
  (∀ (c : Instr) (req : Request) (s : State), c = .arm req ∨ c = .disarm req ∨ c = .trigger req →
     s.admits .control req → 2 ≤ req.data.length →
     (s.mgt.config = .unconfigured → exec c s = .next (s.answers c req .wrongMode [])) ∧
     (s.mgt.config ≠ .unconfigured → 1 < byteAt req.data 0 → exec c s = .next (s.answers c req .badValue [])) ∧
     (s.mgt.config ≠ .unconfigured → c = .arm req → 2 < byteAt req.data 1 →
       exec c s = .next (s.answers c req .badValue [])))

/-- R88, R146, R147, R149, R160, R162, R180, R182: every step keeps what holds of load accounting; and every step from a
state that meets all the invariants keeps the drain record in line with the LOAD copies queued, and the engines in line
with the configuration state. In RUN the weigh parameter record is one that passes the WEIGH step. -/
def Obligations.StepKeepsAccountsAndConfigInv : Prop :=
  (∀ s t : State, s.acc.Inv → step s = .next t → t.acc.Inv) ∧
  (∀ s t : State, s.Inv → step s = .next t → t.DrainInv ∧ t.ConfigInv)
end

