-- ==== Sys2Proof/Laws/State.lean ====
section
/-!
SUPPORT. One lemma per field for each update of State, all by rfl, so that no proof unfolds a record update; and the
access lemmas of ports, queues and timers.
-/

namespace Sys2Proof

theorem PerPort.ext_get {α : Type} {x y : PerPort α} (h : ∀ p, x.get p = y.get p) : x = y := by
  cases x; cases y; simpa [PerPort.get] using And.intro (h .mp) (h .dp)

@[simp] theorem PerPort.get_set_same {α : Type} (x : PerPort α) (p : Port) (a : α) : (x.set p a).get p = a := by
  cases p <;> rfl

theorem PerPort.get_set {α : Type} (x : PerPort α) (p q : Port) (a : α) :
    (x.set p a).get q = if q = p then a else x.get q := by
  cases p <;> cases q <;> rfl

@[simp] theorem PerPort.set_get {α : Type} (x : PerPort α) (p : Port) : x.set p (x.get p) = x := by
  cases p <;> rfl

@[simp] theorem PerQueue.get_set_same {α : Type} (x : PerQueue α) (q : QueueId) (a : α) : (x.set q a).get q = a := by
  cases q <;> rfl

theorem PerQueue.get_set {α : Type} (x : PerQueue α) (p q : QueueId) (a : α) :
    (x.set p a).get q = if q = p then a else x.get q := by
  cases p <;> cases q <;> rfl

end Sys2Proof

namespace Sys2Proof.Machine

@[simp] theorem Timers.get_set_same (x : Timers) (i : TimerId) (t : Timer) : (x.set i t).get i = t := by
  cases i <;> rfl

theorem Timers.get_set (x : Timers) (i j : TimerId) (t : Timer) :
    (x.set i t).get j = if j = i then t else x.get j := by
  cases i <;> cases j <;> rfl


/-! ### onLink -/

@[simp] theorem State.onLink_link (f : Link → Link) (s : State) : (s.onLink f).link = f s.link := rfl
@[simp] theorem State.onLink_sig (f : Link → Link) (s : State) : (s.onLink f).sig = s.sig := rfl
@[simp] theorem State.onLink_acq (f : Link → Link) (s : State) : (s.onLink f).acq = s.acq := rfl
@[simp] theorem State.onLink_time (f : Link → Link) (s : State) : (s.onLink f).time = s.time := rfl
@[simp] theorem State.onLink_weigh (f : Link → Link) (s : State) : (s.onLink f).weigh = s.weigh := rfl
@[simp] theorem State.onLink_cal (f : Link → Link) (s : State) : (s.onLink f).cal = s.cal := rfl
@[simp] theorem State.onLink_trk (f : Link → Link) (s : State) : (s.onLink f).trk = s.trk := rfl
@[simp] theorem State.onLink_acc (f : Link → Link) (s : State) : (s.onLink f).acc = s.acc := rfl
@[simp] theorem State.onLink_rep (f : Link → Link) (s : State) : (s.onLink f).rep = s.rep := rfl
@[simp] theorem State.onLink_mgt (f : Link → Link) (s : State) : (s.onLink f).mgt = s.mgt := rfl
@[simp] theorem State.onLink_handed (f : Link → Link) (s : State) : (s.onLink f).handed = s.handed := rfl
@[simp] theorem State.onLink_pending (f : Link → Link) (s : State) : (s.onLink f).pending = s.pending := rfl

/-! ### onSig -/

@[simp] theorem State.onSig_link (f : Signals → Signals) (s : State) : (s.onSig f).link = s.link := rfl
@[simp] theorem State.onSig_sig (f : Signals → Signals) (s : State) : (s.onSig f).sig = f s.sig := rfl
@[simp] theorem State.onSig_acq (f : Signals → Signals) (s : State) : (s.onSig f).acq = s.acq := rfl
@[simp] theorem State.onSig_time (f : Signals → Signals) (s : State) : (s.onSig f).time = s.time := rfl
@[simp] theorem State.onSig_weigh (f : Signals → Signals) (s : State) : (s.onSig f).weigh = s.weigh := rfl
@[simp] theorem State.onSig_cal (f : Signals → Signals) (s : State) : (s.onSig f).cal = s.cal := rfl
@[simp] theorem State.onSig_trk (f : Signals → Signals) (s : State) : (s.onSig f).trk = s.trk := rfl
@[simp] theorem State.onSig_acc (f : Signals → Signals) (s : State) : (s.onSig f).acc = s.acc := rfl
@[simp] theorem State.onSig_rep (f : Signals → Signals) (s : State) : (s.onSig f).rep = s.rep := rfl
@[simp] theorem State.onSig_mgt (f : Signals → Signals) (s : State) : (s.onSig f).mgt = s.mgt := rfl
@[simp] theorem State.onSig_handed (f : Signals → Signals) (s : State) : (s.onSig f).handed = s.handed := rfl
@[simp] theorem State.onSig_pending (f : Signals → Signals) (s : State) : (s.onSig f).pending = s.pending := rfl

/-! ### onAcq -/

@[simp] theorem State.onAcq_link (f : Acquisition → Acquisition) (s : State) : (s.onAcq f).link = s.link := rfl
@[simp] theorem State.onAcq_sig (f : Acquisition → Acquisition) (s : State) : (s.onAcq f).sig = s.sig := rfl
@[simp] theorem State.onAcq_acq (f : Acquisition → Acquisition) (s : State) : (s.onAcq f).acq = f s.acq := rfl
@[simp] theorem State.onAcq_time (f : Acquisition → Acquisition) (s : State) : (s.onAcq f).time = s.time := rfl
@[simp] theorem State.onAcq_weigh (f : Acquisition → Acquisition) (s : State) : (s.onAcq f).weigh = s.weigh := rfl
@[simp] theorem State.onAcq_cal (f : Acquisition → Acquisition) (s : State) : (s.onAcq f).cal = s.cal := rfl
@[simp] theorem State.onAcq_trk (f : Acquisition → Acquisition) (s : State) : (s.onAcq f).trk = s.trk := rfl
@[simp] theorem State.onAcq_acc (f : Acquisition → Acquisition) (s : State) : (s.onAcq f).acc = s.acc := rfl
@[simp] theorem State.onAcq_rep (f : Acquisition → Acquisition) (s : State) : (s.onAcq f).rep = s.rep := rfl
@[simp] theorem State.onAcq_mgt (f : Acquisition → Acquisition) (s : State) : (s.onAcq f).mgt = s.mgt := rfl
@[simp] theorem State.onAcq_handed (f : Acquisition → Acquisition) (s : State) : (s.onAcq f).handed = s.handed := rfl
@[simp] theorem State.onAcq_pending (f : Acquisition → Acquisition) (s : State) : (s.onAcq f).pending = s.pending := rfl

/-! ### onTime -/

@[simp] theorem State.onTime_link (f : TimeBase → TimeBase) (s : State) : (s.onTime f).link = s.link := rfl
@[simp] theorem State.onTime_sig (f : TimeBase → TimeBase) (s : State) : (s.onTime f).sig = s.sig := rfl
@[simp] theorem State.onTime_acq (f : TimeBase → TimeBase) (s : State) : (s.onTime f).acq = s.acq := rfl
@[simp] theorem State.onTime_time (f : TimeBase → TimeBase) (s : State) : (s.onTime f).time = f s.time := rfl
@[simp] theorem State.onTime_weigh (f : TimeBase → TimeBase) (s : State) : (s.onTime f).weigh = s.weigh := rfl
@[simp] theorem State.onTime_cal (f : TimeBase → TimeBase) (s : State) : (s.onTime f).cal = s.cal := rfl
@[simp] theorem State.onTime_trk (f : TimeBase → TimeBase) (s : State) : (s.onTime f).trk = s.trk := rfl
@[simp] theorem State.onTime_acc (f : TimeBase → TimeBase) (s : State) : (s.onTime f).acc = s.acc := rfl
@[simp] theorem State.onTime_rep (f : TimeBase → TimeBase) (s : State) : (s.onTime f).rep = s.rep := rfl
@[simp] theorem State.onTime_mgt (f : TimeBase → TimeBase) (s : State) : (s.onTime f).mgt = s.mgt := rfl
@[simp] theorem State.onTime_handed (f : TimeBase → TimeBase) (s : State) : (s.onTime f).handed = s.handed := rfl
@[simp] theorem State.onTime_pending (f : TimeBase → TimeBase) (s : State) : (s.onTime f).pending = s.pending := rfl

/-! ### onWeigh -/

@[simp] theorem State.onWeigh_link (f : Weighing → Weighing) (s : State) : (s.onWeigh f).link = s.link := rfl
@[simp] theorem State.onWeigh_sig (f : Weighing → Weighing) (s : State) : (s.onWeigh f).sig = s.sig := rfl
@[simp] theorem State.onWeigh_acq (f : Weighing → Weighing) (s : State) : (s.onWeigh f).acq = s.acq := rfl
@[simp] theorem State.onWeigh_time (f : Weighing → Weighing) (s : State) : (s.onWeigh f).time = s.time := rfl
@[simp] theorem State.onWeigh_weigh (f : Weighing → Weighing) (s : State) : (s.onWeigh f).weigh = f s.weigh := rfl
@[simp] theorem State.onWeigh_cal (f : Weighing → Weighing) (s : State) : (s.onWeigh f).cal = s.cal := rfl
@[simp] theorem State.onWeigh_trk (f : Weighing → Weighing) (s : State) : (s.onWeigh f).trk = s.trk := rfl
@[simp] theorem State.onWeigh_acc (f : Weighing → Weighing) (s : State) : (s.onWeigh f).acc = s.acc := rfl
@[simp] theorem State.onWeigh_rep (f : Weighing → Weighing) (s : State) : (s.onWeigh f).rep = s.rep := rfl
@[simp] theorem State.onWeigh_mgt (f : Weighing → Weighing) (s : State) : (s.onWeigh f).mgt = s.mgt := rfl
@[simp] theorem State.onWeigh_handed (f : Weighing → Weighing) (s : State) : (s.onWeigh f).handed = s.handed := rfl
@[simp] theorem State.onWeigh_pending (f : Weighing → Weighing) (s : State) : (s.onWeigh f).pending = s.pending := rfl

/-! ### onCal -/

@[simp] theorem State.onCal_link (f : Calibration → Calibration) (s : State) : (s.onCal f).link = s.link := rfl
@[simp] theorem State.onCal_sig (f : Calibration → Calibration) (s : State) : (s.onCal f).sig = s.sig := rfl
@[simp] theorem State.onCal_acq (f : Calibration → Calibration) (s : State) : (s.onCal f).acq = s.acq := rfl
@[simp] theorem State.onCal_time (f : Calibration → Calibration) (s : State) : (s.onCal f).time = s.time := rfl
@[simp] theorem State.onCal_weigh (f : Calibration → Calibration) (s : State) : (s.onCal f).weigh = s.weigh := rfl
@[simp] theorem State.onCal_cal (f : Calibration → Calibration) (s : State) : (s.onCal f).cal = f s.cal := rfl
@[simp] theorem State.onCal_trk (f : Calibration → Calibration) (s : State) : (s.onCal f).trk = s.trk := rfl
@[simp] theorem State.onCal_acc (f : Calibration → Calibration) (s : State) : (s.onCal f).acc = s.acc := rfl
@[simp] theorem State.onCal_rep (f : Calibration → Calibration) (s : State) : (s.onCal f).rep = s.rep := rfl
@[simp] theorem State.onCal_mgt (f : Calibration → Calibration) (s : State) : (s.onCal f).mgt = s.mgt := rfl
@[simp] theorem State.onCal_handed (f : Calibration → Calibration) (s : State) : (s.onCal f).handed = s.handed := rfl
@[simp] theorem State.onCal_pending (f : Calibration → Calibration) (s : State) : (s.onCal f).pending = s.pending := rfl

/-! ### onTrk -/

@[simp] theorem State.onTrk_link (f : Tracker → Tracker) (s : State) : (s.onTrk f).link = s.link := rfl
@[simp] theorem State.onTrk_sig (f : Tracker → Tracker) (s : State) : (s.onTrk f).sig = s.sig := rfl
@[simp] theorem State.onTrk_acq (f : Tracker → Tracker) (s : State) : (s.onTrk f).acq = s.acq := rfl
@[simp] theorem State.onTrk_time (f : Tracker → Tracker) (s : State) : (s.onTrk f).time = s.time := rfl
@[simp] theorem State.onTrk_weigh (f : Tracker → Tracker) (s : State) : (s.onTrk f).weigh = s.weigh := rfl
@[simp] theorem State.onTrk_cal (f : Tracker → Tracker) (s : State) : (s.onTrk f).cal = s.cal := rfl
@[simp] theorem State.onTrk_trk (f : Tracker → Tracker) (s : State) : (s.onTrk f).trk = f s.trk := rfl
@[simp] theorem State.onTrk_acc (f : Tracker → Tracker) (s : State) : (s.onTrk f).acc = s.acc := rfl
@[simp] theorem State.onTrk_rep (f : Tracker → Tracker) (s : State) : (s.onTrk f).rep = s.rep := rfl
@[simp] theorem State.onTrk_mgt (f : Tracker → Tracker) (s : State) : (s.onTrk f).mgt = s.mgt := rfl
@[simp] theorem State.onTrk_handed (f : Tracker → Tracker) (s : State) : (s.onTrk f).handed = s.handed := rfl
@[simp] theorem State.onTrk_pending (f : Tracker → Tracker) (s : State) : (s.onTrk f).pending = s.pending := rfl

/-! ### onAcc -/

@[simp] theorem State.onAcc_link (f : Accounts → Accounts) (s : State) : (s.onAcc f).link = s.link := rfl
@[simp] theorem State.onAcc_sig (f : Accounts → Accounts) (s : State) : (s.onAcc f).sig = s.sig := rfl
@[simp] theorem State.onAcc_acq (f : Accounts → Accounts) (s : State) : (s.onAcc f).acq = s.acq := rfl
@[simp] theorem State.onAcc_time (f : Accounts → Accounts) (s : State) : (s.onAcc f).time = s.time := rfl
@[simp] theorem State.onAcc_weigh (f : Accounts → Accounts) (s : State) : (s.onAcc f).weigh = s.weigh := rfl
@[simp] theorem State.onAcc_cal (f : Accounts → Accounts) (s : State) : (s.onAcc f).cal = s.cal := rfl
@[simp] theorem State.onAcc_trk (f : Accounts → Accounts) (s : State) : (s.onAcc f).trk = s.trk := rfl
@[simp] theorem State.onAcc_acc (f : Accounts → Accounts) (s : State) : (s.onAcc f).acc = f s.acc := rfl
@[simp] theorem State.onAcc_rep (f : Accounts → Accounts) (s : State) : (s.onAcc f).rep = s.rep := rfl
@[simp] theorem State.onAcc_mgt (f : Accounts → Accounts) (s : State) : (s.onAcc f).mgt = s.mgt := rfl
@[simp] theorem State.onAcc_handed (f : Accounts → Accounts) (s : State) : (s.onAcc f).handed = s.handed := rfl
@[simp] theorem State.onAcc_pending (f : Accounts → Accounts) (s : State) : (s.onAcc f).pending = s.pending := rfl

/-! ### onRep -/

@[simp] theorem State.onRep_link (f : Reports → Reports) (s : State) : (s.onRep f).link = s.link := rfl
@[simp] theorem State.onRep_sig (f : Reports → Reports) (s : State) : (s.onRep f).sig = s.sig := rfl
@[simp] theorem State.onRep_acq (f : Reports → Reports) (s : State) : (s.onRep f).acq = s.acq := rfl
@[simp] theorem State.onRep_time (f : Reports → Reports) (s : State) : (s.onRep f).time = s.time := rfl
@[simp] theorem State.onRep_weigh (f : Reports → Reports) (s : State) : (s.onRep f).weigh = s.weigh := rfl
@[simp] theorem State.onRep_cal (f : Reports → Reports) (s : State) : (s.onRep f).cal = s.cal := rfl
@[simp] theorem State.onRep_trk (f : Reports → Reports) (s : State) : (s.onRep f).trk = s.trk := rfl
@[simp] theorem State.onRep_acc (f : Reports → Reports) (s : State) : (s.onRep f).acc = s.acc := rfl
@[simp] theorem State.onRep_rep (f : Reports → Reports) (s : State) : (s.onRep f).rep = f s.rep := rfl
@[simp] theorem State.onRep_mgt (f : Reports → Reports) (s : State) : (s.onRep f).mgt = s.mgt := rfl
@[simp] theorem State.onRep_handed (f : Reports → Reports) (s : State) : (s.onRep f).handed = s.handed := rfl
@[simp] theorem State.onRep_pending (f : Reports → Reports) (s : State) : (s.onRep f).pending = s.pending := rfl

/-! ### onMgt -/

@[simp] theorem State.onMgt_link (f : Management → Management) (s : State) : (s.onMgt f).link = s.link := rfl
@[simp] theorem State.onMgt_sig (f : Management → Management) (s : State) : (s.onMgt f).sig = s.sig := rfl
@[simp] theorem State.onMgt_acq (f : Management → Management) (s : State) : (s.onMgt f).acq = s.acq := rfl
@[simp] theorem State.onMgt_time (f : Management → Management) (s : State) : (s.onMgt f).time = s.time := rfl
@[simp] theorem State.onMgt_weigh (f : Management → Management) (s : State) : (s.onMgt f).weigh = s.weigh := rfl
@[simp] theorem State.onMgt_cal (f : Management → Management) (s : State) : (s.onMgt f).cal = s.cal := rfl
@[simp] theorem State.onMgt_trk (f : Management → Management) (s : State) : (s.onMgt f).trk = s.trk := rfl
@[simp] theorem State.onMgt_acc (f : Management → Management) (s : State) : (s.onMgt f).acc = s.acc := rfl
@[simp] theorem State.onMgt_rep (f : Management → Management) (s : State) : (s.onMgt f).rep = s.rep := rfl
@[simp] theorem State.onMgt_mgt (f : Management → Management) (s : State) : (s.onMgt f).mgt = f s.mgt := rfl
@[simp] theorem State.onMgt_handed (f : Management → Management) (s : State) : (s.onMgt f).handed = s.handed := rfl
@[simp] theorem State.onMgt_pending (f : Management → Management) (s : State) : (s.onMgt f).pending = s.pending := rfl

/-! ### hand -/

@[simp] theorem State.hand_link (cs : List Instr) (s : State) : (s.hand cs).link = s.link := rfl
@[simp] theorem State.hand_sig (cs : List Instr) (s : State) : (s.hand cs).sig = s.sig := rfl
@[simp] theorem State.hand_acq (cs : List Instr) (s : State) : (s.hand cs).acq = s.acq := rfl
@[simp] theorem State.hand_time (cs : List Instr) (s : State) : (s.hand cs).time = s.time := rfl
@[simp] theorem State.hand_weigh (cs : List Instr) (s : State) : (s.hand cs).weigh = s.weigh := rfl
@[simp] theorem State.hand_cal (cs : List Instr) (s : State) : (s.hand cs).cal = s.cal := rfl
@[simp] theorem State.hand_trk (cs : List Instr) (s : State) : (s.hand cs).trk = s.trk := rfl
@[simp] theorem State.hand_acc (cs : List Instr) (s : State) : (s.hand cs).acc = s.acc := rfl
@[simp] theorem State.hand_rep (cs : List Instr) (s : State) : (s.hand cs).rep = s.rep := rfl
@[simp] theorem State.hand_mgt (cs : List Instr) (s : State) : (s.hand cs).mgt = s.mgt := rfl
@[simp] theorem State.hand_handed (cs : List Instr) (s : State) : (s.hand cs).handed = s.handed ++ cs := rfl
@[simp] theorem State.hand_pending (cs : List Instr) (s : State) : (s.hand cs).pending = s.pending := rfl

/-! ### take -/

@[simp] theorem State.take_link (c : Instr) (s : State) : (s.take c).link = s.link := rfl
@[simp] theorem State.take_sig (c : Instr) (s : State) : (s.take c).sig = s.sig := rfl
@[simp] theorem State.take_acq (c : Instr) (s : State) : (s.take c).acq = s.acq := rfl
@[simp] theorem State.take_time (c : Instr) (s : State) : (s.take c).time = s.time := rfl
@[simp] theorem State.take_weigh (c : Instr) (s : State) : (s.take c).weigh = s.weigh := rfl
@[simp] theorem State.take_cal (c : Instr) (s : State) : (s.take c).cal = s.cal := rfl
@[simp] theorem State.take_trk (c : Instr) (s : State) : (s.take c).trk = s.trk := rfl
@[simp] theorem State.take_acc (c : Instr) (s : State) : (s.take c).acc = s.acc := rfl
@[simp] theorem State.take_rep (c : Instr) (s : State) : (s.take c).rep = s.rep := rfl
@[simp] theorem State.take_mgt (c : Instr) (s : State) : (s.take c).mgt = s.mgt := rfl
@[simp] theorem State.take_handed (c : Instr) (s : State) : (s.take c).handed = s.handed.erase c := rfl
@[simp] theorem State.take_pending (c : Instr) (s : State) : (s.take c).pending = s.pending := rfl

/-! ### setFault: only the fault set and the requests change (R191) -/

@[simp] theorem State.setFault_link (x : FaultFlag) (s : State) : (s.setFault x).link = s.link := by
  unfold State.setFault; split <;> rfl
@[simp] theorem State.setFault_sig (x : FaultFlag) (s : State) : (s.setFault x).sig = s.sig := by
  unfold State.setFault; split <;> rfl
@[simp] theorem State.setFault_acq (x : FaultFlag) (s : State) : (s.setFault x).acq = s.acq := by
  unfold State.setFault; split <;> rfl
@[simp] theorem State.setFault_time (x : FaultFlag) (s : State) : (s.setFault x).time = s.time := by
  unfold State.setFault; split <;> rfl
@[simp] theorem State.setFault_weigh (x : FaultFlag) (s : State) : (s.setFault x).weigh = s.weigh := by
  unfold State.setFault; split <;> rfl
@[simp] theorem State.setFault_cal (x : FaultFlag) (s : State) : (s.setFault x).cal = s.cal := by
  unfold State.setFault; split <;> rfl
@[simp] theorem State.setFault_trk (x : FaultFlag) (s : State) : (s.setFault x).trk = s.trk := by
  unfold State.setFault; split <;> rfl
@[simp] theorem State.setFault_acc (x : FaultFlag) (s : State) : (s.setFault x).acc = s.acc := by
  unfold State.setFault; split <;> rfl
@[simp] theorem State.setFault_rep (x : FaultFlag) (s : State) : (s.setFault x).rep = s.rep := by
  unfold State.setFault; split <;> rfl
@[simp] theorem State.setFault_pending (x : FaultFlag) (s : State) : (s.setFault x).pending = s.pending := by
  unfold State.setFault; split <;> rfl

@[simp] theorem State.setFault_config (x : FaultFlag) (s : State) : (s.setFault x).mgt.config = s.mgt.config := by
  unfold State.setFault; split <;> rfl

@[simp] theorem State.setFault_inForce (x : FaultFlag) (s : State) : (s.setFault x).mgt.inForce = s.mgt.inForce := by
  unfold State.setFault; split <;> rfl

@[simp] theorem State.setFault_written (x : FaultFlag) (s : State) : (s.setFault x).mgt.written = s.mgt.written := by
  unfold State.setFault; split <;> rfl

end Sys2Proof.Machine
end

