-- ==== Sys2Proof/Laws/Frames.lean ====
section
/-!
SUPPORT. The frame of each shared operation: the blocks it can change, and that everything else, the queue of waiting
commands among it, stays. A proof cites the frame and does not unfold the operation.
-/

namespace Sys2Proof.Machine

/-! ### Faults and link queues -/

theorem State.setFault_frame (x : FaultFlag) (s : State) :
    s.setFault x = { s with mgt := (s.setFault x).mgt, handed := (s.setFault x).handed } := by
  unfold State.setFault; split <;> rfl

theorem State.offerRelay_frame (p : Port) (e : RelayEntry) (s : State) :
    s.offerRelay p e =
      { s with
        link := (s.offerRelay p e).link, mgt := (s.offerRelay p e).mgt, handed := (s.offerRelay p e).handed } := by
  unfold State.offerRelay
  dsimp only
  split
  · rfl
  · rw [State.setFault_frame]; rfl

/-! ### Signal table -/

theorem State.writeSlots_frame (ws : List SlotWrite) (s : State) :
    s.writeSlots ws = { s with sig := (s.writeSlots ws).sig, handed := (s.writeSlots ws).handed } := by
  unfold State.writeSlots; dsimp only; split <;> rfl

theorem State.raiseStale_frame (r : Role) (s : State) :
    s.raiseStale r = { s with mgt := (s.raiseStale r).mgt, handed := (s.raiseStale r).handed } := by
  cases r <;> simp only [State.raiseStale] <;> first | rfl | (rw [State.setFault_frame]; rfl)

theorem State.foldl_raiseStale_frame (rs : List Role) (s : State) :
    rs.foldl (fun s r => s.raiseStale r) s =
      { s with
        mgt := (rs.foldl (fun s r => s.raiseStale r) s).mgt
        handed := (rs.foldl (fun s r => s.raiseStale r) s).handed } := by
  induction rs generalizing s with
  | nil => rfl
  | cons r rs ih => simp only [List.foldl_cons]; rw [ih, State.raiseStale_frame]

/-- Only the SPEED slot takes the acceleration with it. -/
theorem State.dropAccel_other {i : Fin 32} {s : State} (h : s.sig.slotOf .speed ≠ some i) : s.dropAccel i = s := by
  simp only [State.dropAccel, State.onWeigh, if_neg h]

theorem State.dropAccel_frame (i : Fin 32) (s : State) :
    s.dropAccel i = { s with weigh := { s.weigh with accel := (s.dropAccel i).weigh.accel } } := rfl

theorem State.expireSlot_frame (i : Fin 32) (s : State) :
    s.expireSlot i =
      { s with
        sig := (s.expireSlot i).sig, weigh := (s.expireSlot i).weigh, mgt := (s.expireSlot i).mgt
        handed := (s.expireSlot i).handed } := by
  unfold State.expireSlot
  split
  · dsimp only
    split
    · rw [State.foldl_raiseStale_frame]; rfl
    · rfl
  · rfl

/-! ### Acquisition -/

theorem State.triggerQueue_frame (q : QueueId) (s : State) :
    s.triggerQueue q =
      { s with
        acq := (s.triggerQueue q).acq, mgt := (s.triggerQueue q).mgt, handed := (s.triggerQueue q).handed } := by
  unfold State.triggerQueue
  split <;> first | rfl | (rw [State.setFault_frame]; rfl)

theorem State.timerTrigger_frame (q : QueueId) (s : State) :
    s.timerTrigger q =
      { s with
        acq := (s.timerTrigger q).acq, mgt := (s.timerTrigger q).mgt, handed := (s.timerTrigger q).handed } := by
  unfold State.timerTrigger
  split
  · exact State.triggerQueue_frame q s
  · rfl

theorem State.referenceCheck_frame (ch : Option (Fin 11)) (raw : Int) (s : State) :
    s.referenceCheck ch raw =
      { s with mgt := (s.referenceCheck ch raw).mgt, handed := (s.referenceCheck ch raw).handed } := by
  unfold State.referenceCheck
  split
  · exact State.setFault_frame _ s
  · rfl

theorem State.writeDest_frame (d : Option (Fin 32)) (raw : Int) (w : Nat) (s : State) :
    s.writeDest d raw w = { s with sig := (s.writeDest d raw w).sig, handed := (s.writeDest d raw w).handed } := by
  unfold State.writeDest
  split
  · exact State.writeSlots_frame _ s
  · rfl

theorem State.completeConversion_frame (raw : BitVec 12) (s : State) :
    s.completeConversion raw =
      { s with
        acq := (s.completeConversion raw).acq, sig := (s.completeConversion raw).sig
        mgt := (s.completeConversion raw).mgt, handed := (s.completeConversion raw).handed } := by
  unfold State.completeConversion
  split
  · rfl
  · dsimp only
    split
    · rw [State.writeDest_frame, State.referenceCheck_frame]; rfl
    · rfl

/-! ### Time base -/

theorem State.expirePeriodic_frame (i : TimerId) (req : Instr) (s : State) :
    s.expirePeriodic i req =
      { s with time := (s.expirePeriodic i req).time, handed := (s.expirePeriodic i req).handed } := by
  unfold State.expirePeriodic; split <;> rfl

theorem State.expireOneShot_frame (i : TimerId) (req : Nat → Instr) (s : State) :
    s.expireOneShot i req =
      { s with time := (s.expireOneShot i req).time, handed := (s.expireOneShot i req).handed } := by
  unfold State.expireOneShot; split <;> rfl

theorem State.takeSecond_frame (s : State) :
    s.takeSecond = { s with time := s.takeSecond.time, handed := s.takeSecond.handed } := by
  unfold State.takeSecond
  split
  · dsimp only; split <;> rfl
  · rfl

/-! ### Weighing -/

theorem State.rejectWindow_frame (r : Reason) (s : State) :
    s.rejectWindow r = { s with weigh := (s.rejectWindow r).weigh, handed := (s.rejectWindow r).handed } := rfl

theorem State.windowSample_frame (theta : Int) (tag : TimeTag) (s : State) :
    s.windowSample theta tag =
      { s with weigh := (s.windowSample theta tag).weigh, handed := (s.windowSample theta tag).handed } := by
  unfold State.windowSample
  dsimp only
  split
  · rfl
  · split
    · rfl
    · split
      · rfl
      · split <;> rfl

theorem State.weighSample_frame (theta : Int) (tag : TimeTag) (s : State) :
    s.weighSample theta tag =
      { s with weigh := (s.weighSample theta tag).weigh, handed := (s.weighSample theta tag).handed } := by
  unfold State.weighSample
  dsimp only
  split
  · rfl
  · split
    · rfl
    · rw [State.windowSample_frame]; rfl
  · exact State.windowSample_frame theta tag s
  · split <;> rfl

theorem State.weighStale_frame (r : Role) (s : State) :
    s.weighStale r = { s with weigh := (s.weighStale r).weigh, handed := (s.weighStale r).handed } := by
  unfold State.weighStale; dsimp only; split <;> rfl

/-! ### Calibration -/

theorem State.changeRun_frame (run : RunState) (cause : CalCause) (s : State) :
    s.changeRun run cause = { s with cal := (s.changeRun run cause).cal, handed := (s.changeRun run cause).handed } :=
  rfl

theorem State.startRun_frame (k : CalKind) (key : Bool) (n m : Nat) (s : State) :
    s.startRun k key n m = { s with cal := (s.startRun k key n m).cal, handed := (s.startRun k key n m).handed } := rfl

theorem State.zeroKey_frame (s : State) :
    s.zeroKey = { s with cal := s.zeroKey.cal, handed := s.zeroKey.handed } := by
  unfold State.zeroKey; split <;> rfl

theorem State.decideRun_frame (s : State) :
    s.decideRun = { s with cal := s.decideRun.cal, handed := s.decideRun.handed } := by
  unfold State.decideRun; split <;> rfl

theorem State.endCollection_frame (r : LiftResult) (s : State) :
    s.endCollection r = { s with cal := (s.endCollection r).cal, handed := (s.endCollection r).handed } := by
  unfold State.endCollection
  dsimp only
  split
  · rw [State.decideRun_frame]; rfl
  · rfl

theorem State.takeCalLift_frame (r : LiftResult) (f : BinForces) (s : State) :
    s.takeCalLift r f = { s with cal := (s.takeCalLift r f).cal, handed := (s.takeCalLift r f).handed } := by
  unfold State.takeCalLift
  split
  · split
    · dsimp only
      split
      · rw [State.endCollection_frame]; rfl
      · rfl
    · rfl
  · rfl

theorem State.discardRun_frame (s : State) :
    s.discardRun = { s with cal := s.discardRun.cal, handed := s.discardRun.handed } := by
  unfold State.discardRun; split <;> rfl

theorem State.takeDeadline_frame (n : Nat) (s : State) :
    s.takeDeadline n =
      { s with cal := (s.takeDeadline n).cal, mgt := (s.takeDeadline n).mgt, handed := (s.takeDeadline n).handed } := by
  unfold State.takeDeadline
  split
  · dsimp only
    split
    · rw [State.changeRun_frame, State.setFault_frame]; rfl
    · rfl
  · rfl

theorem State.endRunByConfig_frame (s : State) :
    s.endRunByConfig = { s with cal := s.endRunByConfig.cal, handed := s.endRunByConfig.handed } := by
  unfold State.endRunByConfig; split <;> rfl

/-! ### Tracker -/

theorem State.completeCycle_frame (s : State) : s.completeCycle = { s with trk := s.completeCycle.trk } := by
  unfold State.completeCycle
  split
  · split <;> rfl
  · rfl

theorem State.returnToPile_frame (s : State) : s.returnToPile = { s with trk := s.returnToPile.trk } := by
  unfold State.returnToPile; split <;> rfl

theorem State.ageTest_frame (s : State) : s.ageTest = { s with trk := s.ageTest.trk } := by
  unfold State.ageTest
  split
  · split <;> rfl
  · rfl

theorem State.dumpBucket_frame (left : Phase) (s : State) :
    s.dumpBucket left = { s with trk := (s.dumpBucket left).trk, handed := (s.dumpBucket left).handed } := by
  unfold State.dumpBucket; dsimp only; split <;> rfl

theorem State.transitionActions_frame (left q : Phase) (s : State) :
    s.transitionActions left q =
      { s with trk := (s.transitionActions left q).trk, handed := (s.transitionActions left q).handed } := by
  cases q <;> cases left <;> simp only [State.transitionActions] <;>
    first
    | rfl
    | exact State.dumpBucket_frame _ s
    | (unfold State.startCycle; rw [State.completeCycle_frame]; rfl)
    | (unfold State.startCycle State.dropPending; rw [State.returnToPile_frame]; rfl)

theorem State.transition_frame (q : Phase) (s : State) :
    s.transition q = { s with trk := (s.transition q).trk, handed := (s.transition q).handed } := by
  unfold State.transition
  dsimp only
  rw [State.transitionActions_frame]; rfl

theorem State.settle_frame (n : Nat) (s : State) :
    State.settle n s = { s with trk := (State.settle n s).trk, handed := (State.settle n s).handed } := by
  induction n generalizing s with
  | zero => rfl
  | succ n ih =>
    simp only [State.settle]
    split
    · rfl
    · split
      · rw [ih, State.transition_frame]
      · split <;> rfl

theorem State.trackNotice_frame (n : Notice) (s : State) :
    s.trackNotice n = { s with trk := (s.trackNotice n).trk, handed := (s.trackNotice n).handed } := by
  unfold State.trackNotice
  split
  · dsimp only
    split
    · rw [State.settle_frame, State.ageTest_frame]
    · rw [State.ageTest_frame]
  · rfl

theorem State.takeDwellEnd_frame (n : Nat) (s : State) :
    s.takeDwellEnd n = { s with trk := (s.takeDwellEnd n).trk, handed := (s.takeDwellEnd n).handed } := by
  unfold State.takeDwellEnd
  split
  · dsimp only
    split
    · rw [State.settle_frame, State.transition_frame, State.ageTest_frame]; rfl
    · rw [State.ageTest_frame]; rfl
  · rfl

theorem State.takeLift_frame (r : LiftResult) (s : State) :
    s.takeLift r = { s with trk := (s.takeLift r).trk, handed := (s.takeLift r).handed } := by
  unfold State.takeLift
  split
  · dsimp only
    split <;> (rw [State.ageTest_frame]; rfl)
  · rfl

theorem State.takeReversal_frame (s : State) : s.takeReversal = { s with trk := s.takeReversal.trk } := by
  unfold State.takeReversal
  split
  · rw [State.ageTest_frame]; rfl
  · rfl

theorem State.closeTrackerShift_frame (n : Word16) (s : State) :
    s.closeTrackerShift n =
      { s with trk := (s.closeTrackerShift n).trk, handed := (s.closeTrackerShift n).handed } := by
  unfold State.closeTrackerShift; rw [State.ageTest_frame]; rfl

theorem State.resetTracker_frame (s : State) :
    s.resetTracker = { s with trk := s.resetTracker.trk, handed := s.resetTracker.handed } := rfl

/-! ### Accounting -/

theorem State.evalAhead_frame (s : State) : s.evalAhead = { s with acc := s.evalAhead.acc } := rfl

theorem State.openTarget_frame (i : Fin 4) (id c : Nat) (b : Bool) (s : State) :
    s.openTarget i id c b =
      { s with acc := (s.openTarget i id c b).acc, handed := (s.openTarget i id c b).handed } := by
  cases b <;> rfl

theorem State.selectTarget_frame (i : Fin 4) (s : State) :
    s.selectTarget i = { s with acc := (s.selectTarget i).acc, handed := (s.selectTarget i).handed } := by
  unfold State.selectTarget; split <;> rfl

theorem State.refuseOpen_frame (s : State) :
    s.refuseOpen = { s with acc := s.refuseOpen.acc, mgt := s.refuseOpen.mgt, handed := s.refuseOpen.handed } := by
  unfold State.refuseOpen; rw [State.setFault_frame]; rfl

theorem State.unallocated_frame (c : Credit) (s : State) :
    s.unallocated c =
      { s with
        acc := (s.unallocated c).acc, mgt := (s.unallocated c).mgt, handed := (s.unallocated c).handed } := by
  unfold State.unallocated; dsimp only; rw [State.setFault_frame]; rfl

theorem State.creditSlot_frame (i : Fin 4) (b : Bool) (c : Credit) (s : State) :
    s.creditSlot i b c = { s with acc := (s.creditSlot i b c).acc, handed := (s.creditSlot i b c).handed } := by
  cases b <;> rfl

theorem State.offerLoad_frame (r : LoadRecord) (s : State) :
    s.offerLoad r =
      { s with acc := (s.offerLoad r).acc, mgt := (s.offerLoad r).mgt, handed := (s.offerLoad r).handed } := by
  unfold State.offerLoad
  split
  · rfl
  · rw [State.setFault_frame]; rfl

theorem State.recordLoad_frame (i : Fin 4) (c : CloseCause) (s : State) :
    s.recordLoad i c =
      { s with acc := (s.recordLoad i c).acc, mgt := (s.recordLoad i c).mgt, handed := (s.recordLoad i c).handed } := by
  unfold State.recordLoad
  dsimp only
  split
  · rfl
  · rw [State.offerLoad_frame]; rfl

theorem State.closeSlot_frame (i : Fin 4) (c : CloseCause) (s : State) :
    s.closeSlot i c =
      { s with acc := (s.closeSlot i c).acc, mgt := (s.closeSlot i c).mgt, handed := (s.closeSlot i c).handed } := by
  unfold State.closeSlot
  dsimp only
  rw [State.recordLoad_frame]; rfl

theorem State.commitSlot_frame (s : State) (i : Fin 4) :
    s.commitSlot i = { s with acc := (s.commitSlot i).acc, handed := (s.commitSlot i).handed } := by
  unfold State.commitSlot
  dsimp only
  split
  · split <;> rfl
  · rfl

theorem State.commitAccounts_frame (s : State) :
    s.commitAccounts = { s with acc := s.commitAccounts.acc, handed := s.commitAccounts.handed } := by
  unfold State.commitAccounts
  simp only [allSlots, List.foldl_cons, List.foldl_nil]
  rw [State.evalAhead_frame, State.commitSlot_frame _ 3, State.commitSlot_frame _ 2, State.commitSlot_frame _ 1,
    State.commitSlot_frame _ 0]

/-! ### Reports -/

theorem State.joinReport_frame (p : Port) (o : OrigKind) (k : ReportKind) (d : List Byte) (s : State) :
    s.joinReport p o k d =
      { s with link := (s.joinReport p o k d).link, rep := (s.joinReport p o k d).rep } := rfl

theorem State.offerReport_frame (k : ReportKind) (d : List Byte) (s : State) (p : Port) :
    s.offerReport k d p =
      { s with
        link := (s.offerReport k d p).link, rep := (s.offerReport k d p).rep
        mgt := (s.offerReport k d p).mgt, handed := (s.offerReport k d p).handed } := by
  unfold State.offerReport
  split
  · rfl
  · rw [State.setFault_frame]

theorem State.sendReport_frame (k : ReportKind) (d : List Byte) (s : State) :
    s.sendReport k d =
      { s with
        link := (s.sendReport k d).link, rep := (s.sendReport k d).rep
        mgt := (s.sendReport k d).mgt, handed := (s.sendReport k d).handed } := by
  unfold State.sendReport
  generalize routePorts (s.rep.route k) = ps
  induction ps generalizing s with
  | nil => rfl
  | cons p ps ih => simp only [List.foldl_cons]; rw [ih, State.offerReport_frame]

theorem State.offerStatus_frame (fs : Vector (Option Int) 8) (s : State) (p : Port) :
    s.offerStatus fs p =
      { s with
        link := (s.offerStatus fs p).link, rep := (s.offerStatus fs p).rep
        mgt := (s.offerStatus fs p).mgt, handed := (s.offerStatus fs p).handed } := by
  unfold State.offerStatus
  dsimp only
  split
  · rfl
  · rw [State.setFault_frame]

theorem State.sendStatus_frame (s : State) :
    s.sendStatus =
      { s with
        link := s.sendStatus.link, rep := s.sendStatus.rep, mgt := s.sendStatus.mgt
        handed := s.sendStatus.handed } := by
  unfold State.sendStatus
  generalize routePorts (s.rep.route .status) = ps
  generalize s.statusFields = fs
  induction ps generalizing s with
  | nil => rfl
  | cons p ps ih => simp only [List.foldl_cons]; rw [ih, State.offerStatus_frame]

theorem State.raiseShift_frame (a : Assembly) (s : State) :
    s.raiseShift a =
      { s with
        link := (s.raiseShift a).link, rep := (s.raiseShift a).rep
        mgt := (s.raiseShift a).mgt, handed := (s.raiseShift a).handed } := by
  unfold State.raiseShift; rw [State.sendReport_frame]; rfl

theorem State.flushAssembly_frame (n : Word16) (s : State) :
    s.flushAssembly n =
      { s with
        link := (s.flushAssembly n).link, rep := (s.flushAssembly n).rep
        mgt := (s.flushAssembly n).mgt, handed := (s.flushAssembly n).handed } := by
  unfold State.flushAssembly
  split
  · split
    · rfl
    · exact State.raiseShift_frame _ s
  · rfl

theorem State.arriveShift_frame (n : Word16) (part : ShiftPart) (s : State) :
    s.arriveShift n part =
      { s with
        link := (s.arriveShift n part).link, rep := (s.arriveShift n part).rep
        mgt := (s.arriveShift n part).mgt, handed := (s.arriveShift n part).handed } := by
  unfold State.arriveShift
  split
  · rfl
  · dsimp only
    split
    · rw [State.raiseShift_frame, State.flushAssembly_frame]
    · rw [State.flushAssembly_frame]; rfl

theorem State.foldl_queueCopy_frame (r : LoadRecord) (ps : List Port) (s : State) :
    ps.foldl (State.queueCopy r) s =
      { s with
        link := (ps.foldl (State.queueCopy r) s).link, rep := (ps.foldl (State.queueCopy r) s).rep } := by
  induction ps generalizing s with
  | nil => rfl
  | cons p ps ih => simp only [List.foldl_cons]; rw [ih]; rfl

theorem State.drain_frame (s : State) :
    s.drain = { s with link := s.drain.link, rep := s.drain.rep, acc := s.drain.acc } := by
  unfold State.drain
  split
  · split
    · rfl
    · rw [State.foldl_queueCopy_frame]; rfl
  · rfl

theorem State.endCopy_frame (p : Port) (how : CopyState) (s : State) :
    s.endCopy p how =
      { s with
        rep := (s.endCopy p how).rep, acc := (s.endCopy p how).acc, handed := (s.endCopy p how).handed } := by
  unfold State.endCopy; dsimp only; split <;> rfl

theorem applyOverlay_frame (e : OverlayEntry) (x : State × List Byte) :
    (applyOverlay e x).1 =
      { x.1 with mgt := (applyOverlay e x).1.mgt, handed := (applyOverlay e x).1.handed } := by
  unfold applyOverlay
  split
  · exact State.setFault_frame _ _
  · split <;> rfl

theorem foldl_applyOverlay_frame (es : List OverlayEntry) (x : State × List Byte) :
    (es.foldl (fun x e => applyOverlay e x) x).1 =
      { x.1 with
        mgt := (es.foldl (fun x e => applyOverlay e x) x).1.mgt
        handed := (es.foldl (fun x e => applyOverlay e x) x).1.handed } := by
  induction es generalizing x with
  | nil => rfl
  | cons e es ih => simp only [List.foldl_cons]; rw [ih, applyOverlay_frame]

theorem overlayPage_frame (set : Nat) (frame : List Byte) (s : State) :
    (overlayPage set frame s).1 =
      { s with mgt := (overlayPage set frame s).1.mgt, handed := (overlayPage set frame s).1.handed } :=
  foldl_applyOverlay_frame _ _

/-! ### Matcher and link unit -/

theorem State.matchFrame_frame (p : Port) (frame : List Byte) (s : State) :
    (s.matchFrame p frame).1 =
      { s with
        sig := (s.matchFrame p frame).1.sig, mgt := (s.matchFrame p frame).1.mgt
        handed := (s.matchFrame p frame).1.handed } := by
  unfold State.matchFrame
  dsimp only
  split
  · split
    · rw [State.writeSlots_frame]; rfl
    · dsimp only; rw [overlayPage_frame, State.writeSlots_frame]; rfl
  · rw [State.writeSlots_frame]; rfl

theorem State.dispose_frame (p : Port) (frame : List Byte) (s : State) :
    s.dispose p frame =
      { s with
        link := (s.dispose p frame).link, sig := (s.dispose p frame).sig, mgt := (s.dispose p frame).mgt
        handed := (s.dispose p frame).handed } := by
  unfold State.dispose
  split
  · unfold State.divert; split <;> rfl
  · split
    · rw [State.offerRelay_frame]
    · split
      · dsimp only
        split
        · rw [State.matchFrame_frame]
        · rw [State.offerRelay_frame, State.matchFrame_frame]
      · rw [State.offerRelay_frame]

theorem State.accept_frame (p : Port) (c : ClosedFrame) (s : State) :
    s.accept p c =
      { s with
        link := (s.accept p c).link, sig := (s.accept p c).sig, mgt := (s.accept p c).mgt
        handed := (s.accept p c).handed } := by
  unfold State.accept
  split
  · dsimp only
    split
    · rw [State.dispose_frame]; rfl
    · rw [State.offerRelay_frame]; rfl
  · rfl

theorem State.flushCopy_frame (b : Bool) (p : Port) (s : State) :
    s.flushCopy b p =
      { s with
        rep := (s.flushCopy b p).rep, acc := (s.flushCopy b p).acc, handed := (s.flushCopy b p).handed } := by
  unfold State.flushCopy
  split
  · exact State.endCopy_frame _ _ _
  · rfl

theorem State.closeContacts_frame (s : State) :
    s.closeContacts =
      { s with
        link := s.link.close, rep := s.closeContacts.rep, acc := s.closeContacts.acc
        handed := s.closeContacts.handed } := by
  unfold State.closeContacts
  dsimp only
  rw [State.flushCopy_frame _ .dp, State.flushCopy_frame _ .mp]; rfl

theorem State.releaseTest_frame (s : State) :
    s.releaseTest =
      { s with
        link := s.releaseTest.link, rep := s.releaseTest.rep, acc := s.releaseTest.acc
        handed := s.releaseTest.handed } := by
  unfold State.releaseTest
  split
  · rw [State.closeContacts_frame]
  · rfl

theorem State.countHunt_frame (p : Port) (d : Bool) (s : State) :
    s.countHunt p d = { s with link := (s.countHunt p d).link } := by
  unfold State.countHunt; split <;> rfl

theorem State.acceptClosed_frame (p : Port) (c : Option ClosedFrame) (s : State) :
    s.acceptClosed p c =
      { s with
        link := (s.acceptClosed p c).link, sig := (s.acceptClosed p c).sig, mgt := (s.acceptClosed p c).mgt
        handed := (s.acceptClosed p c).handed } := by
  cases c with
  | some f => exact State.accept_frame p f s
  | none => rfl

theorem State.advance_frame (p : Port) (x : IngressStep) (run : Nat) (s : State) :
    s.advance p x run = { s with link := (s.advance p x run).link } := by
  unfold State.advance; rw [State.countHunt_frame]; rfl

theorem State.spaceTest_frame (c : Character) (s : State) :
    s.spaceTest c = { s with link := (s.spaceTest c).link } := by
  unfold State.spaceTest; split <;> rfl

theorem State.receive_frame (p : Port) (c : Character) (s : State) :
    s.receive p c =
      { s with
        link := (s.receive p c).link, sig := (s.receive p c).sig, rep := (s.receive p c).rep
        acc := (s.receive p c).acc, mgt := (s.receive p c).mgt, handed := (s.receive p c).handed } := by
  unfold State.receive
  dsimp only
  rw [State.releaseTest_frame, State.spaceTest_frame, State.acceptClosed_frame, State.advance_frame]

theorem State.goDown_frame (p : Port) (s : State) :
    s.goDown p =
      { s with
        link := (s.goDown p).link, rep := (s.goDown p).rep, acc := (s.goDown p).acc, mgt := (s.goDown p).mgt
        handed := (s.goDown p).handed } := by
  unfold State.goDown
  dsimp only
  split
  · rw [State.releaseTest_frame, State.setFault_frame]; rfl
  · rfl

theorem State.sentOriginate_frame (p : Port) (k : OrigKind) (s : State) :
    s.sentOriginate p k =
      { s with
        rep := (s.sentOriginate p k).rep, acc := (s.sentOriginate p k).acc
        handed := (s.sentOriginate p k).handed } := by
  unfold State.sentOriginate
  split
  · rw [State.endCopy_frame]; rfl
  · rfl

theorem State.signalSent_frame (p : Port) (k : Option OrigKind) (s : State) :
    s.signalSent p k =
      { s with
        rep := (s.signalSent p k).rep, acc := (s.signalSent p k).acc, handed := (s.signalSent p k).handed } := by
  cases k with
  | some k => exact State.sentOriginate_frame p k s
  | none => rfl

theorem State.completeTransmission_frame (p : Port) (s : State) :
    s.completeTransmission p =
      { s with
        link := (s.completeTransmission p).link, rep := (s.completeTransmission p).rep
        acc := (s.completeTransmission p).acc, handed := (s.completeTransmission p).handed } := by
  unfold State.completeTransmission
  split
  · rfl
  · split
    · rw [State.releaseTest_frame, State.signalSent_frame]; rfl
    · rfl

theorem State.expireLimit_frame (s : State) :
    s.expireLimit =
      { s with
        link := s.expireLimit.link, rep := s.expireLimit.rep, acc := s.expireLimit.acc
        handed := s.expireLimit.handed } := by
  unfold State.expireLimit
  split
  · rw [State.releaseTest_frame]; rfl
  · rfl

end Sys2Proof.Machine
end

