-- ==== Sys2Proof/Laws/Accounting.lean ====
section
/-!
SUPPORT. What the shared operations of load accounting do (08): each lemma says an operation once, in the words of
Safety.lean.
-/

namespace Sys2Proof.Machine

/-! ### Slots -/

theorem Accounts.slot_setSlot (a : Accounts) (i j : Fin 4) (f : TargetSlot → TargetSlot) :
    (a.setSlot i f).slot j = if j = i then f (a.slot i) else a.slot j := by
  simp only [Accounts.slot, Accounts.setSlot, Fin.getElem_fin, Vector.getElem_set]
  by_cases h : j = i
  · subst h; simp
  · have : ¬ i.val = j.val := fun h2 => h (Fin.ext h2.symm)
    simp [h, this]

theorem TargetSlot.held_iff (t : TargetSlot) : t.held = true ↔ t.state ≠ .free := by simp [TargetSlot.held]

/-- The search over the slots, by cases on the four answers. -/
theorem find_slot_iff (q : Fin 4 → Bool) (i : Fin 4) :
    allSlots.find? q = some i ↔ lowestSlot (fun j => q j = true) i := by
  have four : ∀ (b0 b1 b2 b3 : Bool) (i : Fin 4),
      List.find? (fun j : Fin 4 => match j with
        | 0 => b0
        | 1 => b1
        | 2 => b2
        | 3 => b3) allSlots = some i ↔
      lowestSlot (fun j : Fin 4 => (match j with
        | 0 => b0
        | 1 => b1
        | 2 => b2
        | 3 => b3) = true) i := by
    unfold lowestSlot
    decide
  have same : (fun j : Fin 4 => match j with
      | 0 => q 0
      | 1 => q 1
      | 2 => q 2
      | 3 => q 3) = q := by
    funext j
    match j with
    | 0 => rfl
    | 1 => rfl
    | 2 => rfl
    | 3 => rfl
  have h := four (q 0) (q 1) (q 2) (q 3) i
  rw [same] at h
  simp only [congrFun same] at h
  exact h

theorem find_slot_none (q : Fin 4 → Bool) : allSlots.find? q = none ↔ ∀ j, q j = false := by
  rw [List.find?_eq_none]
  constructor
  · intro h j
    simpa using h j (by revert j; decide)
  · intro h j _
    simp [h j]

theorem Accounts.lowestFree_iff (a : Accounts) (i : Fin 4) :
    a.lowestFree = some i ↔ lowestSlot (fun j => (a.slot j).state = .free) i := by
  unfold Accounts.lowestFree
  rw [find_slot_iff]
  simp [TargetSlot.held, lowestSlot]

theorem Accounts.lowestFree_none (a : Accounts) : a.lowestFree = none ↔ ∀ j, (a.slot j).state ≠ .free := by
  unfold Accounts.lowestFree
  rw [find_slot_none]
  simp [TargetSlot.held]

theorem Accounts.lowestHeld_iff (a : Accounts) (i : Fin 4) :
    a.lowestHeld = some i ↔ lowestSlot (fun j => (a.slot j).state ≠ .free) i := by
  unfold Accounts.lowestHeld
  rw [find_slot_iff]
  simp [TargetSlot.held, lowestSlot]

theorem Accounts.holder_iff (a : Accounts) (id : Nat) (i : Fin 4) :
    a.holder id = some i ↔ lowestSlot (fun j => (a.slot j).state ≠ .free ∧ (a.slot j).id = id) i := by
  unfold Accounts.holder
  rw [find_slot_iff]
  simp [TargetSlot.held, lowestSlot]

theorem Accounts.holder_none (a : Accounts) (id : Nat) :
    a.holder id = none ↔ ∀ j, ¬ ((a.slot j).state ≠ .free ∧ (a.slot j).id = id) := by
  unfold Accounts.holder
  rw [find_slot_none]
  simp [TargetSlot.held]

/-! ### Evaluating (R148, R150) -/

theorem TargetSlot.evaluate_evaluated (p : AccountRecord) (t : TargetSlot) : (t.evaluate p).Evaluated p := by
  by_cases h : t.capacity ≠ 0 ∧ t.atFull p = true
  all_goals
    have h2 := h
    simp only [TargetSlot.atFull, decide_eq_true_eq] at h2
  · constructor
    · simp only [TargetSlot.evaluate, if_pos h, true_iff]
      exact h2
    · simp [TargetSlot.evaluate, h]
    · simp [TargetSlot.evaluate, overFigure]
  · constructor
    · simp only [TargetSlot.evaluate, if_neg h]
      exact ⟨nofun, fun h => absurd h h2⟩
    · simp only [TargetSlot.evaluate, if_neg h]
      nofun
    · simp [TargetSlot.evaluate, overFigure]

theorem overloadAhead_iff (s : State) : overloadAhead s.acc (pendingPayload s.trk.pending) = true ↔ s.Ahead := by
  unfold overloadAhead State.Ahead pendingPayload
  cases hp : s.acc.pointer with
  | none => cases h : s.trk.pending <;> simp <;> split <;> simp_all
  | some i =>
    cases h : s.trk.pending with
    | none => simp
    | some r => by_cases hg : r.grade = .rejected <;> simp [hg, overFigure]

theorem State.evalAhead_fresh (s : State) : s.evalAhead.aheadFresh := by
  have h : s.evalAhead.Ahead ↔ s.Ahead := Iff.rfl
  unfold State.aheadFresh
  rw [h, ← overloadAhead_iff]
  rfl

/-- A credit's evaluation of overload-ahead is that of the pending lift, where the tracker holds one or the credit is
unweighed. -/
theorem State.payloadAtCredit_pending (c : Credit) (s : State) (h : s.trk.pending ≠ none ∨ c.grade = .unweighed) :
    s.payloadAtCredit c = pendingPayload s.trk.pending := by
  cases hp : s.trk.pending with
  | some r => simp [State.payloadAtCredit, hp]
  | none => simp [State.payloadAtCredit, hp, h.resolve_left (· hp), pendingPayload]

/-- With the credited lift alone pending, it is by the credit's payload (log 42). -/
theorem State.setAhead_atCredit (c : Credit) (i : Fin 4) (s : State) (pending : s.trk.pending = none)
    (weighed : c.grade ≠ .unweighed) (current : s.acc.pointer = some i) :
    (s.setAhead (s.payloadAtCredit c)).acc.overloadAhead = true ↔
      (s.acc.slot i).capacity ≠ 0 ∧ ((s.acc.slot i).capacity * (100 + s.acc.params.tolerance) : Int) <
        ((s.acc.slot i).accumulated + c.payload) * 100 := by
  simp [State.setAhead, State.onAcc, State.payloadAtCredit, pending, weighed, overloadAhead, current, overFigure]

/-! ### Opening, selecting, removing, closing -/

theorem State.openTarget_opens (i : Fin 4) (id capacity : Nat) (current : Bool) (s : State) :
    s.Opens i id capacity current (s.openTarget i id capacity current) := by
  have hslot : ∀ j, (s.openTarget i id capacity current).acc.slot j =
      (s.acc.openSlot i id capacity s.time.clockValue).slot j := by
    intro j
    cases current <;> rfl
  refine ⟨?_, ?_, ?_, ?_, ?_, ?_⟩
  · rw [hslot, Accounts.openSlot, Accounts.slot_setSlot, if_pos rfl]
  · intro j hj
    rw [hslot, Accounts.openSlot, Accounts.slot_setSlot, if_neg hj]
  · cases current <;> rfl
  · cases current
    · exact ⟨nofun, fun _ => rfl⟩
    · exact ⟨fun _ => State.evalAhead_fresh _, nofun⟩
  · cases current <;> rfl
  · cases current <;> rfl

theorem State.selectTarget_selects (i : Fin 4) (s : State) : s.Selects i (s.selectTarget i) := by
  constructor
  · intro h
    simp [State.selectTarget, h]
  · intro h
    simp only [State.selectTarget, h, if_false]
    exact ⟨State.evalAhead_fresh _, rfl⟩

theorem State.removeBucket_removes (i : Fin 4) (e : BucketEntry) (s : State) :
    s.Removes i e (s.removeBucket i e) := by
  have hslot : ∀ j, (s.removeBucket i e).acc.slot j =
      (s.acc.setSlot i fun t => (t.removeLast e).evaluate s.acc.params).slot j := fun _ => rfl
  refine ⟨⟨?_, ?_⟩, ?_, ⟨?_, ?_⟩, State.evalAhead_fresh _, ?_, rfl⟩
  · rw [hslot, Accounts.slot_setSlot, if_pos rfl]
    rfl
  · rw [hslot, Accounts.slot_setSlot, if_pos rfl]
    exact TargetSlot.evaluate_evaluated _ _
  · intro j hj
    rw [hslot, Accounts.slot_setSlot, if_neg hj]
  · intro h
    show giveBack s.acc.shift e s.acc.totals = _
    rw [giveBack, if_pos h]
    rfl
  · intro h
    show giveBack s.acc.shift e s.acc.totals = _
    rw [giveBack, if_neg h]
  · simp only [State.removeBucket, Accounts.stateReport, List.append_assoc, State.hand_handed]
    rfl

theorem LoadLog.takeSequence_built (log : LoadLog) : log.takeSequence = log.built := by
  unfold LoadLog.takeSequence LoadLog.built
  by_cases h : log.spent = true
  · simp [h]
    cases log
    simp_all
  · by_cases h2 : log.next = 4294967295
    · simp [h2]
      cases log
      simp_all
    · simp only [h, h2]
      simp
      cases log
      simp_all

theorem Accounts.freeSlot_slot (a : Accounts) (i j : Fin 4) :
    (a.freeSlot i).slot j = if j = i then TargetSlot.free else a.slot j := by
  have h : (a.freeSlot i).slot j = (a.setSlot i fun _ => TargetSlot.free).slot j := by
    unfold Accounts.freeSlot
    dsimp only
    split <;> rfl
  rw [h, Accounts.slot_setSlot]

theorem Accounts.freeSlot_pointer (a : Accounts) (i : Fin 4) :
    (a.pointer ≠ some i → (a.freeSlot i).pointer = a.pointer) ∧
    (a.pointer = some i → ∀ j, (a.freeSlot i).pointer = some j ↔
      lowestSlot (fun k => ((a.freeSlot i).slot k).state ≠ .free) j) := by
  constructor
  · intro h
    simp only [Accounts.freeSlot, if_neg h]
    rfl
  · intro h j
    have hp : (a.freeSlot i).pointer = (a.freeSlot i).lowestHeld := by
      simp only [Accounts.freeSlot, if_pos h]
      rfl
    rw [hp, Accounts.lowestHeld_iff]

/-- What a close does to the log, the totals, the fault flags and the outstanding requests (R158, step 1). -/
theorem State.recordLoad_cases (i : Fin 4) (cause : CloseCause) (s : State) :
    ((s.acc.slot i).buckets = 0 → s.recordLoad i cause = s) ∧
    ((s.acc.slot i).buckets ≠ 0 →
      (s.acc.log.records.length < 16 → s.acc.log.spent = false →
        s.recordLoad i cause =
          { s with
            acc := { s.acc with
              log := { s.acc.log.built with records := s.acc.log.records ++ [s.closingRecord i cause], missed := 0 }
              totals := { s.acc.totals with loads := satInc 4294967295 s.acc.totals.loads } }
            handed := s.handed ++ [.loadDrain] }) ∧
      (16 ≤ s.acc.log.records.length ∨ s.acc.log.spent = true →
        s.recordLoad i cause =
          { s.setFault .logMissed with
            acc := { s.acc with
              log := { s.acc.log.built with missed := satInc 7 s.acc.log.missed }
              totals := { s.acc.totals with loads := satInc 4294967295 s.acc.totals.loads } } })) := by
  have clamp : ∀ x : Int, clampS32 x = max (-2147483648) (min 2147483647 x) := by
    intro x
    unfold clampS32 clampInt
    split
    · omega
    · split <;> omega
  refine ⟨fun h => by simp [State.recordLoad, h], fun h => ⟨fun h1 h2 => ?_, fun h1 => ?_⟩⟩
  · have ha : s.acc.log.accepts = true := by simp [LoadLog.accepts, h1, h2]
    simp only [State.recordLoad, if_neg h, State.offerLoad, ha, if_true, LoadLog.takeSequence_built]
    simp only [TargetSlot.record, clamp]
    rfl
  · have ha : s.acc.log.accepts = false := by
      rcases h1 with h1 | h1
      · simp [LoadLog.accepts, Nat.not_lt.2 h1]
      · simp [LoadLog.accepts, h1]
    simp only [State.recordLoad, if_neg h, State.offerLoad, ha, Bool.false_eq_true, if_false,
      LoadLog.takeSequence_built]
    unfold State.setFault
    simp only [State.onAcc_mgt]
    by_cases hf : hasFault s.mgt.faults .logMissed = true <;> simp only [hf, if_true] <;> rfl

theorem State.closeSlot_closes (i : Fin 4) (cause : CloseCause) (s : State) :
    s.Closes i cause (s.closeSlot i cause) := by
  obtain ⟨h0, h1⟩ := State.recordLoad_cases i cause s
  have hroom : ¬ (s.acc.log.records.length < 16 ∧ s.acc.log.spent = false) →
      16 ≤ s.acc.log.records.length ∨ s.acc.log.spent = true := by
    cases s.acc.log.spent <;> simp
  have hframe : s.recordLoad i cause =
      { s with
        acc := { s.acc with log := (s.recordLoad i cause).acc.log, totals := (s.recordLoad i cause).acc.totals }
        mgt := (s.recordLoad i cause).mgt
        handed := (s.recordLoad i cause).handed } := by
    by_cases hb : (s.acc.slot i).buckets = 0
    · rw [h0 hb]
    · by_cases hr : s.acc.log.records.length < 16 ∧ s.acc.log.spent = false
      · rw [(h1 hb).1 hr.1 hr.2]
      · rw [(h1 hb).2 (hroom hr), State.setFault_frame]
  -- what a close adds to the record, on the state the record left
  generalize hu : s.recordLoad i cause = u at hframe h0 h1
  have hsl : u.acc.slots = s.acc.slots := by rw [hframe]
  have hp : u.acc.pointer = s.acc.pointer := by rw [hframe]
  have hslot : ∀ j, u.acc.slot j = s.acc.slot j := fun j => by simp only [Accounts.slot, hsl]
  have hclose : s.closeSlot i cause =
      State.evalAhead (State.hand
        (u.acc.report .closed i :: if u.acc.pointer = some i then [(u.acc.freeSlot i).selectedReport] else [])
        (u.onAcc fun a => a.freeSlot i)) := by
    rw [← hu]
    rfl
  have hreports : (u.acc.report .closed i :: if u.acc.pointer = some i then [(u.acc.freeSlot i).selectedReport] else []) =
      s.closeReports (s.closeSlot i cause) i := by
    have h2 : (s.closeSlot i cause).acc.selectedReport = (u.acc.freeSlot i).selectedReport := by
      rw [hclose]
      rfl
    simp only [State.closeReports, h2, Accounts.report, Accounts.figures, hslot, hp]
  have hhanded : (s.closeSlot i cause).handed = u.handed ++ s.closeReports (s.closeSlot i cause) i := by
    rw [← hreports, hclose]
    rfl
  have hfree : u.acc.freeSlot i = { u.acc with
      slots := (u.acc.freeSlot i).slots, pointer := (u.acc.freeSlot i).pointer } := by
    unfold Accounts.freeSlot
    dsimp only
    split <;> rfl
  have hacc : (s.closeSlot i cause).acc = { u.acc.freeSlot i with
      overloadAhead := (s.closeSlot i cause).acc.overloadAhead } := by
    rw [hclose]
    rfl
  have hlog : (s.closeSlot i cause).acc.log = u.acc.log := by rw [hacc, hfree]
  have htot : (s.closeSlot i cause).acc.totals = u.acc.totals := by rw [hacc, hfree]
  have hmgt : (s.closeSlot i cause).mgt = u.mgt := by
    rw [hclose]
    rfl
  have hj : ∀ j, (s.closeSlot i cause).acc.slot j = if j = i then TargetSlot.free else s.acc.slot j := by
    intro j
    rw [← hslot, ← Accounts.freeSlot_slot, hacc]
    rfl
  refine ⟨fun h => ?_, fun h => ?_, fun h h2 h3 => ?_, fun h h2 => ?_, ⟨?_, ?_⟩, ?_, ?_, ?_⟩
  · rw [hlog, htot, hmgt, h0 h]
    exact ⟨rfl, rfl, rfl, by rw [hhanded, h0 h]⟩
  · rw [htot]
    by_cases hr : s.acc.log.records.length < 16 ∧ s.acc.log.spent = false
    · rw [(h1 h).1 hr.1 hr.2]
    · rw [(h1 h).2 (hroom hr)]
  · rw [hlog, hmgt, hhanded, (h1 h).1 h2 h3]
    exact ⟨rfl, rfl, rfl⟩
  · rw [hlog, hmgt, hhanded, (h1 h).2 h2]
    exact ⟨rfl, rfl, rfl⟩
  · rw [hj, if_pos rfl]
  · intro j hij
    rw [hj, if_neg hij]
  · have hq : (s.closeSlot i cause).acc.pointer = (u.acc.freeSlot i).pointer := by rw [hacc]
    have hk : ∀ k, (s.closeSlot i cause).acc.slot k = (u.acc.freeSlot i).slot k := by
      intro k
      rw [hacc]
      rfl
    rw [hq, ← hp]
    simp only [hk]
    exact Accounts.freeSlot_pointer u.acc i
  · rw [hclose]
    exact State.evalAhead_fresh _
  · have h2 : s.closeSlot i cause = { u with
        acc := (s.closeSlot i cause).acc, handed := (s.closeSlot i cause).handed } := by
      rw [hclose]
      rfl
    have h3 : (s.closeSlot i cause).acc = { s.acc with
        slots := (s.closeSlot i cause).acc.slots, pointer := (s.closeSlot i cause).acc.pointer
        overloadAhead := (s.closeSlot i cause).acc.overloadAhead
        log := (s.closeSlot i cause).acc.log, totals := (s.closeSlot i cause).acc.totals } := by
      have hkeep : ∀ x y z, ({ u.acc with slots := x, pointer := y, overloadAhead := z } : Accounts) =
          { s.acc with slots := x, pointer := y, overloadAhead := z, log := u.acc.log, totals := u.acc.totals } := by
        intro x y z
        rw [hframe]
      rw [hlog, htot, ← hkeep, hacc, hfree]
    rw [← h3, hmgt]
    rw [hframe] at h2
    exact h2

end Sys2Proof.Machine
end

