-- ==== Sys2Proof/Laws/Link.lean ====
section
/-!
SUPPORT. The ingress sides and the relay states: what a character does at a side, and what the tests of R17, R21 and R22
make of a state. A proof cites these and does not unfold `ingressStep`, `State.spaceTest` or `State.releaseTest`.
-/

namespace Sys2Proof.Machine

/-! ### Ingress (R6 to R8) -/

theorem satInc_below {top n : Nat} (h : n < top) : satInc top n = n + 1 := if_pos h

theorem satInc_full {n : Nat} (h : 15 ≤ n) : satInc 16 n = 16 := by
  unfold satInc
  split <;> omega

theorem huntStep_takes {i : Ingress} {m : Bool} (h : i.hunts m) (c : Character) :
    i.Takes c (huntStep m (nextRun i.spaces c) c).mode (nextRun i.spaces c) := by
  cases c with
  | data b => exact .material m _ h (.inr (.inr ⟨b, rfl⟩))
  | start => exact .material m _ h (.inl rfl)
  | codingError => exact .material m _ h (.inr (.inl rfl))
  | endMark => exact .boundary m _ h (.inl rfl)
  | abort => exact .boundary m _ h (.inr rfl)
  | space =>
    by_cases k : 15 ≤ i.spaces
    · have e : nextRun i.spaces .space = 16 := satInc_full k
      rw [e]
      exact .sixteenth m h k
    · have e : nextRun i.spaces .space = i.spaces + 1 := satInc_below (by omega)
      have n : ¬ 16 ≤ i.spaces + 1 := by omega
      rw [e]
      simp only [huntStep, if_neg n]
      exact .earlier m h (by omega)

/-- The step of an ingress side is one that R6 to R8 allow. -/
theorem ingressStep_takes (i : Ingress) (c : Character) :
    i.Takes c (ingressStep i.mode (nextRun i.spaces c) c).mode (nextRun i.spaces c) := by
  rcases h : i.mode with _ | m | _ | f
  · exact huntStep_takes (.inr ⟨h, rfl⟩) c
  · exact huntStep_takes (.inl h) c
  · cases c with
    | data b => exact .loses _ h (.inr ⟨b, rfl⟩)
    | start => exact .opens h
    | codingError => exact .loses _ h (.inl rfl)
    | endMark => exact .discards _ h (.inl rfl)
    | abort => exact .discards _ h (.inr rfl)
    | space => exact .idles h
  · cases c with
    | data b => exact .byte f b h
    | start => exact .closes f .start h nofun
    | codingError => exact .closes f .codingError h nofun
    | endMark => exact .closes f .endMark h nofun
    | abort => exact .closes f .abort h nofun
    | space => exact .closes f .space h nofun

theorem Ingress.hunts.step {i : Ingress} {m : Bool} (h : i.hunts m) (n : Nat) (c : Character) :
    ingressStep i.mode n c = huntStep m n c := by
  rcases h with h | ⟨h, rfl⟩ <;> rw [h] <;> rfl

/-- R6 to R8 allow no other step. -/
theorem Ingress.Takes.step {i : Ingress} {c : Character} {mode : IngressMode} {run : Nat} (h : i.Takes c mode run) :
    mode = (ingressStep i.mode (nextRun i.spaces c) c).mode ∧ run = nextRun i.spaces c := by
  cases h with
  | boundary m _ h hc => rw [h.step]; rcases hc with rfl | rfl <;> exact ⟨rfl, rfl⟩
  | sixteenth m h k => rw [h.step]; simp [huntStep, nextRun, satInc_full k]
  | earlier m h k =>
    have n : ¬ 16 ≤ i.spaces + 1 := by omega
    rw [h.step]
    simp [huntStep, nextRun, satInc_below (show i.spaces < 16 by omega), n]
  | material m _ h hc => rw [h.step]; rcases hc with rfl | rfl | ⟨b, rfl⟩ <;> exact ⟨rfl, rfl⟩
  | opens h => rw [h]; exact ⟨rfl, rfl⟩
  | idles h => rw [h]; exact ⟨rfl, rfl⟩
  | discards _ h hc => rw [h]; rcases hc with rfl | rfl <;> exact ⟨rfl, rfl⟩
  | loses _ h hc => rw [h]; rcases hc with rfl | ⟨b, rfl⟩ <;> exact ⟨rfl, rfl⟩
  | byte f b h => rw [h]; exact ⟨rfl, rfl⟩
  | closes f c h hc =>
    rw [h]
    cases c with
    | data b => exact absurd rfl (hc b)
    | start => exact ⟨rfl, rfl⟩
    | codingError => exact ⟨rfl, rfl⟩
    | endMark => exact ⟨rfl, rfl⟩
    | abort => exact ⟨rfl, rfl⟩
    | space => exact ⟨rfl, rfl⟩

/-- Only a frame in progress is closed, and not by a data character. -/
theorem ingressStep_closed {m : IngressMode} {c : Character} (n : Nat)
    (h : ∀ f, m = .aligned (some f) → ∃ b, c = .data b) : (ingressStep m n c).closed = none := by
  rcases m with _ | m | _ | f
  · cases c <;> simp [ingressStep, huntStep]
    split <;> rfl
  · cases c <;> simp [ingressStep, huntStep]
    split <;> rfl
  · cases c <;> rfl
  · obtain ⟨b, rfl⟩ := h f rfl
    rfl

/-- A hunt over material that finds its boundary, and nothing else, counts a discard (R7). -/
theorem ingressStep_discard (m : IngressMode) (n : Nat) (c : Character) :
    (ingressStep m n c).discard = true ↔ m = .hunt true ∧ (ingressStep m n c).mode = .aligned none := by
  rcases m with _ | m | _ | f
  · cases c <;> simp [ingressStep, huntStep]
    split <;> simp
  · cases c <;> simp [ingressStep, huntStep]
    split <;> simp
  · cases c <;> simp [ingressStep, betweenStep]
  · cases c <;> simp [ingressStep, frameStep]

/-! ### The relay states (R17, R21, R22) -/

theorem State.releaseTest_not_release {s : State} (h : s.link.relay ≠ .release) : s.releaseTest = s :=
  if_neg fun k => h k.1

theorem State.releaseTest_waits {s : State} (h : s.drained = false) (hl : s.link.limit ≠ .expired) : s.releaseTest = s :=
  if_neg fun k => k.2.elim (fun d => by simp [h] at d) fun d => hl d.1

theorem Link.takeoverTest_not_takeover {l : Link} (h : l.relay ≠ .takeover) : l.takeoverTest = l := if_neg fun k => h k.1

theorem Link.quiet_iff (l : Link) : l.quiet ↔ l.ingress.mp.quiet = true ∧ l.ingress.dp.quiet = true := by
  unfold Link.quiet Ingress.quiet
  simp only [Bool.or_eq_true, decide_eq_true_eq, beq_iff_eq]
  exact ⟨fun h => ⟨h .mp, h .dp⟩, fun h p => match p with | .mp => h.1 | .dp => h.2⟩

theorem Link.takeoverTest_quiet {l : Link} (h : l.relay = .takeover) (hq : l.quiet) : l.takeoverTest = l.opened :=
  if_pos ⟨h, l.quiet_iff.1 hq⟩

theorem Link.takeoverTest_waits {l : Link} (hq : ¬ l.quiet) : l.takeoverTest = l := if_neg fun k => hq (l.quiet_iff.2 k.2)

/-- The two tests after a character; only a SPACE can make a side quiet. -/
theorem State.settles (c : Character) (s : State) (h : c ≠ .space → ¬ s.link.quiet) :
    s.SettlesTo (s.spaceTest c).releaseTest := by
  have off : s.link.relay ≠ .takeover → s.spaceTest c = s := fun n => by
    unfold State.spaceTest State.onLink
    rw [Link.takeoverTest_not_takeover n]
    exact ite_self _
  refine ⟨fun t q => ?_, fun t q => ?_, fun t => ?_, fun t => ?_⟩
  · have e : c = .space := Classical.byContradiction fun n => h n q
    unfold State.spaceTest State.onLink
    rw [if_pos e, Link.takeoverTest_quiet t q]
    exact State.releaseTest_not_release nofun
  · have e : s.spaceTest c = s := by
      unfold State.spaceTest State.onLink
      rw [Link.takeoverTest_waits q]
      exact ite_self _
    rw [e]
    exact State.releaseTest_not_release (by rw [t]; nofun)
  · rw [off (by rw [t]; nofun)]
    exact State.releaseTest_not_release (by rw [t]; nofun)
  · rw [off fun k => by rw [k] at t; cases t]

end Sys2Proof.Machine
end

