-- ==== Sys2Proof/Laws/Management.lean ====
section
/-!
SUPPORT. The taking of a management request (R186): what `State.serve` does in each of its five cases; and which handed
requests an ENTER_CONFIG or a SOFT_RESET leaves.
-/

namespace Sys2Proof.Machine

/-- Outside RELAY and RELEASE a request has no effect (log 10). -/
theorem State.serve_cut_off {s : State} {g : Group} {need : Nat} {req : Request} {body : State → Answer}
    (h : carries s.link.relay = false) : State.serve g need req body s = s := by
  simp [State.serve, State.whenTaken, h]

/-- With a response waiting at its port a request is dropped as busy. -/
theorem State.serve_busy {s : State} {g : Group} {need : Nat} {req : Request} {body : State → Answer}
    (h : carries s.link.relay = true) (hr : holdsResponse (s.link.origQ.get req.port) = true) :
    State.serve g need req body s = s.busyDrop req.port := by
  simp [State.serve, State.whenTaken, h, hr]

/-- With its group not in force a request is denied. -/
theorem State.serve_denied {s : State} {g : Group} {need : Nat} {req : Request} {body : State → Answer}
    (h : s.canTake req) (hg : hasGroup (s.mgt.inForce.get req.port) g = false) :
    State.serve g need req body s = s.respond req .denied [] := by
  simp [State.serve, State.whenTaken, State.checked, refuse, h.1, h.2, hg]

/-- With less data than it needs a request is answered BAD_VALUE. -/
theorem State.serve_short {s : State} {g : Group} {need : Nat} {req : Request} {body : State → Answer}
    (h : s.admits g req) (hn : req.data.length < need) :
    State.serve g need req body s = s.respond req .badValue [] := by
  simp [State.serve, State.whenTaken, State.checked, refuse, h.1.1, h.1.2, h.2, hn]

/-- Otherwise the owning block answers. -/
theorem State.serve_answers {s : State} {g : Group} {need : Nat} {req : Request} {body : State → Answer}
    (h : s.admits g req) (hn : need ≤ req.data.length) :
    State.serve g need req body s = (body s).state.respond req (body s).status (body s).data := by
  simp [State.serve, State.whenTaken, State.checked, h.1.1, h.1.2, h.2, Nat.not_lt.2 hn]

/-- A refusal adds its response and nothing else. -/
theorem State.answers_take (c : Instr) (req : Request) (status : Status) (data : List Byte) (s : State) :
    (s.take c).respond req status data = s.answers c req status data := rfl

/-! ### The requests that end with a RUN (log 44) -/

theorem not_endsWithRun (c : Instr) : (!endsWithRun c) = outlivesRun c := by cases c <;> rfl

/-- ENTER_CONFIG leaves the requests that outlive a RUN, those that it hands on among them. -/
theorem State.takeEnterConfig_handed (s : State) :
    s.takeEnterConfig.handed = s.endRunByConfig.resetTracker.handed.filter outlivesRun :=
  congrArg (List.filter · _) (funext not_endsWithRun)

/-- SOFT_RESET leaves those of them that are no request for TD or TC. -/
theorem State.takeSoftReset_handed (s : State) :
    s.takeSoftReset.handed =
      s.endRunByConfig.resetTracker.handed.filter fun c => !dwellOrDeadline c && outlivesRun c := by
  simp only [← not_endsWithRun]
  rfl

end Sys2Proof.Machine
end

