-- ==== Sys2Proof/Laws/Reports.lean ====
section
/-!
SUPPORT. What the report engine's shared operations do (09): offering a report to the ports of a route, one after the
other.
-/

namespace Sys2Proof.Machine

theorem kindCode_codeOfKind (k : ReportKind) : kindCode k = codeOfKind k := by cases k <;> rfl

theorem State.hasRoom_iff (s : State) (p : Port) : s.link.hasRoom p = true ↔ s.roomFor p := by
  simp [Link.hasRoom, State.roomFor]

theorem State.routes_iff (s : State) (k : ReportKind) (p : Port) :
    p ∈ routePorts (s.rep.route k) ↔ s.routes k p := by
  unfold State.routes
  cases s.rep.route k <;> cases p <;> simp [routePorts]

theorem State.hasFault_setFault (x : FaultFlag) (s : State) : hasFault (s.setFault x).mgt.faults x = true := by
  have h : ∀ (set : FaultSet), hasFault (addFault set x) x = true := by
    intro set
    have hx : faultIndex x < 13 := by cases x <;> decide
    simp [hasFault, addFault, hx]
  unfold State.setFault
  split
  · assumption
  · exact h _

theorem State.setFault_twice (x : FaultFlag) (s : State) : (s.setFault x).setFault x = s.setFault x := by
  have h := State.hasFault_setFault x s
  rw [State.setFault, if_pos h]

/-- A report joins a port: its queue, its tag, and nothing of the other port. -/
theorem State.joinReport_eq (p : Port) (kind : OrigKind) (k : ReportKind) (contents : List Byte) (s : State) :
    s.joinReport p kind k contents =
      { s with
        link := { s.link with origQ := s.link.origQ.set p (s.link.origQ.get p ++ [⟨kind, s.reportFrame p k contents⟩]) }
        rep := { s.rep with tags := s.rep.tags.set p (s.rep.tags.get p + 1) } } := rfl

/-- A report is offered to one port. -/
theorem State.offerReport_cases (k : ReportKind) (contents : List Byte) (s : State) (p : Port) :
    (s.roomFor p → s.offerReport k contents p =
      { s with
        link := { s.link with origQ := s.link.origQ.set p (s.link.origQ.get p ++
          [⟨.report, buildFrame 0xF2 (s.rep.nodes.get p) s.link.node (s.rep.tags.get p)
            (u8 (codeOfKind k) ++ contents)⟩]) }
        rep := { s.rep with tags := s.rep.tags.set p (s.rep.tags.get p + 1) } }) ∧
    (¬ s.roomFor p → s.offerReport k contents p = s.setFault .reportDrop) := by
  constructor
  · intro h
    rw [← State.hasRoom_iff] at h
    simp only [State.offerReport, h, if_true, State.joinReport_eq, State.reportFrame, kindCode_codeOfKind]
  · intro h
    rw [← State.hasRoom_iff] at h
    simp only [State.offerReport, if_neg h]

/-- R174: the ports a route names are offered the report one after the other. -/
theorem State.sendReport_sent (k : ReportKind) (contents : List Byte) (s : State) :
    s.Sent k (fun _ => contents) (s.sendReport k contents) ∧
    s.sendReport k contents =
      { s with
        link := { s.link with origQ := (s.sendReport k contents).link.origQ }
        rep := { s.rep with tags := (s.sendReport k contents).rep.tags }
        mgt := (s.sendReport k contents).mgt
        handed := (s.sendReport k contents).handed } := by
  have hframe : ∀ (u : State) p, u.offerReport k contents p =
      { u with
        link := { u.link with origQ := (u.offerReport k contents p).link.origQ }
        rep := { u.rep with tags := (u.offerReport k contents p).rep.tags }
        mgt := (u.offerReport k contents p).mgt
        handed := (u.offerReport k contents p).handed } := by
    intro u p
    by_cases h : u.roomFor p
    · rw [(State.offerReport_cases k contents u p).1 h]
    · rw [(State.offerReport_cases k contents u p).2 h, State.setFault_frame]
  have one : ∀ (u : State) p, (∀ q, u.routes k q ↔ q = p) →
      u.Sent k (fun _ => contents) (u.offerReport k contents p) := by
    intro u p hp
    by_cases h : u.roomFor p
    · rw [(State.offerReport_cases k contents u p).1 h]
      refine ⟨fun q => ⟨fun h1 h2 => ?_, fun h1 => ?_⟩, ?_, fun _ => ⟨rfl, rfl⟩⟩
      · obtain rfl := (hp q).1 h1
        exact ⟨PerPort.get_set_same _ _ _, PerPort.get_set_same _ _ _⟩
      · have hq : q ≠ p := fun hq => h1 ⟨(hp q).2 hq, hq ▸ h⟩
        simp [PerPort.get_set, hq]
      · rintro ⟨q, hq, hr⟩
        exact absurd ((hp q).1 hq ▸ h) hr
    · rw [(State.offerReport_cases k contents u p).2 h]
      refine ⟨fun q => ⟨fun h1 h2 => absurd ((hp q).1 h1 ▸ h2) h, fun _ => by simp⟩, fun _ => ⟨rfl, rfl⟩, fun h1 =>
        absurd (h1 p ((hp p).2 rfl)) h⟩
  cases hk : s.rep.route k with
  | off =>
    have hs : s.sendReport k contents = s := by simp [State.sendReport, hk, routePorts]
    have hr : ∀ p, ¬ s.routes k p := by
      intro p
      rw [← State.routes_iff, hk]
      simp [routePorts]
    rw [hs]
    exact ⟨⟨fun p => ⟨fun h => absurd h (hr p), fun _ => ⟨rfl, rfl⟩⟩, fun ⟨p, h, _⟩ => absurd h (hr p),
      fun _ => ⟨rfl, rfl⟩⟩, rfl⟩
  | mp =>
    have hs : s.sendReport k contents = s.offerReport k contents .mp := by simp [State.sendReport, hk, routePorts]
    rw [hs]
    refine ⟨one s .mp fun q => ?_, hframe s .mp⟩
    rw [← State.routes_iff, hk]
    simp [routePorts]
  | dp =>
    have hs : s.sendReport k contents = s.offerReport k contents .dp := by simp [State.sendReport, hk, routePorts]
    rw [hs]
    refine ⟨one s .dp fun q => ?_, hframe s .dp⟩
    rw [← State.routes_iff, hk]
    simp [routePorts]
  | both =>
    have hs : s.sendReport k contents = (s.offerReport k contents .mp).offerReport k contents .dp := by
      simp [State.sendReport, hk, routePorts]
    have hr : ∀ p, s.routes k p := by
      intro p
      rw [← State.routes_iff, hk]
      cases p <;> simp [routePorts]
    refine ⟨?_, by rw [hs, hframe _ .dp, hframe s .mp]⟩
    have hroom : (s.offerReport k contents .mp).roomFor .dp ↔ s.roomFor .dp := by
      by_cases hm : s.roomFor .mp
      · rw [(State.offerReport_cases k contents s .mp).1 hm]
        rfl
      · rw [(State.offerReport_cases k contents s .mp).2 hm]
        simp [State.roomFor]
    rw [hs]
    by_cases hm : s.roomFor .mp <;> by_cases hd : s.roomFor .dp
    · rw [(State.offerReport_cases k contents _ .dp).1 (hroom.2 hd), (State.offerReport_cases k contents s .mp).1 hm]
      refine ⟨fun p => ⟨fun _ _ => ?_, fun h => absurd ⟨hr p, ?_⟩ h⟩, fun ⟨p, _, h⟩ => absurd ?_ h, fun _ => ⟨rfl, rfl⟩⟩
      · cases p <;> exact ⟨rfl, rfl⟩
      all_goals cases p <;> assumption
    · rw [(State.offerReport_cases k contents _ .dp).2 (mt hroom.1 hd), (State.offerReport_cases k contents s .mp).1 hm]
      refine ⟨fun p => ⟨fun _ h => ?_, fun h => ?_⟩, fun _ => ?_, fun h => absurd (h .dp (hr _)) hd⟩
      · cases p
        · simp [PerPort.set, PerPort.get]
        · exact absurd h hd
      · cases p
        · exact absurd ⟨hr _, hm⟩ h
        · simp [PerPort.set, PerPort.get]
      · unfold State.setFault
        dsimp only
        split <;> exact ⟨rfl, rfl⟩
    · rw [(State.offerReport_cases k contents _ .dp).1 (hroom.2 hd), (State.offerReport_cases k contents s .mp).2 hm]
      refine ⟨fun p => ⟨fun _ h => ?_, fun h => ?_⟩, fun _ => ⟨rfl, rfl⟩, fun h => absurd (h .mp (hr _)) hm⟩
      · cases p
        · exact absurd h hm
        · simp [PerPort.set, PerPort.get]
      · cases p
        · simp [PerPort.set, PerPort.get]
        · exact absurd ⟨hr _, hd⟩ h
    · rw [(State.offerReport_cases k contents _ .dp).2 (mt hroom.1 hd), (State.offerReport_cases k contents s .mp).2 hm,
        State.setFault_twice]
      refine ⟨fun p => ⟨fun _ h => ?_, fun _ => by simp⟩, fun _ => ⟨rfl, rfl⟩, fun h => absurd (h .mp (hr _)) hm⟩
      cases p
      · exact absurd h hm
      · exact absurd h hd

end Sys2Proof.Machine
end

