-- ==== Sys2Proof/Laws/Weighing.lean ====
section
/-!
SUPPORT. The payload field of a lift result (R105): what `inField` and `correctPitch` can answer. A proof cites these and
does not unfold them.
-/

namespace Sys2Proof.Machine

theorem clampS32_eq_iff (x : Int) : clampS32 x = x ↔ -2147483648 ≤ x ∧ x ≤ 2147483647 := by
  unfold clampS32 clampInt
  omega

/-- A figure that fits its field is held as it is. -/
theorem inField_fits {x : Int} (h : -2147483648 ≤ x ∧ x ≤ 2147483647) : inField x = x := if_pos ((clampS32_eq_iff x).2 h)

/-- Whatever the figure, the field holds one of its 32-bit values. -/
theorem inField_range (x : Int) : -2147483648 ≤ inField x ∧ inField x ≤ 2147483647 := by
  unfold inField
  split
  · rename_i h
    exact (clampS32_eq_iff x).1 h
  · have := BitVec.le_toInt (Config.beyondField x)
    have := BitVec.toInt_lt (x := Config.beyondField x)
    omega

theorem correctPitch_range (coeff : Nat) (u m : Int) :
    -2147483648 ≤ correctPitch coeff u m ∧ correctPitch coeff u m ≤ 2147483647 := inField_range _

end Sys2Proof.Machine
end

