-- ==== Sys2Proof/Tests/Slice0.lean ====
section
/-!
SUPPORT. Tests. First the checks of WellFormed.lean, each refusing an ill-formed term; then commands on the spec's worked
examples; then, for each statement of Obligations.lean that has hypotheses, states and operands that meet them.
-/

namespace Sys2Proof.Tests

open Sys2Proof Sys2Proof.Machine

/-! ### Small terms -/

/-- A request of a code with its data, from node 3 over MP. -/
def ask (code : Byte) (data : List Byte) : Request := ⟨.mp, 3, 7, code, data⟩

/-- A GOOD lift result. -/
def lift : LiftResult :=
  { sequence := 212, tag := 5, payload := some 8238, grade := .good, reasons := 0, samples := 40, binsCovered := 16
    spread := some 120, rate := some 800, meanPitch := some 250, calFlag := false }

/-- A flagged result of 37 kg. -/
def flagged : LiftResult := { lift with payload := some 37, calFlag := true }

/-- A result lost for want of a signal. -/
def lost : LiftResult :=
  { lift with payload := none, grade := .rejected, reasons := 0b01000000000, spread := none, rate := none, meanPitch := none }

/-- A weighed and an unweighed credit. -/
def weighed : Credit := ⟨some 212, 8100, .good, 9⟩

def unweighed : Credit := ⟨none, 0, .unweighed, 9⟩

def entry : BucketEntry := ⟨some 212, 7900, .good, 4, 0⟩

def creditReport : BucketReport := ⟨some 0, entry, 104100, 13, .opened, false⟩

def slotFigures : TargetFigures := ⟨some 2, .opened, 194, 42500, 12100, 2, false, true⟩

def runReport : CalReport := ⟨.review, .collected, .empty, false, 8, 255, false, true⟩

/-! ### The checks of WellFormed.lean -/

theorem test_wellFormed_samples :
    (Instr.weighSample 2147483647 0).wellFormed = true ∧ (Instr.weighSample 2147483648 0).wellFormed = false ∧
    (Instr.speedSample (-2147483648) 0).wellFormed = true ∧ (Instr.speedSample (-2147483649) 0).wellFormed = false := by
  decide

theorem test_wellFormed_notices :
    (Instr.weighStaleNotice .rodP).wellFormed = true ∧ (Instr.weighStaleNotice .speed).wellFormed = false ∧
    (Instr.candidateEvaluation (.written .park 1 0)).wellFormed = true ∧
    (Instr.candidateEvaluation (.written .rodP 1 0)).wellFormed = false ∧
    (Instr.candidateEvaluation (.written .boom 2147483648 0)).wellFormed = false ∧
    (Instr.candidateEvaluation (.stale .rodP)).wellFormed = true ∧
    (Instr.candidateEvaluation (.stale .speed)).wellFormed = false := by decide

theorem test_wellFormed_results :
    (Instr.pendingLift lift).wellFormed = true ∧ (Instr.pendingLift lost).wellFormed = true ∧
    (Instr.pendingLift { lift with payload := none }).wellFormed = false ∧
    (Instr.pendingLift { lift with reasons := 1 }).wellFormed = false ∧
    (Instr.pendingLift { lost with reasons := 0 }).wellFormed = false ∧
    (Instr.pendingLift { lift with samples := 65536 }).wellFormed = false ∧
    (Instr.pendingLift { lift with binsCovered := 17 }).wellFormed = false ∧
    (Instr.pendingLift { lift with payload := some 2147483648 }).wellFormed = false ∧
    (Instr.pendingLift { lift with spread := some (-1) }).wellFormed = false ∧
    (Instr.pendingLift { lift with rate := some 65536 }).wellFormed = false ∧
    (Instr.pendingLift { lift with meanPitch := some 2147483648 }).wellFormed = false := by decide

theorem test_wellFormed_calFlag :
    (Instr.pendingLift flagged).wellFormed = false ∧
    (Instr.calLift flagged (Vector.replicate 16 none)).wellFormed = true ∧
    (Instr.calLift lift (Vector.replicate 16 none)).wellFormed = false ∧
    (Instr.liftResultReport flagged).wellFormed = true ∧
    (Instr.liftResultReport { lift with reasons := 1 }).wellFormed = false := by decide

theorem test_wellFormed_credits :
    (Instr.bucketCredit weighed).wellFormed = true ∧ (Instr.bucketCredit unweighed).wellFormed = true ∧
    (Instr.bucketCredit { weighed with sequence := none }).wellFormed = false ∧
    (Instr.bucketCredit { unweighed with payload := 1 }).wellFormed = false ∧
    (Instr.bucketCredit { weighed with payload := 2147483648 }).wellFormed = false := by decide

theorem test_wellFormed_dispatch :
    (Instr.dispatchArrival 1 0).wellFormed = true ∧ (Instr.dispatchArrival 65535 250000).wellFormed = true ∧
    (Instr.dispatchArrival 0 0).wellFormed = false ∧ (Instr.dispatchArrival 65536 0).wellFormed = false ∧
    (Instr.dispatchArrival 1 999).wellFormed = false ∧ (Instr.dispatchArrival 1 250001).wellFormed = false ∧
    (Instr.dispatchDeparture 0).wellFormed = false ∧ (Instr.dispatchDeparture 65536).wellFormed = false := by decide

theorem test_wellFormed_timers :
    (Instr.timerStart .tf none 0).wellFormed = true ∧ (Instr.timerStart .td (some 65535) 1).wellFormed = true ∧
    (Instr.timerStart .tf (some 2) 0).wellFormed = false ∧ (Instr.timerStart .td none 1).wellFormed = false ∧
    (Instr.timerStart .tc (some 65536) 1).wellFormed = false := by decide

theorem test_wellFormed_shifts :
    (Instr.trackerShiftClose 65535 0).wellFormed = true ∧ (Instr.trackerShiftClose 3 3).wellFormed = false ∧
    (Instr.accountShiftClose 3 4).wellFormed = true ∧ (Instr.accountShiftClose 3 5).wellFormed = false := by decide

theorem test_wellFormed_reports :
    (Instr.bucketReport creditReport).wellFormed = true ∧
    (Instr.bucketReport { creditReport with buckets := 65536 }).wellFormed = false ∧
    (Instr.bucketReport { creditReport with entry := { entry with sequence := none } }).wellFormed = false ∧
    (Instr.bucketReport { creditReport with entry := { entry with payload := 2147483648 } }).wellFormed = false ∧
    (Instr.calReport runReport).wellFormed = true ∧
    (Instr.calReport { runReport with accepted := 9 }).wellFormed = false ∧
    (Instr.calReport { runReport with refused := 256 }).wellFormed = false ∧
    (Instr.faultReport 1).wellFormed = true ∧ (Instr.faultReport 0).wellFormed = false := by decide

theorem test_wellFormed_targetReport :
    (Instr.targetReport ⟨.closed, slotFigures, none⟩).wellFormed = true ∧
    (Instr.targetReport ⟨.removed, slotFigures, some entry⟩).wellFormed = true ∧
    (Instr.targetReport ⟨.selected, { slotFigures with slot := none }, none⟩).wellFormed = true ∧
    (Instr.targetReport ⟨.removed, slotFigures, none⟩).wellFormed = false ∧
    (Instr.targetReport ⟨.closed, slotFigures, some entry⟩).wellFormed = false ∧
    (Instr.targetReport ⟨.opened, { slotFigures with slot := none }, none⟩).wellFormed = false ∧
    (Instr.targetReport ⟨.closed, { slotFigures with id := 65536 }, none⟩).wellFormed = false ∧
    (Instr.targetReport ⟨.closed, { slotFigures with capacity := 999 }, none⟩).wellFormed = false ∧
    (Instr.targetReport ⟨.closed, { slotFigures with buckets := 65536 }, none⟩).wellFormed = false ∧
    (Instr.targetReport ⟨.removed, slotFigures, some { entry with sequence := none }⟩).wellFormed = false := by decide

/-- A request of another command's code is no request of this command: none of the 29 accepts the code 0x43, which
names no command, but the unknown command; and that one accepts no code of a command. -/
theorem test_wellFormed_codes :
    let r := ask 0x43 [];
    (Instr.unknownCommand r).wellFormed = true ∧ (Instr.unknownCommand (ask 0x10 [])).wellFormed = false ∧
    ([Instr.identify r, .readEntry r, .readState r, .readClock r, .readCounters r, .readFaults r, .readTotals r,
      .calStatus r, .targetOpen r, .targetSelect r, .targetClose r, .deleteLastBucket r, .latchTotals r, .readLoadLog r,
      .clearFaults r, .clearCounters r, .enterConfig r, .writeEntry r, .commit r, .setClock r, .calStart r, .calAccept r,
      .calDiscard r, .arm r, .disarm r, .trigger r, .softReset r, .bypass r].all fun c => !c.wellFormed) = true := by
  decide

theorem test_wellFormed_requestLength :
    (Instr.identify (ask 0x10 (List.replicate 59 0))).wellFormed = true ∧
    (Instr.identify (ask 0x10 (List.replicate 60 0))).wellFormed = false ∧
    (Instr.unknownCommand (ask 0x43 (List.replicate 60 0))).wellFormed = false := by decide

theorem test_wellFormed_operations :
    (Instr.arm (ask 0x40 [0, 0])).wellFormed = true ∧ (Instr.arm (ask 0x40 [0])).wellFormed = true ∧
    (Instr.arm (ask 0x40 [0, 1])).wellFormed = false ∧ (Instr.arm (ask 0x40 [0, 2])).wellFormed = false ∧
    (Instr.disarm (ask 0x40 [0, 1])).wellFormed = true ∧ (Instr.disarm (ask 0x40 [0, 0])).wellFormed = false ∧
    (Instr.trigger (ask 0x40 [0, 2])).wellFormed = true ∧ (Instr.trigger (ask 0x40 [0, 1])).wellFormed = false := by
  decide

/-! ### Small states -/

/-- The state a command leaves. -/
def after (c : Instr) (s : State) : State :=
  match exec c s with
  | .next t => t
  | .fault _ => s
  | .refused _ => s

/-- The part carrying the line, in RUN. -/
def running : State :=
  { State.reset with
    link := { Link.initial 0 with relay := .relay }
    mgt := { Management.initial with config := .run } }

/-- The part carrying the line, in CONFIG. -/
def configuring : State := { running with mgt := { running.mgt with config := .config } }

/-- The seven roles on slots 0 to 6, FRESH with these values. -/
def sensed (values : List Int) : Signals :=
  { Signals.initial with
    roles := #v[some 0, some 1, some 2, some 3, some 4, some 5, some 6]
    slots := Signals.initial.slots.mapIdx fun i v =>
      match values[i]? with
      | some x => { v with value := x, fresh := .fresh }
      | none => v }

/-- The weigh parameter record of 05's worked lift, with a rated load of 11000 kg and a zero limit of 50 kg. -/
def lifting : WeighRecord := ⟨1000, 2600, 100, 30000, 15000, 12, 12, 100, 300, 150, 500, 300, 120, 20, 35000, 11000, 50⟩

/-- Its calibration. -/
def calibration : CalRecord :=
  ⟨Vector.replicate 16 (some 60000), Vector.replicate 16 (some 160000), 10000, -15, 800, 1⟩

/-- The cycle record of 07's worked cycle. -/
def cycling : CycleRecord := ⟨400, 3500, -1500, 9000, 2000, 300, 200, 300, 400, 300⟩

/-- The part at work: HEAD_P, ROD_P, BOOM, TILT, SPEED, PITCH and PARK FRESH, a valid calibration. -/
def atWork : State :=
  { running with
    sig := sensed [5670, 2000, 1030, 4000, 500, 250, 0]
    weigh := { Weighing.initial with params := lifting, state := .armed, sequence := 211 }
    cal := { Calibration.initial with active := calibration, deadline := 600 }
    trk := { Tracker.initial with params := cycling }
    acc := { Accounts.initial with params := ⟨95, 5⟩ }
    time := { TimeBase.initial with valid := true, clock := ⟨2024, 2, 29, 17, 59, 59⟩ } }

/-- The response at the tail of MP's originate queue: its status byte and data. -/
def answerOf (s : State) : List Byte :=
  match s.link.origQ.mp.getLast? with
  | some e => (e.bytes.drop 5).take (e.bytes.length - 7)
  | none => []

/-- A data frame from node 1, of a class and payload. -/
def frameOf (cls : Byte) (payload : List Byte) : List Byte := buildFrame cls 2 1 9 payload

/-- A state whose ingress side of a port has taken these frame bytes. -/
def heard (p : Port) (bytes : List Byte) (s : State) : State :=
  { s with link := s.link.setIngress p ⟨.aligned (some ⟨bytes, bytes.length⟩), 0, 0⟩ }

/-! ### The worked examples of 01 -/

theorem test_crc_of_R3 :
    crc [0x31, 0x32, 0x33, 0x34, 0x35, 0x36, 0x37, 0x38, 0x39] = 0x29B1 ∧ crc [] = 0xFFFF := by decide +kernel

/-- R7: a hunt over 30 data characters ends at END and counts one discard; one over 16 SPACE characters counts none. -/
theorem test_hunt :
    let hunting := { running with link := running.link.setIngress .mp ⟨.hunt true, 0, 0⟩ }
    let t := after (.characterReceived .mp .endMark) hunting
    let quiet := { running with link := running.link.setIngress .mp ⟨.hunt false, 15, 0⟩ }
    let u := after (.characterReceived .mp .space) quiet
    t.link.ingress.mp.mode = .aligned none ∧ t.link.counters.mp.huntDiscards = 1 ∧
    u.link.ingress.mp.mode = .aligned none ∧ u.link.counters.mp.huntDiscards = 0 := by decide

/-- A frame with a wrong check is relayed with ABORT. -/
theorem test_checkError :
    let t := after (.characterReceived .mp .endMark) (heard .mp [0x20, 0x21, 9, 0, 0, 0] running)
    t.link.counters.mp.checkErrors = 1 ∧ t.link.relayQ.dp = [⟨[0x20, 0x21, 9, 0, 0, 0], .abort⟩] := by decide +kernel

/-- R17: the contacts open when both segments are quiet. -/
theorem test_takeover :
    let s := { State.reset with link := { State.reset.link with ingress := ⟨⟨.hunt false, 15, 0⟩, ⟨.down, 0, 0⟩⟩ } }
    (after (.characterReceived .mp .space) s).link.relay = .relay ∧
    (after (.characterReceived .mp .start) s).link.relay = .takeover := by decide

theorem test_ingressDown :
    let s := { running with link := running.link.setIngress .dp ⟨.aligned none, 0, 2000⟩ }
    let t := after (.ingressDown .dp) s
    t.link.ingress.dp.mode = .down ∧ hasFault t.mgt.faults .dpDown = true ∧ t.handed = [.faultReport 2] := by
  decide

/-- Frames M5 and M6 toward DP and the report S1, as at 1040 µs and 1300 µs of the interleaving at DP. -/
def waiting (passOver : Nat) : State :=
  { running with link := { running.link with
    relayQ := ⟨[], [⟨List.replicate 20 0, .endMark⟩, ⟨List.replicate 20 1, .endMark⟩]⟩
    origQ := ⟨[], [⟨.report, List.replicate 14 2⟩]⟩
    egress := ⟨⟨none, 0, 0, 0⟩, ⟨none, 4, 0, passOver⟩⟩ } }

theorem test_arbiterStart :
    (after (.arbiterStart .dp) (waiting 3)).link.egress.dp =
      ⟨some ⟨.relay, List.replicate 20 0, .endMark, 220⟩, 4, 0, 4⟩ ∧
    (after (.arbiterStart .dp) (waiting 4)).link.egress.dp =
      ⟨some ⟨.originate 0, List.replicate 14 2, .endMark, 160⟩, 4, 0, 0⟩ := by decide

/-- The release with a waiting report, at step 4: the response B has been sent, and S9 is flushed. -/
def releasing : State :=
  { running with link := { running.link with
    relay := .release
    limit := .running 90000
    origQ := ⟨[⟨.report, [1]⟩, ⟨.response, [2]⟩], []⟩
    egress := ⟨⟨some ⟨.originate 1, [2], .endMark, 0⟩, 4, 0, 0⟩, ⟨none, 4, 0, 0⟩⟩ } }

theorem test_transmissionComplete :
    let t := after (.transmissionComplete .mp) releasing
    t.link.relay = .bypass ∧ t.link.origQ = ⟨[], []⟩ ∧ t.link.limit = .stopped := by decide

theorem test_releaseLimitExpiry :
    let busy := { releasing with link := { releasing.link with limit := .running 0 } }
    let free := { busy with link := { busy.link with egress := ⟨⟨none, 4, 0, 0⟩, ⟨none, 4, 0, 0⟩⟩ } }
    (after .releaseLimitExpiry busy).link.relay = .release ∧ (after .releaseLimitExpiry busy).link.limit = .expired ∧
    (after .releaseLimitExpiry free).link.relay = .bypass := by decide

/-! ### The worked examples of 02 -/

theorem test_fields_of_R28 :
    let payload : List Byte := [0, 0, 0, 0, 0xFF, 0x38]
    (⟨4, .two, 0, false, true⟩ : FieldDesc).read payload = some (-200) ∧
    (⟨4, .two, 0, false, false⟩ : FieldDesc).read payload = some 65336 ∧
    (⟨4, .two, 0, true, true⟩ : FieldDesc).read payload = some 14591 ∧
    (⟨5, .two, 0, true, true⟩ : FieldDesc).read payload = none := by decide

theorem test_scale_of_R40 :
    scale ⟨10000, 10, -390, 0⟩ 1843 = 17608 ∧ scale ⟨3, 0, -4500, 50⟩ 2100 = 1800 := by decide

def pressureField (offset : Nat) : FieldDesc := ⟨offset, .two, 0, false, true⟩

/-- The match table of 02's worked sequence. -/
def matching : State :=
  { running with sig := { running.sig with matchTable :=
    ((((((running.sig.matchTable.set 0
      ⟨true, .fromMp, 0x20, 0xF0, 1, 15, 0, 0, 6, false, .extract [(pressureField 2, 14), (pressureField 4, 15)]⟩).set 3
      ⟨true, .either, 0x21, 0xFF, 0, 0, 0, 0, 8, false,
        .extract [(⟨6, .bit, 0, false, false⟩, 16), (pressureField 10, 14)]⟩).set 5
      ⟨true, .fromMp, 0x21, 0xFF, 0, 0, 0x03, 0xFF, 0, false, .page 1⟩).set 6
      ⟨true, .fromMp, 0x20, 0xF0, 0, 0, 0, 0, 0, false, .page 2⟩).set 7
      ⟨true, .fromMp, 0x21, 0xFF, 0, 0, 0, 0, 0, false, .extract [(⟨12, .one, 0, false, false⟩, 20)]⟩).set 9
      ⟨true, .fromDp, 0x30, 0xFF, 0, 0, 0, 0, 1, true, .key 0⟩) } }

def payload12 : List Byte := [0x03, 0, 0, 0x96, 0xFF, 0x38, 0x01, 0, 0, 0, 0, 0x9B]

theorem test_frameMatched :
    let f := frameOf 0x21 payload12
    let t := after (.characterReceived .mp .endMark) (heard .mp f matching)
    (t.sig.slots[14]).value = 155 ∧ (t.sig.slots[15]).value = -200 ∧ (t.sig.slots[16]).value = 1 ∧
    t.sig.slots[20] = SlotLive.initial ∧ (t.sig.slots[14]).writes = 1 ∧ (t.sig.slots[14]).source = .entry 3 ∧
    t.sig.counters.short = 1 ∧ t.link.relayQ.dp = [⟨f, .endMark⟩] := by decide +kernel

theorem test_frameMatched_shorter :
    let t := after (.characterReceived .mp .endMark) (heard .mp (frameOf 0x21 (payload12.take 10)) matching)
    (t.sig.slots[14]).value = 150 ∧ (t.sig.slots[14]).source = .entry 0 ∧ t.sig.counters.short = 2 := by decide +kernel

/-- A key byte from the display with no key map entry: the frame is consumed, and the key counted. -/
theorem test_keyFrame :
    let t := after (.characterReceived .dp .endMark) (heard .dp (frameOf 0x30 [0x41]) matching)
    t.link.relayQ.mp = [] ∧ t.sig.counters.unmapped = 1 ∧ t.handed = [] := by decide +kernel

/-- A slot goes STALE: BOOM, at its timeout of 50 ms. -/
theorem test_stalenessExpiry :
    let live : SlotLive := { SlotLive.initial with value := 1914, fresh := .fresh, timer := some ⟨50000, 50⟩ }
    let s := { atWork with sig := { atWork.sig with slots := atWork.sig.slots.set 2 live } }
    let t := after (.stalenessExpiry 2) s
    t.sig.slots[2] = { live with fresh := .stale, timer := none } ∧ hasFault t.mgt.faults .signalStale = true ∧
    t.handed = [.faultReport 32, .weighStaleNotice .boom, .candidateEvaluation (.stale .boom)] := by decide

theorem test_faultSet :
    let t := after (.faultSet .calTimeout) running
    t.mgt.faults = 0x1000 ∧ t.handed = [.faultReport 0x1000] ∧ (after (.faultSet .calTimeout) t).handed = t.handed := by
  decide

/-! ### The worked examples of 03 -/

/-- The words of the preemption sequence, with the boundary at 4. -/
def preempting (resume : Byte) (fast slow : SampleQueue) (conversion : Option Conversion) : State :=
  { running with acq := { Acquisition.initial with
    boundary := 4
    words := Acquisition.initial.words.mapIdx fun i w =>
      ([⟨some 0, 0, false, false, some 0⟩, ⟨some 1, 0, false, false, some 1⟩, ⟨some 2, 1, false, false, some 2⟩,
        ⟨some 3, 1, false, true, some 3⟩, ⟨some 5, 1, true, false, some 20⟩, ⟨some 6, 3, false, false, some 21⟩,
        ⟨some 7, 3, false, false, some 22⟩, ⟨some 10, 2, false, true, none⟩] : List SampleWord)[i]?.getD w
    setup := ⟨⟨.continuous, .timer, true, 0⟩, ⟨.continuous, .command, true, resume⟩⟩
    queues := ⟨fast, slow⟩
    conversion := conversion } }

def fastIdle : SampleQueue := ⟨.idle, 0, 0, false, false, false⟩

def fastRuns : SampleQueue := ⟨.active, 0, 0, false, false, false⟩

def slowAt (state : QueueState) (position start : Nat) : SampleQueue := ⟨state, position, start, false, false, false⟩

/-- At 1000 µs: TF expires while word 6 is converted. -/
theorem test_queueTrigger :
    let t := after (.queueTrigger .fast) (preempting 0 fastIdle (slowAt .active 6 5) (some ⟨.slow, 6, 28⟩))
    t.acq.queues.slow = slowAt .suspended 6 5 ∧ t.acq.queues.fast = fastRuns ∧
    t.acq.conversion = some ⟨.fast, 0, 16⟩ := by decide

/-- Two triggers together: the slow queue waits for the fast one. -/
theorem test_trigger :
    let s := preempting 0 fastRuns (slowAt .idle 4 4) (some ⟨.fast, 0, 16⟩)
    let t := after (.trigger (ask 0x40 [1, 2])) s
    t.acq.queues.slow = slowAt .pending 4 4 ∧ answerOf t = [0, 4, 4, 0] ∧
    answerOf (after (.trigger (ask 0x40 [0, 2])) s) = [6] := by decide

/-- At 1072 µs the slow queue resumes at word 6 under AT_WORD and at word 5 under AT_SUBQUEUE; the fast queue is IDLE with
its complete flag, and the slot of word 3 is written. -/
theorem test_conversionComplete :
    let last : SampleQueue := { fastRuns with position := 3 }
    let s := fun resume => preempting resume last (slowAt .suspended 6 5) (some ⟨.fast, 3, 0⟩)
    let t := after (.conversionComplete 100) (s 0)
    t.acq.queues = ⟨{ fastIdle with complete := true }, slowAt .active 6 5⟩ ∧ t.acq.conversion = some ⟨.slow, 6, 44⟩ ∧
    t.acq.results[3] = ⟨100, 0, true⟩ ∧ (t.sig.slots[3]).value = 100 ∧ (t.sig.slots[3]).source = .word 3 ∧
    (after (.conversionComplete 100) (s 1)).acq.conversion = some ⟨.slow, 5, 44⟩ := by decide

/-- A reference result of 2073 fails its check, one of 2072 does not; a break word pauses its queue. -/
theorem test_referenceCheck :
    let s := preempting 0 fastIdle (slowAt .active 7 5) (some ⟨.slow, 7, 0⟩)
    let u := preempting 0 fastIdle (slowAt .active 4 4) (some ⟨.slow, 4, 0⟩)
    hasFault (after (.conversionComplete 2073) s).mgt.faults .converterCheck = true ∧
    (after (.conversionComplete 2072) s).mgt.faults = 0 ∧
    (after (.conversionComplete 9) u).acq.queues.slow = { slowAt .paused 5 4 with pause := true } := by decide

theorem test_arm :
    let s := preempting 0 { fastIdle with state := .off } (slowAt .off 4 4) none
    let t := after (.arm (ask 0x40 [1, 0])) s
    t.acq.queues.slow = slowAt .idle 4 4 ∧ answerOf t = [0, 1, 4, 0] ∧
    answerOf (after (.arm (ask 0x40 [1])) s) = [6] ∧ answerOf (after (.arm (ask 0x40 [2, 0])) s) = [6] := by
  decide

theorem test_disarm :
    let s := preempting 1 { fastRuns with overrun := true } (slowAt .suspended 6 5) (some ⟨.fast, 0, 9⟩)
    let t := after (.disarm (ask 0x40 [0, 1])) s
    t.acq.queues.fast.state = .off ∧ t.acq.conversion = some ⟨.slow, 5, 44⟩ ∧ answerOf t = [0, 0, 0, 1] := by
  decide

/-- R65: a queue that is OFF keeps the sub-queue start it ended with. -/
theorem test_disarm_off :
    let s := preempting 0 { fastIdle with state := .off, subStart := 2 } (slowAt .idle 4 4) none
    (after (.disarm (ask 0x40 [0, 1])) s).acq = s.acq := by
  decide

/-- R69: with words 3 and 4 UNUSED, word 5 fails at the boundaries 24 and 4, and passes at 5. -/
theorem test_unreachableWord :
    let words := Acquisition.initial.words.mapIdx fun i w =>
      if i < 3 ∨ i = 5 then { SampleWord.unused with channel := some 4 } else w
    let a := fun b => { Acquisition.initial with words := words, boundary := b };
    (a 24).wordFails 5 = true ∧ (a 4).wordFails 5 = true ∧ (a 5).wordFails 5 = false ∧ (a 5).wordFails 2 = false := by
  decide

/-! ### The worked examples of 04 -/

theorem test_tagDifference_of_R73 : tagDiff 1033000 (BitVec.ofNat 32 4294000000) = 2000296 := by decide

/-- TF with a reload of 2 ms is due: it is loaded again, and the fast queue's trigger handed on; not due, nothing. -/
theorem test_periodicExpiries :
    let due := { running with time := { running.time with timers := ⟨⟨2, 0, true, 0⟩, ⟨50, 0, true, 0⟩, ⟨500, 0, true, 0⟩,
      Timer.off, Timer.off⟩ } }
    (after .tfExpiry due).time.timers.tf = ⟨2, 2000, true, 0⟩ ∧ (after .tfExpiry due).handed = [.queueTrigger .fast] ∧
    (after .tsExpiry due).time.timers.ts = ⟨50, 50000, true, 0⟩ ∧ (after .tsExpiry due).handed = [.queueTrigger .slow] ∧
    (after .trExpiry due).time.timers.tr = ⟨500, 500000, true, 0⟩ ∧ (after .trExpiry due).handed = [.statusReport] ∧
    (after .tfExpiry running).handed = [] := by decide

theorem test_oneShotExpiries :
    let due := { running with time := { running.time with timers := { running.time.timers with
      td := ⟨200, 0, true, 4⟩, tc := ⟨600, 0, true, 2⟩ } } }
    (after .tdExpiry due).time.timers.td = ⟨200, 0, false, 4⟩ ∧ (after .tdExpiry due).handed = [.dwellEnd 4] ∧
    (after .tcExpiry due).time.timers.tc = ⟨600, 0, false, 2⟩ ∧ (after .tcExpiry due).handed = [.calDeadline 2] := by
  decide

/-- TD is started with 300 ms and again with 200 ms, and stopped: it keeps the reload 200 with the count 0. -/
theorem test_timerStartAndStop :
    let s := { running with time := { running.time with timers := { running.time.timers with td := ⟨300, 120000, true, 1⟩ } } }
    let t := after (.timerStart .td (some 200) 2) s
    t.time.timers.td = ⟨200, 200000, true, 2⟩ ∧ timerCount .td t.time.timers.td = 200 ∧
    (after (.timerStop .td) t).time.timers.td = ⟨200, 0, false, 2⟩ ∧
    (after (.timerStart .tc (some 0) 1) s).time.timers.tc.running = false := by decide

/-- The shift boundary at 18:00:00 of 2024-02-29 closes shift 3 and opens shift 4. -/
theorem test_secondEvent :
    let s := { atWork with time := { atWork.time with
      secondLeft := 0, shiftNumber := 3, shiftTable := #v[⟨false, 0, 0⟩, ⟨true, 18, 0⟩, ⟨false, 0, 0⟩] } }
    let t := after .secondEvent s
    t.time.clock = ⟨2024, 2, 29, 18, 0, 0⟩ ∧ t.time.shiftNumber = 4 ∧
    t.handed = [.trackerShiftClose 3 4, .accountShiftClose 3 4, .shiftAssemblyArrival 3 .boundary] ∧
    (⟨2024, 2, 29, 23, 59, 59⟩ : Clock).advance = ⟨2024, 3, 1, 0, 0, 0⟩ ∧
    (⟨2099, 12, 31, 23, 59, 59⟩ : Clock).wraps = true := by decide

/-- 29 February 2023 is refused at the day, the second field from 0; 2024 is set. -/
theorem test_setClock :
    answerOf (after (.setClock (ask 0x33 [0x07, 0xE7, 2, 29, 17, 59, 59])) running) = [6, 2] ∧
    (after (.setClock (ask 0x33 [0x07, 0xE8, 2, 29, 17, 59, 59])) running).time.clock = ⟨2024, 2, 29, 17, 59, 59⟩ ∧
    answerOf (after (.setClock (ask 0x33 [0x07, 0xE8, 2, 29, 17, 59])) running) = [6] := by decide

/-! ### The worked examples of 05 -/

theorem test_bins_of_R89 :
    let p := { lifting with thetaE := 1850 }
    p.binWidth = 53 ∧ p.bin 1849 = 15 ∧ p.centre 0 = 1026 ∧ p.centre 14 = 1768 ∧ p.centre 15 = 1822 := by decide

theorem test_force_of_R90 : lifting.force 5670 2000 = 140100 := by decide

theorem test_payload_of_R91 :
    let c := { calibration with
      empty := (calibration.empty.set 1 (some 59000)).set 2 (some 61000)
      reference := (calibration.reference.set 1 (some 158000)).set 2 (some 162000) }
    lifting.payload c 140000 1180 = 8057 := by decide

theorem test_accel_of_R97 :
    newAccel (some ⟨510, 20400000⟩ : Option SpeedWrite) none 525 20500000 = some 150 := by decide

theorem test_pitch_of_R101 : correctPitch 120 7998 250 = 8238 := by decide

/-- Sample 0 of the worked lift opens the window and is its first sample. -/
theorem test_weighSample_opens :
    let s := { atWork with sig := sensed [5700, 2000, 1030, 4000, 500, 250, 0] }
    let t := after (.weighSample 1030 20000000) s
    t.weigh.state = .window ∧ t.weigh.window.samples = 1 ∧ t.weigh.window.bins[0] = ⟨1, 141000, 8085⟩ ∧
    t.weigh.window.tiltMin = some 4000 ∧ t.weigh.window.pitchSum = 250 ∧ t.weigh.window.calFlag = false := by
  decide

/-- The worked lift after its sample 15. -/
def windowFull : State :=
  { atWork with
    time := { atWork.time with tag := 22000000 }
    weigh := { atWork.weigh with
      state := .window
      window :=
        { entryTag := 20000000, entryAngle := 1030, highest := 2530, calFlag := false, cal := calibration, samples := 16
          bins := #v[⟨1, 141000, 8085⟩, ⟨1, 140700, 8055⟩, ⟨1, 140400, 8025⟩, ⟨1, 140160, 8001⟩, ⟨1, 140040, 7989⟩,
            ⟨1, 140100, 7995⟩, ⟨1, 139980, 7983⟩, ⟨1, 139950, 7980⟩, ⟨1, 140070, 7992⟩, ⟨1, 140130, 7998⟩,
            ⟨1, 140010, 7986⟩, ⟨1, 140040, 7989⟩, ⟨1, 139920, 7977⟩, ⟨1, 139860, 7971⟩, ⟨1, 139950, 7980⟩,
            ⟨1, 139800, 7965⟩]
          tiltMin := some 4000, tiltMax := some 4040, pitchSum := 4000, pitchCount := 16, accelSeen := true
          accelMax := 150 } } }

/-- The result of the worked lift. -/
def published : LiftResult :=
  ⟨212, 22000000, some 8238, .marginal, 0, 16, 16, some 120, some 800, some 250, false⟩

theorem test_weighSample_evaluates :
    let t := after (.weighSample 2630 22000000) windowFull
    t.weigh.last = some published ∧ t.weigh.state = .spent ∧
    t.handed = [.pendingLift published, .liftResultReport published] := by decide

/-- The rejected lift: sample 9 reads 10485 kg, and the tilt has moved by 300. -/
theorem test_rejectedLift :
    let w := windowFull.weigh.window
    let s := { windowFull with weigh := { windowFull.weigh with
      window := { w with bins := w.bins.set 9 ⟨1, 165000, 10485⟩, tiltMax := some 4300 } } }
    (after (.weighSample 2630 22000000) s).weigh.last =
      some { published with payload := none, grade := .rejected, reasons := 0b110000, spread := some 2520 } := by
  decide

/-- The reversal: below 1830 with 1930 seen; at 1830 the sample is accumulated. -/
theorem test_reversal :
    let s := { windowFull with weigh := { windowFull.weigh with
      window := { windowFull.weigh.window with highest := 1930 } } }
    let t := after (.weighSample 1820 22000000) s
    t.handed = [.reversalNotice] ∧ t.weigh.reversals = 1 ∧ t.weigh.sequence = 211 ∧ t.weigh.state = .spent ∧
    (after (.weighSample 1830 22000000) s).weigh.window.samples = 17 := by decide

theorem test_weighStaleNotice :
    let t := after (.weighStaleNotice .headP) windowFull
    t.weigh.last = some { published with
      payload := none, grade := .rejected, reasons := 0x200, spread := none, rate := none, meanPitch := none } ∧
    (after (.weighStaleNotice .pitch) windowFull).weigh = windowFull.weigh := by decide

theorem test_speedSample :
    (after (.speedSample 525 20500000) { atWork with weigh := { atWork.weigh with speed := some ⟨510, 20400000⟩ } }).weigh =
      { atWork.weigh with speed := some ⟨525, 20500000⟩, accel := some 150 } ∧
    (after (.speedSample 525 0) running).weigh = running.weigh := by decide

/-! ### The worked examples of 06 -/

/-- The EMPTY run of three lifts, before its lift D. -/
def collecting : State :=
  { atWork with cal :=
    { active := { calibration with empty := Vector.replicate 16 none, zeroOffset := 0, rate := 0, minDelta := 20000 }
      candidate := { calibration with empty := Vector.replicate 16 none, zeroOffset := 0, rate := 0, minDelta := 20000 }
      deadline := 600
      run := .collecting
      record :=
        { RunRecord.initial with
          kind := .empty, lifts := 3, accepted := 2, refused := 1, cause := .started, rateSum := 1600
          binSums := (((Vector.replicate 16 120000).set 0 120600).set 15 59500)
          binLifts := (Vector.replicate 16 2).set 15 1 }
      starts := 1
      startOpen := true } }

/-- The lift D. -/
def liftD : LiftResult := ⟨304, 8, none, .rejected, 0x100, 16, 15, none, some 800, none, true⟩

def forcesD : BinForces := (((Vector.replicate 16 (some 60000)).set 0 none).set 1 (some 60300)).set 15 (some 59800)

/-- Lift D ends the run: the candidate takes its empty forces and its rate, TC is stopped and REVIEW reported. -/
theorem test_calLift :
    let t := after (.calLift liftD forcesD) collecting
    t.cal.run = .review ∧ t.cal.candidate.empty[0] = some 60300 ∧ t.cal.candidate.empty[1] = some 60100 ∧
    t.cal.candidate.empty[15] = some 59650 ∧ t.cal.candidate.rate = 800 ∧ t.cal.candidate.valid = true ∧
    t.handed = [.timerStop .tc, .calReport ⟨.review, .collected, .empty, false, 3, 1, true, false⟩] := by decide +kernel

/-- Lift B is refused for TILT_MOVED; a lift that is not the last of its run is gathered. -/
theorem test_calLift_refused :
    let t := after (.calLift { liftD with reasons := 0x120 } forcesD) collecting
    let more := { collecting with cal := { collecting.cal with record := { collecting.cal.record with accepted := 1 } } }
    let u := after (.calLift liftD forcesD) more
    t.cal.record = { collecting.cal.record with refused := 2 } ∧ u.cal.run = .collecting ∧ u.cal.record.rateSum = 2400 ∧
    u.cal.record.binSums[15] = 119300 ∧ u.cal.record.binLifts[0] = 2 := by decide +kernel

/-- A ZERO key starts a run; a lift of 37 kg takes the zero offset from −15 to −52, above the zero limit of 50. -/
theorem test_zero :
    let s := after .zero atWork
    let t := after (.calLift flagged (Vector.replicate 16 none)) s
    s.cal.run = .collecting ∧ s.cal.record.keyStarted = true ∧
    s.handed = [.timerStart .tc (some 600) 1, .calReport ⟨.collecting, .started, .zero, true, 0, 0, true, true⟩] ∧
    t.cal.candidate.zeroOffset = -52 ∧ t.cal.run = .off ∧ t.cal.record.cause = .discarded ∧
    t.cal.active = calibration := by decide

theorem test_calDeadline :
    let t := after (.calDeadline 1) collecting
    t.cal.run = .off ∧ hasFault t.mgt.faults .calTimeout = true ∧ (after (.calDeadline 0) collecting).cal = collecting.cal := by
  decide

theorem test_calStart :
    let t := after (.calStart (ask 0x34 [0, 3])) atWork
    t.cal.run = .collecting ∧ answerOf t = [0, 0, 3] ∧ answerOf (after (.calStart (ask 0x34 [0, 2])) atWork) = [6] ∧
    answerOf (after (.calStart (ask 0x34 [0, 3])) collecting) = [7] := by decide

/-- A run in REVIEW. -/
def reviewing : State := { collecting with cal := { collecting.cal with run := .review, candidate := calibration, startOpen := false } }

theorem test_calAccept :
    let t := after (.calAccept (ask 0x35 [])) reviewing
    t.cal.active = calibration ∧ t.cal.run = .off ∧ answerOf t = [0] ∧
    answerOf (after (.calAccept (ask 0x35 [])) collecting) = [3] := by decide

theorem test_calDiscard :
    let t := after (.calDiscard (ask 0x36 [])) collecting
    t.cal.run = .off ∧ t.cal.active = collecting.cal.active ∧
    t.handed = [.timerStop .tc, .calReport ⟨.off, .discarded, .empty, false, 2, 1, false, false⟩] := by decide

theorem test_calStatus :
    (answerOf (after (.calStatus (ask 0x17 [0, 0])) reviewing)).take 9 = [0, 2, 0, 0, 3, 0, 0, 2, 1] ∧
    answerOf (after (.calStatus (ask 0x17 [1, 15])) reviewing) =
      [0, 1, 0, 0, 0xEA, 0x60, 1, 0, 2, 0x71, 0x00, 1] ∧
    answerOf (after (.calStatus (ask 0x17 [1, 16])) reviewing) = [6] := by decide

/-! ### The worked examples of 07 -/

/-- The tracker in a phase, with BOOM, TILT and HEAD_P at these values and the time in µs. -/
def tracking (phase : Phase) (boom tilt head : Int) (now : TimeTag) (pending : Option LiftResult) : State :=
  { atWork with
    sig := sensed [head, 2000, boom, tilt, 0, 0, 0]
    time := { atWork.time with tag := now }
    trk := { atWork.trk with
      phase := phase, pending := pending, cycleStart := some 100000000, dumped := true, figures := ⟨12, 0, 372400, 12, 0, 0⟩ } }

/-- A phase whose dwell is timed. -/
def dwelling (s : State) (q : Phase) : State :=
  { s with trk := { s.trk with candidate := some q, starts := 1, startOpen := true } }

/-- Step 1: the candidate DIG starts TD with 300 ms. -/
theorem test_candidateEvaluation :
    let s := tracking .ret 350 4000 9500 130000000 none
    let t := after (.candidateEvaluation (.written .boom 350 130000000)) s
    t.trk.candidate = some .dig ∧ t.trk.phase = .ret ∧ t.handed = [.timerStart .td (some 300) 1] ∧
    (after (.candidateEvaluation (.written .tilt 3800 0)) (dwelling (tracking .carry 3600 3800 0 0 none) .dump)).handed =
      [.timerStop .td] := by decide

/-- Step 2: the cycle of 30300 ms completes. -/
theorem test_dwellEnd :
    let t := after (.dwellEnd 1) (dwelling (tracking .ret 350 4000 9500 130300000 none) .dig)
    t.trk.phase = .dig ∧ t.trk.figures = ⟨13, 0, 402700, 13, 0, 0⟩ ∧ t.trk.cycleStart = some 130300000 ∧
    t.trk.dumped = false := by decide

/-- Step 14: L2 is credited, and then noticed. -/
theorem test_dwellEnd_dump :
    let l := { lift with sequence := 221, payload := some 8950 }
    let t := after (.dwellEnd 1) (dwelling (tracking .carry 3700 (-2500) 0 142400000 (some l)) .dump)
    t.trk.phase = .dump ∧ t.trk.pending = none ∧ t.trk.dumped = true ∧
    t.handed = [.bucketCredit ⟨some 221, 8950, .good, 142400000⟩, .pendingLiftNotice] := by decide

theorem test_pendingLift :
    let t := after (.pendingLift lift) (tracking .carry 3700 4000 0 0 none)
    t.trk.pending = some lift ∧ t.handed = [.pendingLiftNotice] ∧
    (after (.pendingLift lift) (tracking .dump 3700 4000 0 0 none)).trk.figures.strays = 1 := by decide

theorem test_reversalNotice :
    (after .reversalNotice (tracking .carry 0 0 0 0 none)).trk.figures.reversals = 1 ∧
    (after .reversalNotice configuring).trk.figures.reversals = 0 := by decide

theorem test_trackerShiftClose :
    let t := after (.trackerShiftClose 3 4) (tracking .carry 0 0 0 0 none)
    t.trk.figures = TrackerFigures.zero ∧
    t.handed = [.shiftAssemblyArrival 3 (.tracker ⟨12, 0, 372400, 12, 0, 0⟩)] := by decide

/-! ### The worked examples of 08 -/

/-- The truck of the four-pass load, with its buckets so far. -/
def truck (accumulated : Int) (list : List BucketEntry) (unweighed marginal : Nat) : TargetSlot :=
  { TargetSlot.free with
    state := .opened, id := 4417, capacity := 40000, accumulated := accumulated, buckets := list.length
    unweighed := unweighed, marginal := marginal, list := list }

def bucket (sequence : Word16) (payload : Int) (grade : BucketGrade) : BucketEntry :=
  ⟨some sequence, payload, grade, 0, 212⟩

def three : List BucketEntry := [bucket 230 9800 .good, bucket 231 10200 .marginal, bucket 233 10400 .good]

def loadOf (sequence : Nat) : LoadRecord :=
  ⟨sequence, 1, 0, 0, 1, 0, 0, Clock.zero, Clock.zero, .operator, false, 211, 0⟩

/-- The truck in slot 0, current, with the totals of the shift. -/
def loading (t : TargetSlot) (totals : AccountFigures) (pending : Option LiftResult) : State :=
  { atWork with
    acc := { Accounts.initial with
      slots := Accounts.initial.slots.set 0 t
      pointer := some 0
      log := ⟨[loadOf 57, loadOf 58], 59, 0, false, false⟩
      totals := totals
      shift := 212
      params := ⟨95, 5⟩ }
    trk := { atWork.trk with pending := pending } }

/-- Step 1 of the four-pass load: slot 0 opens for the truck. -/
theorem test_dispatchArrival :
    let t := after (.dispatchArrival 4417 40000) atWork
    t.acc.pointer = some 0 ∧ (t.acc.slot 0).capacity = 40000 ∧ (t.acc.slot 0).state = .opened ∧
    t.handed = [.targetReport ⟨.opened, ⟨some 0, .opened, 4417, 40000, 0, 0, false, true⟩, none⟩] ∧
    (after (.dispatchArrival 4417 30000) t).acc.slots[0].capacity = 30000 := by decide

/-- Steps 11 and 12: 42500 kg lies above the overload figure of 42000, 41700 does not. -/
theorem test_pendingLiftNotice :
    let s := fun p => loading (truck 30400 three 0 1) AccountFigures.zero (some { lift with payload := some p });
    (after .pendingLiftNotice (s 12100)).acc.overloadAhead = true ∧
    (after .pendingLiftNotice (s 11300)).acc.overloadAhead = false := by decide

/-- Step 13: the truck is FULL. -/
theorem test_bucketCredit :
    let s := loading (truck 30400 three 0 1) ⟨194700, 21, 1, 4, 0⟩ none
    let t := after (.bucketCredit ⟨some 235, 11300, .good, 0⟩) s
    (t.acc.slot 0).accumulated = 41700 ∧ (t.acc.slot 0).state = .full ∧ (t.acc.slot 0).overloaded = false ∧
    t.acc.totals = ⟨206000, 22, 1, 4, 0⟩ ∧
    t.handed = [.bucketReport ⟨some 0, bucket 235 11300 .good, 41700, 4, .full, false⟩,
      .targetReport ⟨.state, ⟨some 0, .full, 4417, 40000, 41700, 4, false, true⟩, none⟩] := by decide

/-- R150: 43000 kg in a truck of 40000 is ahead with the credited lift still pending, and not after its notice. -/
theorem test_credit_ahead :
    let t := after (.bucketCredit ⟨some 235, 6300, .good, 0⟩) (loading (truck 30400 three 0 1) AccountFigures.zero none)
    t.acc.overloadAhead = true ∧ (after .pendingLiftNotice t).acc.overloadAhead = false := by decide

/-- R147: the thirteenth entry folds the oldest. -/
theorem test_bucketCredit_folds :
    let full := bucket 1 7900 .good :: List.replicate 11 (bucket 2 8009 .good) ++ []
    let s := loading { truck 96000 full 0 0 with accumulated := 7900 + 11 * 8009 } AccountFigures.zero none
    let v := (after (.bucketCredit ⟨some 3, 8100, .good, 0⟩) s).acc.slot 0
    v.folded = 1 ∧ v.foldedPayload = 7900 ∧ v.list.length = 12 ∧ v.buckets = 13 ∧
    v.accumulated = v.foldedPayload + listPayload v.list := by decide

/-- Step 8: DELETE_LAST gives an unweighed bucket back. -/
theorem test_deleteLast :
    let list := [bucket 230 9800 .good, bucket 231 10200 .marginal, ⟨none, 0, .unweighed, 0, 212⟩]
    let t := after .deleteLast (loading (truck 20000 list 1 1) ⟨184300, 21, 2, 4, 0⟩ none)
    (t.acc.slot 0).list = list.take 2 ∧ (t.acc.slot 0).unweighed = 0 ∧ (t.acc.slot 0).accumulated = 20000 ∧
    t.acc.totals = ⟨184300, 20, 1, 4, 0⟩ ∧ (after .deleteLast atWork).handed = [] := by decide

theorem test_deleteLastBucket :
    let s := loading (truck 30400 three 0 1) ⟨194700, 21, 1, 4, 0⟩ none
    let t := after (.deleteLastBucket (ask 0x23 [])) s
    (t.acc.slot 0).accumulated = 20000 ∧ answerOf t = [0] ∧
    answerOf (after (.deleteLastBucket (ask 0x23 [])) atWork) = [8] := by decide

/-- Step 14: the departure leaves record 59, the log's next sequence is 60, and the pointer is empty. -/
theorem test_dispatchDeparture :
    let four := three ++ [bucket 235 11300 .good]
    let t := after (.dispatchDeparture 4417) (loading { truck 41700 four 0 1 with state := .full } ⟨206000, 22, 1, 4, 0⟩ none)
    t.acc.log.next = 60 ∧ t.acc.log.records.length = 3 ∧ t.acc.pointer = none ∧ t.acc.totals.loads = 5 ∧
    t.acc.log.records[2]? = some ⟨59, 4417, 40000, 41700, 4, 0, 1, Clock.zero, ⟨2024, 2, 29, 17, 59, 59⟩, .dispatch, false,
      212, 0⟩ ∧
    t.handed = [.loadDrain, .targetReport ⟨.closed, ⟨some 0, .full, 4417, 40000, 41700, 4, false, true⟩, none⟩,
      .targetReport ⟨.selected, noFigures, none⟩] ∧
    (after (.dispatchDeparture 4418) atWork).acc.unknownDepartures = 1 := by decide

theorem test_closeLoad :
    let t := after .closeLoad (loading (truck 30400 three 0 1) ⟨194700, 21, 1, 4, 0⟩ none)
    (t.acc.slot 0) = TargetSlot.free ∧ t.acc.log.next = 60 ∧ (after .closeLoad atWork).handed = [] := by decide

/-- R156: slots 0 and 2 OPEN, slot 3 FULL, slot 1 FREE, the pointer at a slot. -/
def yard (pointer : Option (Fin 4)) : State :=
  let opened := { TargetSlot.free with state := .opened }
  { atWork with acc := { atWork.acc with
    slots := #v[opened, TargetSlot.free, opened, { TargetSlot.free with state := .full, capacity := 1000, accumulated := 950 }]
    pointer := pointer } }

theorem test_nextTarget :
    (after .nextTarget (yard (some 2))).acc.pointer = some 3 ∧ (after .nextTarget (yard (some 3))).acc.pointer = some 0 ∧
    (after .nextTarget (yard (some 0))).acc.pointer = some 2 ∧ (after .nextTarget (yard none)).acc.pointer = some 0 := by
  decide

theorem test_selectKey :
    (after (.selectKey 3) (yard (some 2))).acc.pointer = some 3 ∧
    (after (.selectKey 1) (yard (some 2))).acc.pointer = some 2 ∧
    (after (.selectKey 2) (yard (some 2))).handed = [] := by decide

theorem test_newTarget :
    let full := { yard none with acc := { (yard none).acc with slots := (yard none).acc.slots.set 1 { TargetSlot.free with state := .opened } } };
    (after .newTarget (yard (some 2))).acc.pointer = some 1 ∧
    (after .newTarget full).acc.openRefusals = 1 ∧ hasFault (after .newTarget full).mgt.faults .targetsFull = true := by
  decide

theorem test_targetOpen :
    let t := after (.targetOpen (ask 0x20 [0x11, 0x41, 0, 0, 0x9C, 0x40, 0])) (yard (some 2))
    answerOf t = [0, 1] ∧ (t.acc.slot 1).id = 4417 ∧ (t.acc.slot 1).capacity = 40000 ∧ t.acc.pointer = some 2 ∧
    answerOf (after (.targetOpen (ask 0x20 [0, 0, 0, 0, 0x03, 0xE7, 0])) (yard none)) = [6] := by decide

theorem test_targetSelect :
    let t := after (.targetSelect (ask 0x21 [3])) (yard (some 2))
    t.acc.pointer = some 3 ∧ answerOf t = [0] ∧ answerOf (after (.targetSelect (ask 0x21 [1])) (yard (some 2))) = [5] := by
  decide

theorem test_targetClose :
    let t := after (.targetClose (ask 0x22 [2])) (yard (some 2))
    t.acc.pointer = some 0 ∧ (t.acc.slot 2) = TargetSlot.free ∧ answerOf t = [0] ∧
    answerOf (after (.targetClose (ask 0x22 [4])) (yard (some 2))) = [5] := by decide

theorem test_accountShiftClose :
    let t := after (.accountShiftClose 212 213) (loading (truck 30400 three 0 1) ⟨194700, 21, 1, 4, 0⟩ none)
    t.acc.totals = AccountFigures.zero ∧ t.acc.shift = 213 ∧
    t.handed = [.shiftAssemblyArrival 212 (.account ⟨194700, 21, 1, 4, 0⟩)] := by decide

theorem test_latchAndReadTotals :
    let s := loading (truck 30400 three 0 1) ⟨194700, 21, 1, 4, 0⟩ none
    let latched := { s with acc := { s.acc with snapshot := { s.acc.snapshot with latched := true } } };
    (after (.latchTotals (ask 0x24 [])) s).acc.snapshot.totals = ⟨194700, 21, 1, 4, 0⟩ ∧
    answerOf (after (.latchTotals (ask 0x24 [])) latched) = [12] ∧
    answerOf (after (.readTotals (ask 0x16 [])) s) = [13] ∧
    (answerOf (after (.readTotals (ask 0x16 [])) latched)).length = 49 := by decide

theorem test_readLoadLog :
    let s := loading (truck 30400 three 0 1) AccountFigures.zero none
    let t := after (.readLoadLog (ask 0x25 [])) s
    t.acc.log.records = [loadOf 58] ∧ (answerOf t).length = 41 ∧ (answerOf t)[40]? = some 1 ∧
    answerOf (after (.readLoadLog (ask 0x25 [])) atWork) = [8] := by decide

/-! ### The worked examples of 09 -/

/-- The state of the overlay example, with its overlay set 1, STATUS to DP and FAULT to MP. -/
def displaying : State :=
  let s := loading { truck 30400 three 0 1 with list := [bucket 233 10400 .good], folded := 2, buckets := 3 }
    ⟨194700, 21, 1, 4, 0⟩ (some { lift with payload := some 12100 })
  { s with
    acc := { s.acc with overloadAhead := true }
    trk := { s.trk with phase := .carry, figures := ⟨14, 0, 420200, 14, 0, 0⟩ }
    rep := { s.rep with
      nodes := ⟨15, 2⟩
      tags := ⟨0, 40⟩
      routes := #v[.off, .off, .off, .off, .off, .dp, .mp, .off]
      overlay := s.rep.overlay.mapIdx fun i x =>
        ([OverlayEntry.initial, OverlayEntry.initial, ⟨true, 1, 4, true, .accPayload, 1, true⟩,
          ⟨true, 1, 8, false, .remaining, 10, true⟩, ⟨true, 1, 10, false, .targetFill, 1, true⟩,
          ⟨true, 1, 12, false, .pending, 1, false⟩, ⟨true, 1, 14, false, .bucketFill, 1, false⟩,
          ⟨true, 1, 16, false, .statusBits, 1, false⟩, ⟨true, 1, 18, false, .meanCycle, 1, false⟩,
          ⟨true, 1, 20, true, .shiftPayload, 1000, false⟩, ⟨true, 1, 24, false, .lastBucket, 1, false⟩] :
          List OverlayEntry)[i]?.getD x } }

/-- The page of 24 bytes as rewritten; entry 10 does not fit. -/
theorem test_overlay :
    let page := frameOf 0x21 (List.replicate 24 0xAA)
    let x := overlayPage 1 page displaying
    framePayload x.2 = [0xAA, 0xAA, 0xAA, 0xAA] ++ s32 30400 ++ u16 960 ++ u16 76 ++ u16 12100 ++ u16 110 ++ u16 2 ++
      u16 300 ++ s32 194 ∧
    checkHolds x.2 = true ∧ hasFault x.1.mgt.faults .overlayFit = true ∧ x.1.statusBits = 34 := by decide +kernel

theorem test_divisor_of_R171 :
    (⟨true, 0, 0, false, .remaining, 1000, true⟩ : OverlayEntry).field (some (-1700)) = some [0xFF, 0xFF] ∧
    (⟨true, 0, 0, true, .remaining, 1, true⟩ : OverlayEntry).field none = some [0xFF, 0xFF, 0xFF, 0xFF] ∧
    (⟨true, 0, 0, true, .remaining, 1, false⟩ : OverlayEntry).field none = none := by decide

/-- T1 is full; T2 reads the same state, and its mask is empty. -/
theorem test_statusReport :
    let t := after .statusReport displaying
    let u := after .statusReport t
    t.link.origQ.dp.map (fun e => (e.bytes.drop 5).take 3) = [[0xFF, 0, 1]] ∧ t.rep.tags.dp = 41 ∧ t.rep.changes.dp = 0 ∧
    (u.link.origQ.dp.drop 1).map (fun e => (e.bytes.drop 5).take 3) = [[0, 0, 0]] ∧ u.rep.changes.dp = 1 := by
  decide +kernel

/-- T4: with eleven reports in the DP queue the report is refused, and the memory kept. -/
theorem test_statusReport_refused :
    let s := { displaying with link := { displaying.link with origQ := ⟨[], List.replicate 11 ⟨.report, []⟩⟩ } }
    let t := after .statusReport s
    t.rep.memory.dp = none ∧ t.rep.tags.dp = 40 ∧ hasFault t.mgt.faults .reportDrop = true ∧ t.handed = [.faultReport 16] := by
  decide

theorem test_faultReport :
    (after (.faultReport 16) displaying).link.origQ.mp = [⟨.report, withCheck [0xF2, 0xF0, 0, 3, 7, 0, 16]⟩] ∧
    (after (.faultReport 16) displaying).rep.tags.mp = 1 := by decide +kernel

/-- Every kind routed to both ports. -/
def routed : State := { atWork with rep := { atWork.rep with routes := Vector.replicate 8 .both } }

theorem test_reports :
    let sends := fun c => (after c routed).link.origQ.dp.map fun e => (e.bytes[3]?, e.bytes[4]?)
    sends (.liftResultReport published) = [(some 28, some 1)] ∧ sends (.bucketReport creditReport) = [(some 24, some 2)] ∧
    sends (.targetReport ⟨.closed, slotFigures, none⟩) = [(some 26, some 3)] ∧
    sends (.calReport runReport) = [(some 9, some 8)] ∧ (after (.calReport runReport) atWork).link.origQ = ⟨[], []⟩ := by
  decide

/-- The two parts of a boundary complete its report; a part of it that comes later is ignored. -/
theorem test_shiftAssemblyArrival :
    let s := after (.shiftAssemblyArrival 3 (.tracker ⟨12, 0, 372400, 12, 0, 0⟩)) routed
    let t := after (.shiftAssemblyArrival 3 (.account ⟨194700, 21, 1, 4, 0⟩)) s
    s.rep.assembly.isSome = true ∧ s.link.origQ.mp = [] ∧ t.rep.lastClosing = some 3 ∧ t.rep.assembly = none ∧
    t.link.origQ.mp.map (fun e => (e.bytes.drop 4).take 6) = [[5, 0, 3, 0, 4, 3]] ∧
    (after (.shiftAssemblyArrival 3 .boundary) t).link.origQ = t.link.origQ := by decide +kernel

/-- The head record goes to both ports; with one port full, to neither. -/
theorem test_loadDrain :
    let s := { loading (truck 30400 three 0 1) AccountFigures.zero none with rep := routed.rep }
    let t := after .loadDrain s
    let full := { s with link := { s.link with origQ := ⟨[], List.replicate 11 ⟨.report, []⟩⟩ } }
    t.acc.log.inFlight = true ∧ t.rep.drain = ⟨.queued, .queued⟩ ∧ t.acc.log.records.length = 2 ∧
    t.link.origQ.mp.map (fun e => (e.kind, e.bytes[3]?)) = [(.loadReport, some 40)] ∧
    (after .loadDrain full).rep.drain = ⟨.absent, .absent⟩ ∧ (after .loadDrain full).mgt.faults = 0 := by decide

/-! ### The commands of 10 -/

theorem test_powerReset :
    let t := after (.powerReset 15) displaying
    t = { State.afterPowerReset 15 with pending := [] } ∧ t.link.node = 14 := by decide

theorem test_identify :
    answerOf (after (.identify (ask 0x10 [])) running) = [0, 58, 2, 0, 2, 2] ∧
    (after (.identify (ask 0x10 [])) State.reset).link.origQ.mp = [] := by decide

/-- A request in a frame: diverted, or dropped while the queue of its port holds a response. -/
theorem test_requestDiverted :
    let f := buildFrame 0xF0 0 3 7 [0x10]
    let s := heard .mp f running
    let busy := { s with link := { s.link with origQ := ⟨[⟨.response, []⟩], []⟩ } };
    (after (.characterReceived .mp .endMark) s).handed = [.identify (ask 0x10 [])] ∧
    (after (.characterReceived .mp .endMark) busy).handed = [] ∧
    (after (.characterReceived .mp .endMark) busy).link.counters.mp.busyDrops = 1 := by decide +kernel

theorem test_unknownCommand : answerOf (after (.unknownCommand (ask 0x43 [])) running) = [1] := by decide

/-- A command of a group that its port does not hold is denied: DP holds no CONFIG group. -/
theorem test_denied :
    let t := after (.enterConfig { ask 0x30 [] with port := .dp }) running
    t.link.origQ.dp.map (fun e => e.bytes[5]?) = [some 2] ∧ t.mgt.config = .run := by decide

theorem test_readEntry :
    answerOf (after (.readEntry (ask 0x11 [6, 48])) running) = [0, 24] ∧
    answerOf (after (.readEntry (ask 0x11 [16, 0])) running) = [4] ∧
    answerOf (after (.readEntry (ask 0x11 [0, 1])) running) = [5] ∧
    answerOf (after (.readEntry (ask 0x11 [3, 0])) running) =
      [0, 0, 1, 0, 0, 0, 0, 0, 0, 0, 0, 0, 0, 0, 0, 0, 0, 0, 0, 0, 0, 2, 255] := by decide

theorem test_readState :
    let s := preempting 0 { fastRuns with overrun := true } (slowAt .suspended 6 5) (some ⟨.fast, 0, 9⟩)
    let t := after (.readState (ask 0x12 [1])) s
    answerOf t = [0, 2, 0, 0, 0, 0, 1, 5, 6, 5, 0, 0, 0, 0, 1, 0] ∧ t.acq.queues.fast = fastRuns ∧
    answerOf (after (.readState (ask 0x12 [17])) s) = [6] := by decide

/-- Every section fits the 58 bytes of a response's data. -/
theorem test_readState_sections :
    ((List.range 17).all fun n => decide ((displaying.stateSection n).length ≤ 58 ∧
      (windowFull.stateSection n).length = (State.reset.stateSection n).length)) = true := by decide

theorem test_readClock :
    answerOf (after (.readClock (ask 0x13 [])) atWork) =
      [0, 0x07, 0xE8, 2, 29, 17, 59, 59, 1, 0, 0, 0, 0, 0, 0, 0, 0, 0, 0] := by decide

theorem test_readCounters :
    let s := { running with link := running.link.count .dp fun c => { c with busyDrops := 258 } };
    (answerOf (after (.readCounters (ask 0x14 [])) s)).drop 31 = [1, 2] := by decide

theorem test_faultCommands :
    let s := { running with mgt := { running.mgt with faults := 0x1002 } };
    answerOf (after (.readFaults (ask 0x15 [])) s) = [0, 0x10, 2] ∧
    answerOf (after (.clearFaults (ask 0x26 [])) s) = [0, 0x10, 2] ∧ (after (.clearFaults (ask 0x26 [])) s).mgt.faults = 0 := by
  decide

theorem test_clearCounters :
    let s := { running with weigh := { running.weigh with reversals := 3 }, sig := { running.sig with counters := ⟨1, 2, 3⟩ } }
    let t := after (.clearCounters (ask 0x27 [])) s
    t.weigh.reversals = 0 ∧ t.sig.counters = ⟨0, 0, 0⟩ ∧ answerOf t = [0] := by decide

theorem test_enterConfig :
    let s := { windowFull with trk := { windowFull.trk with pending := some lift, phase := .carry } }
    let t := after (.enterConfig (ask 0x30 [])) s
    t.mgt.config = .config ∧ t.weigh.state = .disabled ∧ t.trk.phase = .unknown ∧ t.handed = [.pendingLiftNotice] ∧
    answerOf t = [0, 1] ∧ answerOf (after (.enterConfig (ask 0x30 [])) configuring) = [3] := by decide

/-- R67, R107, R144: what a RUN handed on to its engines ends with it; a request for a target waits on. -/
theorem test_requests_withdrawn :
    let s := { running with handed := [.queueTrigger .fast, .weighSample 1200 4, .speedSample 510 4, .weighStaleNotice .tilt,
      .candidateEvaluation (.stale .tilt), .pendingLift lift, .reversalNotice, .calLift liftD forcesD, .newTarget] };
    (after (.enterConfig (ask 0x30 [])) s).handed = [.newTarget] ∧
    (after (.softReset (ask 0x41 [])) s).handed = [.newTarget] := by
  decide

/-- Steps 2 and 9 of the configuration session: the boundary 4, and an entry of the cycle record. -/
theorem test_writeEntry :
    let t := after (.writeEntry (ask 0x31 [6, 48, 4])) configuring
    t.acq.boundary = 4 ∧ (t.acq.queue .slow).position = 4 ∧ answerOf t = [0] ∧
    answerOf (after (.writeEntry (ask 0x31 [6, 48, 48])) configuring) = [6] ∧
    (after (.writeEntry (ask 0x31 ([10, 0] ++ cycleBytes cycling))) configuring).trk.params = cycling ∧
    answerOf (after (.writeEntry (ask 0x31 [6, 48, 4])) running) = [3] := by decide

/-- Ready for COMMIT: four required roles with sample words as their sources, and the records. -/
def written (carry : Int) : State :=
  { configuring with
    sig := { Signals.initial with roles := #v[some 0, some 1, some 2, some 3, none, none, none] }
    acq := { Acquisition.initial with
      boundary := 4
      words := Acquisition.initial.words.mapIdx fun i w =>
        ([⟨some 0, 0, false, false, some 0⟩, ⟨some 1, 0, false, false, some 1⟩, ⟨some 2, 1, false, false, some 2⟩,
          ⟨some 3, 1, false, true, some 3⟩] : List SampleWord)[i]?.getD w
      setup := ⟨⟨.continuous, .timer, true, 0⟩, QueueSetup.initial⟩ }
    time := { TimeBase.initial with timerTable := #v[2, 0, 0] }
    weigh := { Weighing.initial with params := lifting }
    trk := { Tracker.initial with params := { cycling with thetaCarry := carry } }
    acc := { Accounts.initial with params := ⟨95, 5⟩ } }

/-- Steps 8 and 10 of the configuration session. -/
theorem test_commit :
    let t := after (.commit (ask 0x32 [])) (written 3500)
    answerOf (after (.commit (ask 0x32 [])) (written 2500)) = [16, 9, 0] ∧
    t.mgt.config = .run ∧ answerOf t = [0] ∧ t.acq.queues.fast.state = .idle ∧ t.acq.queues.slow.state = .off ∧
    t.time.timers.tf = ⟨2, 2000, true, 0⟩ ∧ t.weigh.state = .armed := by decide

theorem test_softReset :
    let t := after (.softReset (ask 0x41 [])) windowFull
    t.mgt.config = .unconfigured ∧ t.cal.active = CalRecord.initial ∧ t.weigh.params = WeighRecord.zero ∧
    t.weigh.sequence = 211 ∧ answerOf t = [0] := by decide

theorem test_bypass :
    let t := after (.bypass (ask 0x42 [])) (preempting 0 fastRuns (slowAt .idle 4 4) (some ⟨.fast, 0, 9⟩))
    t.link.relay = .release ∧ t.link.limit = .running 100000 ∧ t.acq.released = true ∧ t.acq.conversion = none ∧
    answerOf t = [0, 3] := by decide

/-! ### Steps -/

/-- The command at the front is taken, and the queue's rest waits; with none waiting, a microsecond passes. -/
theorem test_step :
    let s := { running with pending := [.zero, .newTarget] };
    (match step s with | .next t => t.pending | _ => []) = [.newTarget] ∧
    (match step running with | .next t => t.time.tag | _ => 0) = 1 ∧
    (match step { running with handed := [.newTarget] } with | .next t => t.acc.pointer | _ => none) = some 0 := by
  decide

/-- No word spells a command. -/
theorem test_decodeTableWord : decodeTableWord 32 0x12345678 = none ∧ running.withFetchWord 32 5 = running := by
  decide

/-! ### States and operands that meet the hypotheses of the statements: the link -/

/-- A request over MP is admitted where the line is carried, no response waits and MP holds the four groups. -/
theorem admits_mp (s : State) (group : Group) (code : Byte) (data : List Byte) (line : carries s.link.relay = true)
    (queue : holdsResponse s.link.origQ.mp = false) (groups : s.mgt.inForce.mp = 0b1111) :
    s.admits group (ask code data) := by
  refine ⟨⟨line, queue⟩, ?_⟩
  show hasGroup s.mgt.inForce.mp group = true
  rw [groups]
  cases group <;> decide

theorem meets_StepRunsFrontCommand :
    ({ running with pending := [.zero, .newTarget] } : State).pending = .zero :: [.newTarget] := rfl

/-- Nothing due; an arbiter, a handed request, a conversion and a second that are. -/
theorem meets_EmptyQueueStep :
    (running.pending = [] ∧ (∀ p, running.link.arbiterDue p = false) ∧ running.handed = [] ∧
      running.acq.conversion = none ∧ ∀ c, ¬ running.Due c) ∧
    ((waiting 4).pending = [] ∧ (waiting 4).link.arbiterDue .dp = true) ∧
    (let s := { running with handed := [.newTarget] };
      s.pending = [] ∧ (∀ p, s.link.arbiterDue p = false) ∧ s.handed = .newTarget :: []) ∧
    (let s := preempting 0 fastRuns (slowAt .suspended 6 5) (some ⟨.fast, 0, 0⟩);
      s.pending = [] ∧ (∀ p, s.link.arbiterDue p = false) ∧ s.handed = [] ∧ s.acq.conversion = some ⟨.fast, 0, 0⟩) ∧
    (let s : State := { running with time := { running.time with secondLeft := 0 } };
      s.pending = [] ∧ (∀ p, s.link.arbiterDue p = false) ∧ s.handed = [] ∧ s.acq.conversion = none ∧ s.Due .secondEvent) := by
  refine ⟨⟨rfl, fun p => ?_, rfl, rfl, fun c h => ?_⟩, ⟨rfl, by decide⟩, ⟨rfl, fun p => ?_, rfl⟩,
    ⟨rfl, fun p => ?_, rfl, rfl⟩, rfl, fun p => ?_, rfl, rfl, .second rfl⟩
  case refine_2 =>
    cases h with
    | silence p _ h => cases p <;> revert h <;> decide
    | sent p x h => cases p <;> cases h
    | timer i c _ h => cases i <;> cases h
    | second h => revert h; decide
    | stale i x h =>
      have free : running.sig.slots[i] = SlotLive.initial := by
        show (Vector.replicate 32 SlotLive.initial)[i.val] = _
        rw [Vector.getElem_replicate]
      rw [free] at h
      cases h
    | limit h => cases h
  all_goals cases p <;> decide

theorem meets_InvariantsAtReset : ∃ t, exec (.powerReset 9) running = .next t := ⟨_, rfl⟩

theorem meets_CheckOfFrame : checkHolds ([0x31, 0x32, 0x33, 0x34, 0x35, 0x36, 0x37, 0x38, 0x39] ++ [0x29, 0xB1]) = true := by
  decide +kernel

/-- An ingress side of MP in a mode, with a run of SPACE characters. -/
def hearing (mode : IngressMode) (spaces : Nat) : State :=
  { running with link := running.link.setIngress .mp ⟨mode, spaces, 0⟩ }

/-- An MP side of a relay state, with its silence, its run and the mode and run of the DP side. -/
def silent (state : RelayState) (mode other : IngressMode) (spaces others silence : Nat) : State :=
  { running with link := { running.link with relay := state, ingress := ⟨⟨mode, spaces, silence⟩, ⟨other, others, 0⟩⟩ } }

/-- Each way a side takes a character, at the bounds of the run of SPACE. -/
theorem takes_each :
    (Ingress.mk (.hunt true) 3 0).Takes .endMark (.aligned none) 0 ∧
    (Ingress.mk .down 15 0).Takes .space (.aligned none) 16 ∧
    (Ingress.mk (.hunt true) 14 0).Takes .space (.hunt true) 15 ∧
    (Ingress.mk .down 0 0).Takes (.data 7) (.hunt true) 0 ∧
    (Ingress.mk (.aligned none) 0 0).Takes .start (.aligned (some ⟨[], 0⟩)) 0 ∧
    (Ingress.mk (.aligned none) 16 0).Takes .space (.aligned none) 16 ∧
    (Ingress.mk (.aligned none) 3 0).Takes .abort (.aligned none) 0 ∧
    (Ingress.mk (.aligned none) 3 0).Takes .codingError (.hunt true) 0 ∧
    (Ingress.mk (.aligned (some ⟨[1], 1⟩)) 0 0).Takes (.data 2) (.aligned (some ⟨[1, 2], 2⟩)) 0 ∧
    (Ingress.mk (.aligned (some ⟨[1], 1⟩)) 0 0).Takes .space (.aligned none) 1 :=
  ⟨.boundary true _ (.inl rfl) (.inl rfl), .sixteenth false (.inr ⟨rfl, rfl⟩) (by decide),
    .earlier true (.inl rfl) (by decide), .material false _ (.inr ⟨rfl, rfl⟩) (.inr (.inr ⟨_, rfl⟩)), .opens rfl,
    .idles rfl, .discards _ rfl (.inr rfl), .loses _ rfl (.inl rfl), .byte ⟨[1], 1⟩ 2 rfl,
    .closes ⟨[1], 1⟩ _ rfl (nofun)⟩

/-- A hunt over material that ends in RELAY, and in BYPASS; a frame that takes a byte; and one that closes in
TAKEOVER. -/
theorem meets_CharacterTaken :
    (∀ mode n, (hearing mode n).link.ingress.get .mp = ⟨mode, n, 0⟩ ∧ carries (hearing mode n).link.relay = true) ∧
    ((silent .bypass (.hunt true) .down 3 0 0).link.ingress.get .mp = ⟨.hunt true, 3, 0⟩ ∧
      carries (silent .bypass (.hunt true) .down 3 0 0).link.relay = false) ∧
    ((silent .takeover (.aligned (some ⟨[1], 1⟩)) .down 0 0 0).link.ingress.get .mp = ⟨.aligned (some ⟨[1], 1⟩), 0, 0⟩ ∧
      carries (silent .takeover (.aligned (some ⟨[1], 1⟩)) .down 0 0 0).link.relay = false) ∧
    (∃ b, Character.data 2 = .data b) :=
  ⟨fun _ _ => ⟨rfl, rfl⟩, ⟨rfl, rfl⟩, ⟨rfl, rfl⟩, _, rfl⟩

theorem stopped_ne : ReleaseLimit.stopped ≠ .expired := by decide

theorem running_carries : carries running.link.relay = true := rfl

theorem heard_carries (f : List Byte) : carries (heard .mp f running).link.relay = true := rfl

/-- A frame stands whole in MP while the line is in RELEASE, its limit run out. -/
def cutting (f : List Byte) (s : State) : State :=
  { heard .mp f s with link := { (heard .mp f s).link with relay := .release, limit := .expired } }

/-- The three statements of a frame that closes reach a RELEASE whose limit has run out. -/
theorem cutting_meets (f : List Byte) (s : State) :
    carries (cutting f s).link.relay = true ∧ (cutting f s).link.limit = .expired ∧
    ((cutting f s).link.ingress.get .mp).mode = .aligned (some ⟨f, f.length⟩) := ⟨rfl, rfl, rfl⟩

/-- A runt of five bytes and a giant of 67, closed by END, and a good frame closed by ABORT; then a good frame of the
class 0xF1, and one of a class that is not reserved, outside RUN. -/
theorem meets_ClosedFrameRelayed :
    (carries running.link.relay = true ∧
      (∀ f : FrameIn, f = ⟨List.replicate 5 0, 5⟩ ∨ f = ⟨List.replicate 66 0, 67⟩ →
        f.stored.length ≤ 66 ∧ (∀ b, Character.endMark ≠ .data b) ∧ ¬ (Character.endMark = .endMark ∧ f.good) ∧
        (f.count ≤ 66 → f.count = f.stored.length) ∧
        ((hearing (.aligned (some f)) 0).link.ingress.get .mp).mode = .aligned (some f))) ∧
    (∀ b, Character.abort ≠ .data b) ∧ ¬ (Character.abort = .endMark) ∧
    (let f : FrameIn := ⟨frameOf 0xF1 [7], 7⟩;
      f.good ∧ ¬ (frameClass f.stored = 0xF0) ∧ reservedClass (frameClass f.stored) = true) ∧
    (let f : FrameIn := ⟨frameOf 0x20 [7], 7⟩;
      f.good ∧ ¬ (frameClass f.stored = 0xF0) ∧ configuring.mgt.config ≠ .run) := by
  unfold FrameIn.good
  refine ⟨⟨running_carries, fun f h => ?_⟩, by decide, by decide, by decide +kernel, by decide +kernel⟩
  rcases h with h | h <;> subst h
  · exact ⟨by decide, by decide, by decide, by decide, rfl⟩
  · exact ⟨by decide, by decide, by decide, by decide, rfl⟩

theorem meets_RequestDiverted :
    let f : FrameIn := ⟨buildFrame 0xF0 0 3 7 [0x10], 7⟩
    carries (heard .mp f.stored running).link.relay = true ∧
    ((heard .mp f.stored running).link.ingress.get .mp).mode = .aligned (some f) ∧ f.good ∧
    frameClass f.stored = 0xF0 ∧ frameDestination f.stored = (heard .mp f.stored running).link.node ∧
    (ask 0x42 (List.replicate 59 0)).data.length ≤ 59 := by
  unfold FrameIn.good
  exact ⟨heard_carries _, rfl, by decide +kernel, by decide +kernel, by decide +kernel, by decide⟩

/-- A page that is not consumed; a frame that meets no page; and a key frame that is consumed. -/
theorem meets_MatchedFrame :
    (let f : FrameIn := ⟨frameOf 0x21 payload12, 18⟩;
      carries (heard .mp f.stored matching).link.relay = true ∧
      ((heard .mp f.stored matching).link.ingress.get .mp).mode = .aligned (some f) ∧ f.good ∧
      reservedClass (frameClass f.stored) = false ∧ (heard .mp f.stored matching).mgt.config = .run ∧
      (∀ x ∈ matching.sig.matching .mp f.stored, x.1.consume = false) ∧ pageOf (matching.sig.matching .mp f.stored) 1) ∧
    (let f : FrameIn := ⟨frameOf 0x31 [], 6⟩;
      f.good ∧ reservedClass (frameClass f.stored) = false ∧ ∀ set, ¬ pageOf (matching.sig.matching .mp f.stored) set) ∧
    (let f : FrameIn := ⟨frameOf 0x30 [0x41], 7⟩;
      f.good ∧ reservedClass (frameClass f.stored) = false ∧
      ∃ x ∈ matching.sig.matching .dp f.stored, x.1.consume = true) := by
  unfold FrameIn.good pageOf
  refine ⟨⟨rfl, by decide +kernel, by decide +kernel, by decide +kernel, rfl, by decide +kernel,
    (matching.sig.matching .mp (frameOf 0x21 payload12)).take 2,
    (⟨true, .fromMp, 0x21, 0xFF, 0, 0, 0x03, 0xFF, 0, false, .page 1⟩, 5),
    (matching.sig.matching .mp (frameOf 0x21 payload12)).drop 3, by decide +kernel, rfl, ?_⟩,
    ⟨by decide +kernel, by decide +kernel, fun set => ?_⟩, by decide +kernel⟩
  · have h : ∀ y ∈ (matching.sig.matching .mp (frameOf 0x21 payload12)).take 2,
        (match y.1.action with | .page _ => true | _ => false) = false := by decide +kernel
    intro y hy k hk
    have h2 := h y hy
    rw [hk] at h2
    exact nomatch h2
  · have h : matching.sig.matching .mp (frameOf 0x31 []) = [] := by decide +kernel
    rw [h]
    intro ⟨before, x, after, h2, _⟩
    cases before <;> cases h2

theorem meets_DownAndTakeover :
    (let s := silent .relay (.aligned none) (.aligned none) 0 0 2000;
      s.link.relay ≠ .takeover ∧ (s.link.ingress.get .mp).mode ≠ .down ∧ 2000 ≤ (s.link.ingress.get .mp).silence) ∧
    (silent .relay .down .down 0 0 2000).link.ingress.mp.mode = .down ∧
    (silent .relay (.hunt true) .down 0 0 1999).link.ingress.mp.silence < 2000 ∧
    (let s := silent .takeover (.hunt false) (.aligned none) 15 16 0;
      s.link.relay = .takeover ∧ 15 ≤ s.link.ingress.mp.spaces ∧ 16 ≤ (s.link.ingress.get (otherPort .mp)).spaces) ∧
    ((silent .takeover (.hunt false) .down 15 0 0).link.ingress.get (otherPort .mp)).mode = .down ∧
    (silent .takeover (.hunt false) .down 14 0 0).link.ingress.mp.spaces < 15 ∧
    (let s := silent .takeover (.hunt false) (.hunt false) 15 15 2000;
      ¬ (16 ≤ (s.link.ingress.get (otherPort .mp)).spaces ∨ (s.link.ingress.get (otherPort .mp)).mode = .down) ∧
      s.link.ingress.mp.mode ≠ .down ∧ 2000 ≤ s.link.ingress.mp.silence) ∧
    (let s := silent .takeover (.hunt false) .down 0 0 2000;
      s.link.relay = .takeover ∧ s.link.ingress.mp.mode ≠ .down ∧ 2000 ≤ s.link.ingress.mp.silence ∧
      (s.link.ingress.get (otherPort .mp)).mode = .down) ∧
    ((silent .takeover .down .down 0 0 2000).link.ingress.mp.mode = .down ∧
      (silent .takeover (.hunt false) .down 0 0 1999).link.ingress.mp.silence < 2000) := by decide

/-- The pass-over counts 3 and 4 with both queues waiting; an empty relay queue in RELEASE, where the second entry is the
first response; and each of the three conditions that hold an arbiter back. -/
theorem meets_ArbiterStarts :
    (∀ n, (waiting n).link.mayStart ∧ ((waiting n).link.egress.get .dp).tx = none ∧
      (waiting n).link.gapInUse ≤ ((waiting n).link.egress.get .dp).gap ∧
      ((waiting n).link.egress.get .dp).passOver = n ∧
      (waiting n).link.relayQ.get .dp = ⟨List.replicate 20 0, .endMark⟩ :: [⟨List.replicate 20 1, .endMark⟩] ∧
      ((waiting n).link.origQ.get .dp)[0]? = some ⟨.report, List.replicate 14 2⟩ ∧
      (waiting n).link.relay = .relay) ∧
    ((waiting 0).link.relayQ.get .mp = [] ∧ (waiting 0).link.origQ.get .mp = []) ∧
    (releasing.link.relay = .release ∧ releasing.link.relayQ.get .mp = [] ∧
      (releasing.link.origQ.get .mp)[1]? = some ⟨.response, [2]⟩ ∧
      ∀ j < 1, ∀ y, (releasing.link.origQ.get .mp)[j]? = some y → y.kind ≠ .response) ∧
    ((releasing.link.egress.get .mp).tx ≠ none ∧ (running.link.egress.get .mp).gap < running.link.gapInUse ∧
      ¬ State.reset.link.mayStart) := by
  refine ⟨fun n => ⟨⟨rfl, stopped_ne⟩, rfl, Nat.le_refl 4, rfl, rfl, rfl, rfl⟩, ⟨rfl, rfl⟩, ⟨rfl, rfl, rfl, ?_⟩,
    by decide, by decide, fun h => by simpa [State.reset, State.afterPowerReset, Link.initial, carries] using h.1⟩
  intro j hj y hy
  have : j = 0 := by omega
  subst this
  have : y = ⟨.report, [1]⟩ := by
    have h : (some ⟨.report, [1]⟩ : Option OrigEntry) = some y := hy
    exact (Option.some.inj h).symm
  subst this
  decide

/-- A transmission on MP has run its time, with a copy state for each port. -/
def sending (source : TxSource) (kind : OrigKind) (drain : PerPort CopyState) : State :=
  { running with
    link := { running.link with
      relayQ := ⟨[⟨[1], .endMark⟩], []⟩
      origQ := ⟨[⟨kind, [2]⟩], []⟩
      egress := ⟨⟨some ⟨source, [2], .endMark, 0⟩, 4, 0, 0⟩, ⟨none, 4, 0, 0⟩⟩ }
    rep := { running.rep with drain := drain } }

theorem meets_TransmissionCompletes :
    (∀ source kind drain, (((sending source kind drain).link.egress.get .mp).tx = some ⟨source, [2], .endMark, 0⟩ ∧
      ((sending source kind drain).link.origQ.get .mp)[0]? = some ⟨kind, [2]⟩)) ∧
    (sending (.originate 0) .loadReport ⟨.queued, .queued⟩).rep.drain.get (otherPort .mp) = .queued ∧
    (sending (.originate 0) .loadReport ⟨.queued, .discarded⟩).rep.drain.get (otherPort .mp) ≠ .queued ∧
    OrigKind.report ≠ .loadReport := by
  refine ⟨fun _ _ _ => ⟨rfl, rfl⟩, rfl, by decide, by decide⟩

/-- A RELEASE with both transmitters free, and a LOAD report that is flushed at its end. -/
def draining (limit : ReleaseLimit) (toMp : List RelayEntry) : State :=
  { running with
    link := { running.link with
      relay := .release, limit := limit, relayQ := ⟨toMp, []⟩, origQ := ⟨[⟨.loadReport, [2]⟩], []⟩ }
    acc := { running.acc with log := ⟨[loadOf 1], 2, 0, false, true⟩ }
    rep := { running.rep with drain := ⟨.queued, .absent⟩ } }

theorem draining_drainInv (limit : ReleaseLimit) (toMp : List RelayEntry) : (draining limit toMp).DrainInv := by
  refine ⟨fun p => ?_, ⟨fun _ => ⟨.mp, rfl⟩, fun _ => rfl⟩, fun p => ?_, fun _ => (nofun : [loadOf 1] ≠ [])⟩
  · cases p
    · exact (by decide : loadReports [⟨.loadReport, [2]⟩] = 1)
    · exact (by decide : loadReports [] = 0)
  · intro h
    cases p
    · exact absurd h (by decide : ¬ (CopyState.queued = .completed ∨ CopyState.queued = .discarded))
    · exact absurd h (by decide : ¬ (CopyState.absent = .completed ∨ CopyState.absent = .discarded))

/-- A RELEASE that has drained, its limit about to run out. -/
def drained : State := draining (.running 0) []

theorem meets_ReleaseEnds :
    (drained.DrainInv ∧ drained.link.relay = .release ∧ drained.link.relayQ = ⟨[], []⟩ ∧
      (∀ p, ∀ f, (drained.link.ingress.get p).mode ≠ .aligned (some f)) ∧
      (drained.link.egress.mp.tx = none ∧ drained.link.egress.dp.tx = none) ∧
      (∀ p, ∀ e ∈ drained.link.origQ.get p, e.kind ≠ .response) ∧ (∀ c ∈ drained.handed, requestOf c = none)) ∧
    drained.link.limit = .running 0 ∧ running.link.relay ≠ .release ∧
    (let s := draining .expired [⟨[1], .endMark⟩];
      s.DrainInv ∧ s.link.limit = .expired ∧ s.link.egress.mp.tx = none ∧ s.link.egress.dp.tx = none) := by
  refine ⟨⟨draining_drainInv _ _, rfl, rfl, fun p f => ?_, ⟨rfl, rfl⟩, fun p => ?_, by decide⟩, rfl, by decide,
    draining_drainInv _ _, rfl, rfl, rfl⟩
  · cases p <;> intro h <;> cases (h : IngressMode.hunt false = .aligned (some f))
  · cases p <;> decide

theorem meets_BypassBeginsRelease :
    running.admits .control (ask 0x42 []) ∧ running.link.relay = .relay ∧
    drained.admits .control (ask 0x42 []) ∧ drained.link.relay = .release :=
  ⟨admits_mp _ _ _ _ rfl rfl rfl, rfl, admits_mp _ _ _ _ rfl rfl rfl, rfl⟩

theorem running_linkInv : running.link.Inv := by
  refine ⟨fun p => ⟨?_, ?_, ?_, ?_, ?_, ?_, ?_, ?_, ?_⟩, by decide, by decide⟩
  case refine_9 => cases p <;> intro f h <;> cases h
  case refine_6 => cases p <;> intro t h <;> cases h
  case refine_7 => intro h; cases h
  case refine_8 => intro h; cases h
  all_goals (cases p <;> decide)

theorem meets_RelayStateMoves :
    (running.link.Inv ∧ (∀ straps, Instr.bypass (ask 0x42 []) ≠ .powerReset straps) ∧
      ∃ t, exec (.bypass (ask 0x42 [])) running = .next t) ∧
    (let l := { running.link with relay := .bypass };
      l.Inv ∧ l.relay = .bypass) := by
  refine ⟨⟨running_linkInv, fun _ h => (nomatch h), _, rfl⟩, ⟨fun p => ?_, by decide, by decide⟩, rfl⟩
  have h := running_linkInv.ports p
  refine ⟨h.relayFrames, h.relayLimit, h.reports, h.responses, h.passOver, ?_, fun _ => ?_, fun _ => ?_, h.stored⟩
  · intro t ht; cases p <;> cases ht
  · cases p <;> exact ⟨rfl, rfl⟩
  · cases p <;> rfl

theorem meets_StepKeepsLinkInv : running.link.Inv ∧ ∃ t, step running = .next t := by
  refine ⟨running_linkInv, ?_⟩
  cases h : step running with
  | next t => exact ⟨t, rfl⟩
  | fault r => exact nomatch r
  | refused r => exact absurd h (by have : ∃ t, step running = .next t := ⟨_, rfl⟩; obtain ⟨t, ht⟩ := this; rw [ht]; intro h2; cases h2)

/-! ### The signal table, the faults, the acquisition unit and the time base -/

/-- A slot with its staleness timer at some µs of a timeout of 50 ms, for a role. -/
def ageing (slot : Fin 32) (elapsed : Nat) (s : State) : State :=
  { s with sig := { s.sig with slots :=
    (s.sig.slots.set slot { SlotLive.initial with fresh := .fresh, timer := some ⟨elapsed, 50⟩ }) } }

/-- A SPEED slot that goes STALE takes the current acceleration with it, and keeps the memory; another slot's does not
(R97). -/
theorem test_stale_speed_of_R97 :
    let s := fun i => ageing i 50000
      { atWork with weigh := { atWork.weigh with speed := some ⟨510, 7⟩, accel := some 150 } }
    (after (.stalenessExpiry 4) (s 4)).weigh = { (s 4).weigh with accel := none } ∧
    (after (.stalenessExpiry 5) (s 5)).weigh = (s 5).weigh ∧
    (after (.stalenessExpiry 4) (s 4)).sig.freshOf .speed = false := by decide

theorem meets_SlotGoesStale :
    (∀ i : Fin 32, (ageing i 50000 configuring).mgt.config ≠ .run) ∧
    ((ageing 2 50000 atWork).sig.slots[(2 : Fin 32)].timer = some ⟨50000, 50⟩ ∧ 50 * 1000 ≤ 50000) ∧
    (∀ r, r = .headP ∨ r = .rodP ∨ r = .boom ∨ r = .tilt ∨ r = .park ∨ r = .speed ∨ r = .pitch →
      ∃ i : Fin 32, (ageing i 50000 atWork).mgt.config = .run ∧
        ∀ r', (ageing i 50000 atWork).sig.slotOf r' = some i ↔ r' = r) ∧
    (∀ r, (ageing 20 50000 atWork).sig.slotOf r ≠ some 20) ∧
    ((ageing 2 49999 atWork).sig.slots[(2 : Fin 32)].timer = some ⟨49999, 50⟩ ∧ 49999 < 50 * 1000) := by
  refine ⟨fun _ => (nofun : ConfigState.config ≠ .run), ⟨by decide, by decide⟩, fun r _ => ?_,
    fun r => ?_, ⟨by decide, by decide⟩⟩
  · cases r
    · exact ⟨0, rfl, fun r' => by cases r' <;> decide⟩
    · exact ⟨1, rfl, fun r' => by cases r' <;> decide⟩
    · exact ⟨2, rfl, fun r' => by cases r' <;> decide⟩
    · exact ⟨3, rfl, fun r' => by cases r' <;> decide⟩
    · exact ⟨4, rfl, fun r' => by cases r' <;> decide⟩
    · exact ⟨5, rfl, fun r' => by cases r' <;> decide⟩
    · exact ⟨6, rfl, fun r' => by cases r' <;> decide⟩
  · cases r <;> decide

theorem meets_FaultFlags :
    hasFault (after (.faultSet .mpDown) running).mgt.faults .mpDown = true ∧
    hasFault running.mgt.faults .mpDown = false ∧
    (∀ straps, Instr.zero ≠ .powerReset straps) ∧ (∀ req, Instr.zero ≠ .clearFaults req) ∧
    ∃ t, exec .zero (after (.faultSet .mpDown) running) = .next t :=
  ⟨by decide, by decide, nofun, nofun, _, rfl⟩

/-- The preemption sequence at a moment: the fast queue converts word 0. -/
def converting : State := preempting 0 fastRuns (slowAt .suspended 6 5) (some ⟨.fast, 0, 0⟩)

theorem preempting_acqInv (fast slow : SampleQueue) (c : Option Conversion)
    (converts : ∀ q, (([fast, slow] : List SampleQueue)[(queueCode q).toNat]?.any fun x => x.state == .active) = true ↔
      ∃ v, c = some v ∧ v.queue = q)
    (rest :
      (∀ v, c = some v → v.word = (([fast, slow] : List SampleQueue)[(queueCode v.queue).toNat]?.elim 0 fun x => x.position)) ∧
      ¬ (fast.state = .active ∧ slow.state = .active) ∧ (fast.state ≠ .pending ∧ fast.state ≠ .suspended) ∧
      (slow.state = .pending ∨ slow.state = .suspended → fast.state = .active) ∧
      (fast.position ≤ 3 ∧ fast.subStart ≤ 3) ∧ 4 ≤ slow.position ∧ slow.position ≤ 47 ∧ 4 ≤ slow.subStart ∧
      slow.subStart ≤ 47) : (preempting 0 fast slow c).acq.Inv := by
  obtain ⟨h1, h2, h3, h4, h5, h6⟩ := rest
  refine ⟨⟨by show 1 ≤ 4; decide, by show 4 ≤ 47; decide⟩, fun q => ?_, fun v hv => ?_, h2, h3, h4, nofun, fun q => ?_, fun q _ => ?_⟩
  · have h := converts q
    cases q <;> simp [queueCode] at h <;> exact h
  · have h := h1 v hv
    match v, hv, h with
    | ⟨.fast, _, _⟩, _, h => exact h
    | ⟨.slow, _, _⟩, _, h => exact h
  · cases q
    · exact ⟨Nat.zero_le _, h5.1, Nat.zero_le _, h5.2⟩
    · exact ⟨h6.1, h6.2.1, h6.2.2.1, h6.2.2.2⟩
  · cases q
    · exact ⟨nofun, (by decide : (some (0 : Fin 11)).isSome = true)⟩
    · exact ⟨nofun, (by decide : (some (5 : Fin 11)).isSome = true)⟩

/-- The fast queue converts a word of its four. -/
theorem fast_acqInv (w : Nat) (h : w ≤ 3) :
    (preempting 0 { fastRuns with position := w } (slowAt .suspended 6 5) (some ⟨.fast, w, 0⟩)).acq.Inv := by
  refine preempting_acqInv _ _ _ (fun q => ?_) ⟨fun v hv => ?_, by simp [fastRuns, slowAt], by simp [fastRuns],
    fun _ => rfl, ⟨h, Nat.zero_le _⟩, by decide, by decide, by decide, by decide⟩
  · cases q <;> simp [queueCode, fastRuns, slowAt]
  · cases hv; rfl

/-- The slow queue converts a word of its four. -/
theorem slow_acqInv (w : Nat) (low : 4 ≤ w) (high : w ≤ 47) :
    (preempting 0 fastIdle (slowAt .active w 4) (some ⟨.slow, w, 0⟩)).acq.Inv := by
  refine preempting_acqInv _ _ _ (fun q => ?_) ⟨fun v hv => ?_, by simp [fastIdle], by simp [fastIdle],
    fun h => by simp [slowAt] at h, ⟨Nat.zero_le _, Nat.zero_le _⟩, low, high, Nat.le_refl 4, (by decide : 4 ≤ 47)⟩
  · cases q <;> simp [queueCode, fastIdle, slowAt]
  · cases hv; rfl

theorem running_sigInv : running.sig.Inv := by
  intro i
  have h : running.sig.slots[i] = SlotLive.initial := by
    show (Vector.replicate 32 SlotLive.initial)[i.val] = _
    rw [Vector.getElem_replicate]
  rw [h]
  exact ⟨by decide, nofun, nofun⟩

theorem meets_StepKeepsAcquisitionInv :
    (running.sig.Inv ∧ ∃ t, step running = .next t) ∧ (converting.acq.Inv ∧ ∃ t, step converting = .next t) :=
  ⟨⟨running_sigInv, _, rfl⟩, fast_acqInv 0 (by decide), _, rfl⟩

/-- A word of each reference channel, the last with a destination. -/
def checking (channel : Fin 11) : State :=
  let s := preempting 0 fastIdle (slowAt .active 7 5) (some ⟨.slow, 7, 0⟩)
  { s with acq := { s.acq with words := s.acq.words.set 7 ⟨some channel, 0, false, true, some 5⟩ } }

theorem meets_ConversionWrites :
    (converting.acq.conversion = some ⟨.fast, 0, 0⟩ ∧ (converting.acq.word 0).dest = some 0 ∧
      converting.mgt.config = .run ∧ configuring.mgt.config ≠ .run) ∧
    (preempting 0 fastIdle (slowAt .active 7 5) (some ⟨.slow, 7, 0⟩)).acq.conversion = some ⟨.slow, 7, 0⟩ ∧ 7 < 48 ∧
    (converting.acq.word 7).dest = none ∧
    (∀ n, (checking n).acq.conversion = some ⟨.slow, 7, 0⟩ ∧ ((checking n).acq.word 7).channel = some n ∧
      ((checking n).acq.word 7).dest = some 5) ∧
    24 < (25 : BitVec 12).toNat ∧ (4070 : BitVec 12).toNat < 4071 ∧ (2023 : BitVec 12).toNat < 2024 ∧
    2072 < (2073 : BitVec 12).toNat ∧ ¬ 24 < (24 : BitVec 12).toNat ∧ ¬ (4071 : BitVec 12).toNat < 4071 ∧
    ¬ ((2024 : BitVec 12).toNat < 2024 ∨ 2072 < (2024 : BitVec 12).toNat) ∧
    ¬ ((2072 : BitVec 12).toNat < 2024 ∨ 2072 < (2072 : BitVec 12).toNat) :=
  ⟨⟨rfl, rfl, rfl, (nofun : ConfigState.config ≠ .run)⟩, rfl, by decide, rfl, fun _ => ⟨rfl, rfl, rfl⟩, by decide,
    by decide, by decide, by decide, by decide, by decide, by decide, by decide⟩

/-- The final word of each queue in CONTINUOUS; a break word; and a word that neither ends nor breaks. The final word in
SINGLE differs in the setup alone. -/
theorem meets_QueueContinues :
    (let s := preempting 0 { fastRuns with position := 3 } (slowAt .suspended 6 5) (some ⟨.fast, 3, 0⟩);
      s.acq.Inv ∧ s.acq.conversion = some ⟨.fast, 3, 0⟩ ∧ (s.acq.word 3).last = true ∧
      (s.acq.setup.get .fast).mode = .continuous ∧
      ({ s.acq with setup := ⟨⟨.single, .timer, true, 0⟩, s.acq.setup.slow⟩ } : Acquisition).Inv) ∧
    (let s := preempting 0 fastIdle (slowAt .active 4 4) (some ⟨.slow, 4, 0⟩);
      s.acq.Inv ∧ ¬ ((s.acq.word 4).last = true ∨ 4 = s.acq.highWord .slow ∨ (s.acq.word 5).channel = none) ∧
      (s.acq.word 4).brk = true) ∧
    (let s := preempting 0 fastIdle (slowAt .active 5 4) (some ⟨.slow, 5, 0⟩);
      s.acq.Inv ∧ ¬ ((s.acq.word 5).last = true ∨ 5 = s.acq.highWord .slow ∨ (s.acq.word 6).channel = none) ∧
      (s.acq.word 5).brk = false) := by
  have h := fast_acqInv 3 (by decide)
  refine ⟨⟨h, rfl, rfl, rfl, ⟨h.boundary, h.converts, h.word, h.oneActive, h.fastNeverWaits, h.slowWaits, h.released,
    h.inRange, fun q hq => ?_⟩⟩, ⟨slow_acqInv 4 (by decide) (by decide), by decide, rfl⟩,
    slow_acqInv 5 (by decide) (by decide), by decide, rfl⟩
  have h2 := h.armed q hq
  cases q
  · exact ⟨nofun, h2.2⟩
  · exact h2

/-- An expiry of TF for a queue whose source is TIMER, one of TS for one whose source is COMMAND; TRIGGER of each. The
slow queue is IDLE, PAUSED, OFF and busy in turn, while the fast one is IDLE and ACTIVE. -/
theorem meets_QueueTriggered :
    (converting.acq.setup.get .fast).trigger = .timer ∧ (converting.acq.setup.get .slow).trigger = .command ∧
    converting.admits .control (ask 0x40 [1, 2]) ∧ 2 ≤ (ask 0x40 [1, 2]).data.length ∧
    converting.mgt.config ≠ .unconfigured ∧ (ask 0x40 [1, 2]).data[0]? = some (queueCode .slow) ∧
    (ask 0x40 [0, 2]).data[0]? = some (queueCode .fast) ∧
    (converting.acq.queue .slow).state ≠ .off ∧ ¬ (converting.acq.queue .slow).ready ∧
    ((preempting 0 fastIdle (slowAt .idle 4 4) none).acq.queue .fast).ready ∧
    ((preempting 0 fastIdle (slowAt .paused 5 4) none).acq.queue .slow).ready ∧
    (running.acq.queue .slow).state = .off := by
  refine ⟨rfl, rfl, admits_mp _ _ _ _ rfl rfl rfl, by decide, nofun, rfl, rfl, nofun, nofun, .inl rfl, .inr rfl, rfl⟩

theorem meets_ArmAndDisarm :
    (converting.admits .control (ask 0x40 [0, 0]) ∧ 2 ≤ (ask 0x40 [0, 0]).data.length ∧
      converting.mgt.config ≠ .unconfigured ∧ (ask 0x40 [0, 0]).data[0]? = some (queueCode .fast) ∧
      (ask 0x40 [0, 0]).data[1]? = some 0 ∧ converting.acq.released = false) ∧
    ({ converting.acq with released := true }).released = true ∧
    ((running.acq.setup.get .fast).mode = .off ∧ running.acq.released = false) ∧
    (¬ ((converting.acq.setup.get .fast).mode = .off ∨
        (converting.acq.word (converting.acq.firstWord .fast)).channel = none) ∧
      (converting.acq.queue .fast).state ≠ .off) ∧
    ((preempting 0 { fastIdle with state := .off } (slowAt .off 4 4) none).acq.queue .fast).state = .off ∧
    (converting.acq.queue .fast).state = .active ∧
    ((preempting 0 fastIdle (slowAt .active 4 4) (some ⟨.slow, 4, 9⟩)).acq.queue .slow).state = .active := by
  refine ⟨⟨admits_mp _ _ _ _ rfl rfl rfl, by decide, nofun, rfl, rfl, rfl⟩, rfl, ⟨rfl, rfl⟩, ⟨by decide, nofun⟩, rfl, rfl, rfl⟩

theorem meets_TimersRun :
    (let due : TimeBase := { running.time with timers := ⟨⟨2, 0, true, 0⟩, ⟨0, 0, false, 0⟩, ⟨500, 1, true, 0⟩,
        ⟨200, 0, true, 4⟩, ⟨600, 0, true, 2⟩⟩ };
      ((due.timer .tf).running = true ∧ (due.timer .tf).left = 0) ∧ (due.timer .ts).running = false ∧
      (due.timer .tr).left ≠ 0 ∧ ((due.timer .td).running = true ∧ (due.timer .td).left = 0) ∧
      ((due.timer .tc).running = true ∧ (due.timer .tc).left = 0)) := by decide

/-- The clock in a second, due for its event. -/
def clockAtEnd (c : Clock) : State := { atWork with time := { atWork.time with secondLeft := 0, clock := c } }

theorem meets_SecondAdvancesClock :
    (∀ c, (clockAtEnd c).time.secondLeft = 0 ∧ (clockAtEnd c).time.clock = c) ∧
    ([⟨2024, 2, 29, 17, 59, 58⟩, ⟨2024, 2, 29, 17, 58, 59⟩, ⟨2024, 2, 29, 22, 59, 59⟩, ⟨2024, 2, 28, 23, 59, 59⟩,
      ⟨2024, 2, 29, 23, 59, 59⟩, ⟨2023, 2, 28, 23, 59, 59⟩, ⟨2023, 4, 30, 23, 59, 59⟩, ⟨2098, 12, 31, 23, 59, 59⟩,
      ⟨2099, 12, 31, 23, 59, 59⟩].all fun c : Clock => c.badField == none) = true ∧
    (∀ straps, Instr.zero ≠ .powerReset straps) ∧ Instr.zero ≠ .secondEvent ∧ (∀ req, Instr.zero ≠ .setClock req) ∧
    ∃ t, exec .zero running = .next t :=
  ⟨fun _ => ⟨rfl, rfl⟩, by decide, nofun, nofun, nofun, _, rfl⟩

theorem meets_SetClock :
    running.admits .config (ask 0x33 [0x07, 0xE8, 2, 29, 23, 59, 59]) ∧
    7 ≤ (ask 0x33 [0x07, 0xE8, 2, 29, 23, 59, 59]).data.length ∧
    ([[0x07, 0xCF, 2, 29, 23, 59, 59], [0x07, 0xE8, 13, 29, 23, 59, 59], [0x07, 0xE7, 2, 29, 23, 59, 59],
      [0x07, 0xE8, 2, 29, 24, 59, 59], [0x07, 0xE8, 2, 29, 23, 60, 59], [0x07, 0xE8, 2, 29, 23, 59, 60],
      [0x08, 0x33, 12, 31, 23, 59, 59]].map fun d => (clockAt d 0).badField) =
      [some 0, some 1, some 2, some 3, some 4, some 5, none] := by
  refine ⟨admits_mp _ _ _ _ rfl rfl rfl, by decide, by decide⟩

/-! ### Weighing and calibration -/

/-- The part at work in a state of the engine. -/
def engine (state : WeighState) : State := { atWork with weigh := { atWork.weigh with state := state } }

/-- An open window with the pressures at these values; the sensors are FRESH. -/
def weighing (head rod : Int) : State := { windowFull with sig := sensed [head, rod, 1030, 4000, 500, 250, 0] }

theorem weighing_fresh (head : Int) (h : head = 35000 ∨ head = 35001) : (weighing head 0).signalsFresh := by
  unfold State.signalsFresh
  rcases h with h | h <;> subst h <;> decide

theorem weighing_pressuresOk : (weighing 35000 0).pressuresOk := by
  intro r h
  rcases h with h | h <;> subst h <;> decide

/-- In ARMED at 999 and 1000; in SPENT at 899 and 900. In a window: no sensor FRESH; HEAD_P at 35001 and at −1; and in
range, at 2429 with 2530 seen. -/
theorem meets_WindowOpensAndEnds :
    ((∀ w, (engine w).weigh.state = w ∧ (engine w).weigh.params = lifting) ∧ (999 : Int) < lifting.thetaS ∧
      lifting.thetaS ≤ 1000 ∧ (899 : Int) < lifting.thetaS - lifting.hysteresis ∧
      lifting.thetaS - lifting.hysteresis ≤ 900) ∧
    windowFull.weigh.state = .window ∧ ¬ ({ windowFull with sig := running.sig } : State).signalsFresh ∧
    ((weighing 35001 0).signalsFresh ∧ ¬ (weighing 35001 0).pressuresOk) ∧ ¬ (weighing (-1) 0).pressuresOk ∧
    (engine .armed).weigh.state ≠ .window ∧
    ((weighing 35000 0).weigh.state = .window ∧ (weighing 35000 0).signalsFresh ∧ (weighing 35000 0).pressuresOk ∧
      2429 < (weighing 35000 0).weigh.window.highest - (weighing 35000 0).weigh.params.hysteresis) := by
  refine ⟨⟨fun _ => ⟨rfl, rfl⟩, by decide, by decide, by decide, by decide⟩, rfl, fun h => ?_,
    ⟨weighing_fresh _ (.inr rfl), fun h => ?_⟩, fun h => ?_, (nofun : WeighState.armed ≠ .window),
    rfl, weighing_fresh _ (.inl rfl), weighing_pressuresOk, by decide⟩
  · exact absurd h.1 (by decide)
  · exact absurd (h .headP (.inl rfl)) (by decide)
  · exact absurd (h .headP (.inl rfl)) (by decide)

/-- At 2430 with 2530 seen, and at 2599; below the window start, at 950 with 1030 seen; PITCH and SPEED FRESH, with an
acceleration and without one; and neither. -/
theorem meets_SampleAccumulated :
    let s := weighing 35000 0
    let t := { s with weigh := { s.weigh with accel := some (-150) } }
    let u : State := { s with weigh := { s.weigh with window := { s.weigh.window with highest := 1030 } } }
    (s.weigh.state = .window ∧ s.signalsFresh ∧ s.pressuresOk ∧
      s.weigh.window.highest - s.weigh.params.hysteresis ≤ 2430 ∧ 2599 < s.weigh.params.thetaE ∧
      s.weigh.params.thetaS ≤ 2430 ∧ 800 ≤ s.weigh.params.thetaE - s.weigh.params.thetaS) ∧
    (u.weigh.state = .window ∧ u.signalsFresh ∧ u.pressuresOk ∧
      u.weigh.window.highest - (u.weigh.params.hysteresis : Int) ≤ 950 ∧ 950 < u.weigh.params.thetaS) ∧
    s.sig.freshOf .pitch = true ∧ s.sig.freshOf .speed = true ∧ s.weigh.accel = none ∧ t.weigh.accel = some (-150) ∧
    (sensed [1, 1, 1, 1]).freshOf .pitch = false ∧ (sensed [1, 1, 1, 1]).freshOf .speed = false :=
  ⟨⟨rfl, weighing_fresh _ (.inl rfl), weighing_pressuresOk, by decide, by decide, by decide, by decide⟩,
    ⟨rfl, weighing_fresh _ (.inl rfl), weighing_pressuresOk, by decide, by decide⟩, by decide,
    by decide, rfl, rfl, by decide, by decide⟩

/-- A sample below the window start that is no reversal enters a bin of the window, whichever it is. -/
theorem test_sample_below_start :
    let p := (weighing 35000 0).weigh.params
    950 < p.thetaS ∧ p.bin 950 < 16 :=
  ⟨by decide, by
    rw [WeighRecord.bin, if_pos (by decide)]
    exact BitVec.isLt _⟩

/-- The worked lift, at 2600 and at its entry's time tag and another. -/
theorem meets_WindowEvaluated :
    let s := windowFull
    (s.weigh.state = .window ∧ s.signalsFresh ∧ s.pressuresOk ∧
      s.weigh.window.highest - s.weigh.params.hysteresis ≤ 2600 ∧ s.weigh.params.thetaE ≤ 2600) ∧
    tagDiff 20000000 s.weigh.window.entryTag = 0 ∧ tagDiff 22000000 s.weigh.window.entryTag ≠ 0 ∧
    (s.evaluate 2630 22000000).grade ≠ .rejected ∧ s.weigh.window.cal.valid = true ∧
    s.weigh.window.sampledBins ≠ [] ∧ (s.sig.slotOf .pitch).isSome = true ∧
    ¬ (running.sig.slotOf .pitch).isSome = true := by
  have pressures : windowFull.pressuresOk := by
    intro r h
    rcases h with h | h <;> subst h <;> decide
  refine ⟨⟨rfl, ⟨rfl, rfl, rfl⟩, pressures, by decide, by decide⟩, by decide, by decide, by decide,
    by decide, by decide, rfl, by decide⟩

/-- The narrowest window, whose centres are 50 cdeg apart from 1025: 1024, 1025, 1074 and 1775; and a sample at 2430 in
a window whose calibration is valid, and in one whose is not. -/
theorem meets_SamplePayload :
    (let s := weighing 35000 0
     s.weigh.state = .window ∧ s.signalsFresh ∧ s.pressuresOk ∧
      s.weigh.window.highest - s.weigh.params.hysteresis ≤ 2430 ∧ 2430 < s.weigh.params.thetaE ∧
      s.weigh.window.cal.valid = true ∧ CalRecord.initial.valid = false) ∧
    let p := { lifting with thetaE := 1800 }
    let width := (p.thetaE - p.thetaS).toNat / 16
    let centre := fun b : Nat => p.thetaS + ((b * width + width / 2 : Nat) : Int)
    800 ≤ p.thetaE - p.thetaS ∧ calibration.valid = true ∧ calibration.bins 0 60000 160000 ∧
    calibration.bins 1 60000 160000 ∧ calibration.bins 15 60000 160000 ∧ -30000 ≤ calibration.zeroOffset ∧
    calibration.zeroOffset ≤ 30000 ∧ 1024 < centre 0 ∧ (centre 0 ≤ 1025 ∧ 1074 < centre 1) ∧
    p.thetaS + ((15 * width + ((p.thetaE - p.thetaS).toNat - 15 * width) / 2 : Nat) : Int) ≤ 1775 :=
  ⟨⟨rfl, weighing_fresh _ (.inl rfl), weighing_pressuresOk, by decide, by decide, by decide, by decide⟩, by decide,
    by decide, ⟨by decide, by decide⟩, ⟨by decide, by decide⟩, ⟨by decide, by decide⟩, by decide, by decide, by decide,
    by decide, by decide⟩

/-- DISABLED; ARMED with an empty memory; and with one 0, 1, 1000000 and 1000001 µs old. -/
theorem meets_SpeedSample :
    running.weigh.state = .disabled ∧ (atWork.weigh.state ≠ .disabled ∧ atWork.weigh.speed = none) ∧
    ({ atWork.weigh with speed := some ⟨510, 7⟩ } : Weighing).speed = some ⟨510, 7⟩ ∧
    ((7 : TimeTag) - 7).toNat = 0 ∧ 1 ≤ ((8 : TimeTag) - 7).toNat ∧ ((1000007 : TimeTag) - 7).toNat ≤ 1000000 ∧
    1000000 < ((1000008 : TimeTag) - 7).toNat := by
  refine ⟨rfl, ⟨(nofun : WeighState.armed ≠ .disabled), rfl⟩, rfl, by decide, by decide, by decide, by decide⟩

/-- CAL_START of each kind at a bound of its ranges; outside RUN; out of range; with a run on; ZERO with no valid record;
and a ZERO key. -/
theorem meets_RunStarts :
    (∀ d, atWork.admits .config (ask 0x34 d)) ∧
    (calStartNeed (ask 0x34 [0, 3]) ≤ 2 ∧ calStartNeed (ask 0x34 [1, 8, 0x01, 0xF4]) ≤ 4 ∧
      calStartNeed (ask 0x34 [2, 1]) ≤ 2) ∧
    (byteAt [0, 3] 0 = 0 ∧ byteAt [0, 3] 1 = 3) ∧ (byteAt [1, 8, 0x01, 0xF4] 0 = 1 ∧ natAt [1, 8, 0x01, 0xF4] 2 2 = 500) ∧
    natAt [1, 8, 0x75, 0x30] 2 2 = 30000 ∧ (byteAt [2, 1] 0 = 2 ∧ byteAt [2, 1] 1 = 1) ∧ byteAt [0, 9] 1 = 9 ∧
    (atWork.mgt.config = .run ∧ atWork.cal.run = .off ∧ atWork.cal.active.valid = true) ∧
    configuring.mgt.config ≠ .run ∧ collecting.cal.run ≠ .off ∧
    (running.cal.run = .off ∧ running.cal.active.valid = false) := by
  refine ⟨fun _ => admits_mp _ _ _ _ rfl rfl rfl, by decide, by decide, by decide, by decide, by decide, by decide,
    ⟨rfl, rfl, by decide⟩, (nofun : ConfigState.config ≠ .run), (nofun : RunState.collecting ≠ .off), rfl, by decide⟩

/-- A run of a kind, COLLECTING, with two of its three lifts accepted. -/
def runOf (kind : CalKind) (key : Bool) (lifts accepted : Nat) : State :=
  { atWork with cal := { atWork.cal with
    candidate := calibration
    run := .collecting
    record := { RunRecord.initial with kind := kind, keyStarted := key, lifts := lifts, accepted := accepted }
    starts := 1, startOpen := true } }

/-- A result of a ZERO run that would take the zero offset to −30001. -/
def heavy : LiftResult := { flagged with payload := some 29986 }

theorem not_refuses (s : State) (h : s.cal.record.kind = .empty ∨ s.cal.record.kind = .reference) :
    ¬ s.cal.refuses liftD := by
  intro h2
  rcases h2 with ⟨x, hx, h3⟩ | ⟨h3, _⟩
  · cases x <;> revert h3 <;> revert hx <;> decide
  · rw [h3] at h
    cases h <;> contradiction

theorem meets_CalLiftTaken :
    atWork.cal.run ≠ .collecting ∧
    (collecting.cal.run = .collecting ∧ collecting.cal.refuses { liftD with reasons := 0x120 }) ∧
    ((runOf .zero false 1 0).cal.run = .collecting ∧ (runOf .zero false 1 0).cal.refuses heavy) ∧
    ((runOf .reference false 3 1).cal.run = .collecting ∧ ¬ (runOf .reference false 3 1).cal.refuses liftD ∧
      (runOf .reference false 3 1).cal.record.accepted + 1 ≠ (runOf .reference false 3 1).cal.record.lifts ∧
      (runOf .reference false 3 1).cal.record.kind ≠ .zero) ∧
    ((runOf .zero false 2 0).cal.record.kind = .zero ∧ ¬ (runOf .zero false 2 0).cal.refuses flagged ∧
      (runOf .zero false 2 0).cal.record.accepted + 1 ≠ (runOf .zero false 2 0).cal.record.lifts) := by
  refine ⟨(nofun : RunState.off ≠ .collecting), ⟨rfl, .inl ⟨.tiltMoved, by decide, by decide⟩⟩,
    ⟨rfl, .inr ⟨rfl, fun p h => ?_⟩⟩, ⟨rfl, not_refuses _ (.inr rfl), by decide, by decide⟩, rfl, fun h => ?_, by decide⟩
  · have : p = 29986 := (Option.some.inj h).symm
    subst this
    decide
  · rcases h with ⟨x, hx, _⟩ | ⟨_, h⟩
    · cases x <;> revert hx <;> decide
    · have h2 := h 37 rfl
      revert h2
      decide

/-- The last lift of an EMPTY and of a REFERENCE run; that of a ZERO run, started by command and by key, with the new
zero offset −52 above the zero limit of 50, and −50 at it. -/
theorem meets_CollectionEnds :
    (collecting.cal.run = .collecting ∧ ¬ collecting.cal.refuses liftD ∧
      collecting.cal.record.accepted + 1 = collecting.cal.record.lifts ∧ collecting.cal.record.kind = .empty) ∧
    (¬ (runOf .reference false 3 2).cal.refuses liftD ∧
      (runOf .reference false 3 2).cal.record.accepted + 1 = (runOf .reference false 3 2).cal.record.lifts) ∧
    (∀ key, (runOf .zero key 1 0).cal.record.keyStarted = key ∧ (runOf .zero key 1 0).cal.record.kind = .zero ∧
      ¬ (runOf .zero key 1 0).cal.refuses flagged ∧
      (runOf .zero key 1 0).cal.record.accepted + 1 = (runOf .zero key 1 0).cal.record.lifts) ∧
    flagged.payload = some 37 ∧ lifting.zeroLimit < (calibration.zeroOffset - 37).natAbs ∧
    (calibration.zeroOffset - 35).natAbs ≤ lifting.zeroLimit := by
  refine ⟨⟨rfl, not_refuses _ (.inl rfl), rfl, rfl⟩, ⟨not_refuses _ (.inr rfl), rfl⟩, fun key => ⟨rfl, rfl, fun h => ?_, rfl⟩,
    rfl, by decide, by decide⟩
  rcases h with ⟨x, hx, _⟩ | ⟨_, h⟩
  · cases x <;> revert hx <;> decide
  · exact absurd (h 37 rfl) (by show ¬ (-15 - 37 < (-30000 : Int) ∨ (30000 : Int) < -15 - 37); decide)

theorem meets_RunEnds :
    (∀ code d, reviewing.admits .config (ask code d)) ∧
    (reviewing.cal.run = .review ∧ reviewing.cal.candidate.valid = true) ∧
    ({ reviewing.cal with candidate := CalRecord.initial } : Calibration).candidate.valid = false ∧
    (collecting.cal.run = .collecting ∧ collecting.cal.startOpen = true ∧ 1 = collecting.cal.starts) ∧
    atWork.cal.run = .off ∧ (reviewing.cal.startOpen = false ∧ reviewing.cal.run ≠ .collecting) ∧
    0 ≠ collecting.cal.starts := by
  refine ⟨fun _ _ => admits_mp _ _ _ _ rfl rfl rfl, ⟨rfl, by decide⟩, by decide, ⟨rfl, rfl, rfl⟩, rfl, ⟨rfl,
    (nofun : RunState.review ≠ .collecting)⟩, by decide⟩

theorem meets_CalibrationChanges :
    (∃ t, exec (.calAccept (ask 0x35 [])) reviewing = .next t ∧
      (∀ straps, Instr.calAccept (ask 0x35 []) ≠ .powerReset straps) ∧ t.cal.active ≠ reviewing.cal.active ∧
      t.cal.run ≠ reviewing.cal.run) ∧
    ∃ t, exec (.weighSample 2630 22000000) windowFull = .next t ∧ t.weigh.last = some published ∧
      windowFull.weigh.last ≠ some published ∧ published.payload.isSome = true :=
  ⟨⟨_, rfl, nofun, by decide, by decide⟩, _, rfl, by decide, by decide, rfl⟩

/-! ### The cycle tracker -/

/-- PARKED; the zones at their bounds; the bucket and the pressure at theirs; the phases. -/
theorem meets_CandidatePhase :
    (let s := { atWork with sig := sensed [9000, 0, 400, -1500, 0, 0, 1] };
      s.sig.freshOf .park = true ∧ s.sig.valueOf .park = 1) ∧
    (let s := tracking .parked 0 0 0 0 none;
      s.sig.valueOf .park ≠ 1 ∧ s.trk.phase = .parked) ∧
    (running.sig.freshOf .boom = false ∧ running.sig.freshOf .park = false ∧ running.trk.phase ≠ .parked) ∧
    (∀ q, (tracking q 399 (-1501) 9000 0 none).trk.phase = q) ∧
    (let s := tracking .dig 399 (-1501) 9000 0 none;
      s.sig.freshOf .boom = true ∧ s.sig.freshOf .tilt = true ∧ s.sig.freshOf .headP = true ∧
      s.sig.valueOf .boom < s.trk.params.thetaDig ∧ s.sig.valueOf .tilt < s.trk.params.tauDump ∧
      (s.trk.params.pDig : Int) ≤ s.sig.valueOf .headP) ∧
    (let s := tracking .dig 400 (-1500) 8999 0 none;
      ¬ s.sig.valueOf .boom < s.trk.params.thetaDig ∧ s.sig.valueOf .boom < s.trk.params.thetaCarry ∧
      ¬ s.sig.valueOf .tilt < s.trk.params.tauDump ∧ ¬ (s.trk.params.pDig : Int) ≤ s.sig.valueOf .headP) ∧
    (let s := tracking .dig 3500 0 0 0 none;
      s.trk.params.thetaCarry ≤ s.sig.valueOf .boom) := by
  refine ⟨by decide, by decide, by decide, fun _ => rfl, by decide, by decide,
    by decide⟩

/-- The age test changes nothing while the cycle start is held for less than 3600 s. -/
theorem aged_young (s : State) (start : TimeTag) (h : s.trk.cycleStart = some start)
    (young : (s.time.tag - start).toNat < 3600000000) : s.Aged s :=
  ⟨fun x hx old => by rw [h] at hx; cases hx; omega, fun _ => rfl⟩

/-- The age test at 3600 s. -/
theorem meets_Aged :
    let s := tracking .carry 0 0 0 (100000000 + 3600000000) none
    s.trk.cycleStart = some 100000000 ∧ 3600000000 ≤ (s.time.tag - 100000000).toNat ∧
    (tracking .carry 0 0 0 (100000000 + 3599999999) none).time.tag - 100000000 = 3599999999 := by decide

/-- A notification in RUN whose candidate is the phase; one that starts a dwell, and one whose dwell runs; one taken at
once, for UNKNOWN and for a dwell of 0; one that makes no evaluation; and an expiry of TD. -/
theorem meets_CandidateActedOn :
    configuring.mgt.config ≠ .run ∧
    (let s := tracking .ret 350 4000 9500 130000000 none;
      s.mgt.config = .run ∧ s.Aged s ∧ s.candidate = .dig ∧ s.candidate ≠ s.trk.phase ∧ s.trk.params.dwell .dig ≠ 0 ∧
      s.trk.candidate ≠ some .dig ∧ s.trk.startOpen = s.trk.candidate.isSome ∧
      (dwelling s .dig).trk.candidate = some .dig ∧ (dwelling s .dig).Aged (dwelling s .dig) ∧
      (dwelling s .dig).trk.startOpen = true ∧ 1 = (dwelling s .dig).trk.starts ∧ s.trk.startOpen = false) ∧
    (let s := tracking .carry 3600 4000 0 130000000 none;
      s.candidate = s.trk.phase) ∧
    (let s := { tracking .carry 0 0 0 130000000 none with sig := running.sig };
      s.candidate = .unknown ∧ s.candidate ≠ s.trk.phase) ∧
    (let s := tracking .ret 350 4000 9500 130000000 none;
      ({ s.trk.params with digDwell := 0 } : CycleRecord).dwell .dig = 0) ∧
    (∀ v tag, Notice.written .rodP v tag ≠ .stale .boom) := by
  refine ⟨(nofun : ConfigState.config ≠ .run), ⟨rfl, aged_young _ 100000000 rfl (by decide), by decide, by decide,
    by decide, by decide, rfl, rfl, aged_young _ 100000000 rfl (by decide), rfl, rfl, rfl⟩, by decide, by decide,
    rfl, nofun⟩

/-- The transitions of each shape: with a cycle start held and dumped set, and a sum that still has room and one that
has none; with no start held; with a run COLLECTING and with none. -/
theorem meets_TransitionActions :
    (∀ q r, (tracking q 0 0 0 130300000 r).trk.phase = q ∧ (tracking q 0 0 0 130300000 r).trk.pending = r) ∧
    (let s := tracking .ret 0 0 0 130300000 none;
      s.trk.cycleStart = some 100000000 ∧ s.trk.dumped = true ∧ s.cal.run ≠ .collecting ∧
      s.trk.figures.timeSum + (s.time.tag - 100000000).toNat / 1000 ≤ 4294967295 ∧
      4294967295 < 4294937000 + (s.time.tag - 100000000).toNat / 1000) ∧
    running.trk.cycleStart = none ∧ collecting.cal.run = .collecting := by
  refine ⟨fun _ _ => ⟨rfl, rfl⟩, by decide, rfl, rfl⟩

theorem meets_TrackerEventsTaken :
    (∀ q, (tracking q 0 0 0 130000000 none).mgt.config = .run ∧ (tracking q 0 0 0 130000000 none).trk.phase = q ∧
      (tracking q 0 0 0 130000000 none).Aged (tracking q 0 0 0 130000000 none)) ∧ configuring.mgt.config ≠ .run ∧
    configuring.Aged configuring :=
  ⟨fun _ => ⟨rfl, rfl, aged_young _ 100000000 rfl (by decide : ((130000000 : TimeTag) - 100000000).toNat < 3600000000)⟩,
    (nofun : ConfigState.config ≠ .run),
    ⟨fun _ h => (nomatch h), fun _ => rfl⟩⟩

/-! ### Load accounting -/

/-- Four slots held. -/
def fullYard (pointer : Option (Fin 4)) : State :=
  { atWork with acc := { atWork.acc with
    slots := Vector.replicate 4 { TargetSlot.free with state := .opened, id := 7 }, pointer := pointer } }

/-- A current slot of 65535 buckets, and one of 65534. -/
def counted (buckets : Nat) : State := loading { truck 0 [] 0 0 with buckets := buckets } AccountFigures.zero none

theorem fullYard_held (pointer : Option (Fin 4)) (j : Fin 4) : ((fullYard pointer).acc.slot j).state ≠ .free := by
  have h : (fullYard pointer).acc.slot j = { TargetSlot.free with state := .opened, id := 7 } := by
    show (Vector.replicate 4 _)[j.val] = _
    rw [Vector.getElem_replicate]
  rw [h]
  decide

theorem meets_BucketCredited :
    ((fullYard none).acc.pointer = none ∧ ∀ j, ((fullYard none).acc.slot j).state ≠ .free) ∧
    ((counted 65535).acc.pointer = some 0 ∧ 65535 ≤ ((counted 65535).acc.slot 0).buckets) ∧
    ((counted 65534).acc.pointer = some 0 ∧ ((counted 65534).acc.slot 0).buckets < 65535) ∧
    ((yard none).acc.pointer = none ∧ lowestSlot (fun j => ((yard none).acc.slot j).state = .free) 1) ∧
    (three.length < 12 ∧ 12 ≤ (three ++ three ++ three ++ three).length) ∧
    ((counted 65534).trk.pending = none ∧ weighed.grade ≠ .unweighed ∧ unweighed.grade = .unweighed ∧
      (loading TargetSlot.free AccountFigures.zero (some lift)).trk.pending ≠ none) := by
  unfold lowestSlot
  exact ⟨⟨rfl, fullYard_held _⟩, by decide, by decide, by decide, by decide, by decide⟩

theorem meets_TargetsOpened :
    (let s := yard (some 3);
      (s.acc.slot 0).state ≠ .free ∧ (s.acc.slot 1).state = .free ∧ s.acc.pointer = some 3 ∧
      (s.acc.slot (3 + Fin.ofNat 4 1)).state ≠ .free) ∧
    (let s := yard (some 0);
      s.acc.pointer = some 0 ∧ (s.acc.slot (0 + Fin.ofNat 4 2)).state ≠ .free ∧
      ∀ k, 1 ≤ k → k < 2 → (s.acc.slot (0 + Fin.ofNat 4 k)).state = .free) ∧
    (let s := yard none;
      s.acc.pointer = none ∧ lowestSlot (fun j => (s.acc.slot j).state ≠ .free) 0 ∧
      lowestSlot (fun j => (s.acc.slot j).state = .free) 1) ∧
    (∀ j, atWork.acc.pointer ≠ some j → (atWork.acc.slot j).state = .free) ∧
    (∀ j, ((fullYard none).acc.slot j).state ≠ .free) ∧
    (let s := loading (truck 0 [] 0 0) AccountFigures.zero none;
      lowestSlot (fun j => (s.acc.slot j).state ≠ .free ∧ (s.acc.slot j).id = 4417) 0 ∧
      (∀ j, ¬ ((s.acc.slot j).state ≠ .free ∧ (s.acc.slot j).id = 4418)) ∧
      ((30000 : Nat) ≠ 0 ∧ 30000 ≠ (s.acc.slot 0).capacity) ∧ ¬ (40000 ≠ 0 ∧ 40000 ≠ (s.acc.slot 0).capacity)) ∧
    (∀ j, ¬ (((fullYard none).acc.slot j).state ≠ .free ∧ ((fullYard none).acc.slot j).id = 8)) := by
  unfold lowestSlot
  refine ⟨by decide, ⟨rfl, by decide, fun k h1 h2 => ?_⟩, by decide, by decide,
    fullYard_held _, by decide, by decide⟩
  have : k = 1 := by omega
  subst this
  decide

theorem meets_TargetCommands :
    (∀ code d, (yard none).admits .operate (ask code d) ∧ (fullYard none).admits .operate (ask code d) ∧
      configuring.admits .operate (ask code d)) ∧
    ((yard none).mgt.config = .run ∧ configuring.mgt.config ≠ .run) ∧
    (let d : List Byte := [0x11, 0x41, 0, 0, 0x03, 0xE8, 1];
      7 ≤ d.length ∧ natAt d 0 2 = 4417 ∧ natAt d 2 4 = 1000 ∧ byteAt d 6 = 1) ∧
    (let d : List Byte := [0, 7, 0, 3, 0xD0, 0x90, 0];
      natAt d 0 2 = 7 ∧ natAt d 2 4 = 250000 ∧ byteAt d 6 = 0) ∧
    (natAt [0, 7, 0, 0, 0x03, 0xE7, 0] 2 4 = 999 ∧ byteAt [0, 7, 0, 0, 0, 0, 2] 6 = 2) ∧
    (((fullYard none).acc.slot 0).state ≠ .free ∧ ((fullYard none).acc.slot 0).id = 7 ∧
      ∀ j, ((fullYard none).acc.slot j).state ≠ .free) ∧
    (lowestSlot (fun j => ((yard none).acc.slot j).state = .free) 1 ∧
      ¬ ∃ j, ((yard none).acc.slot j).state ≠ .free ∧ ((yard none).acc.slot j).id = 4417) ∧
    (byteAt [3] 0 = 3 ∧ ((yard none).acc.slot 3).state ≠ .free ∧ ((yard none).acc.slot 1).state = .free) := by
  unfold lowestSlot
  refine ⟨fun _ _ => ⟨admits_mp _ _ _ _ rfl rfl rfl, admits_mp _ _ _ _ rfl rfl rfl, admits_mp _ _ _ _ rfl rfl rfl⟩,
    ⟨rfl, (nofun : ConfigState.config ≠ .run)⟩, by decide, by decide, by decide, ⟨fullYard_held _ _, by decide,
    fullYard_held _⟩, by decide, by decide⟩

/-- A slot that closes with buckets, with room in the log; with 16 records in it; with the sequence spent; and with no
buckets. -/
theorem meets_TargetCloses :
    (let s := loading (truck 30400 three 0 1) AccountFigures.zero none;
      s.acc.pointer = some 0 ∧ (s.acc.slot 0).buckets ≠ 0 ∧ s.acc.log.records.length < 16 ∧ s.acc.log.spent = false ∧
      lowestSlot (fun j => (s.acc.slot j).state ≠ .free ∧ (s.acc.slot j).id = 4417) 0 ∧ s.mgt.config = .run ∧
      (s.acc.slot 1).state = .free) ∧
    (let s := loading (truck 30400 three 0 1) AccountFigures.zero none;
      (∀ d, s.admits .operate (ask 0x22 d)) ∧ configuring.mgt.config ≠ .run) ∧
    (16 ≤ (List.replicate 16 (loadOf 1)).length ∧
      (⟨[], 4294967295, 7, true, false⟩ : LoadLog).spent = true) ∧
    (((yard (some 2)).acc.slot 2).buckets = 0 ∧ (yard (some 2)).acc.pointer = some 2 ∧
      (yard (some 2)).acc.pointer ≠ some 0) ∧
    atWork.acc.pointer = none ∧ (∀ j, ¬ ((atWork.acc.slot j).state ≠ .free ∧ (atWork.acc.slot j).id = 4417)) := by
  unfold lowestSlot
  exact ⟨by decide, ⟨fun _ => admits_mp _ _ _ _ rfl rfl rfl, (nofun : ConfigState.config ≠ .run)⟩, by decide,
    by decide, rfl, by decide⟩

theorem meets_BucketRemoved :
    (let s := loading (truck 30400 three 0 1) ⟨194700, 21, 1, 4, 0⟩ none;
      s.acc.pointer = some 0 ∧ (s.acc.slot 0).list = three.take 2 ++ [bucket 233 10400 .good] ∧
      (bucket 233 10400 .good).shift = s.acc.shift ∧ s.mgt.config = .run) ∧
    (let s := loading (truck 30400 three 0 1) ⟨194700, 21, 1, 4, 0⟩ none;
      s.admits .operate (ask 0x23 []) ∧ configuring.admits .operate (ask 0x23 [])) ∧
    ((bucket 233 10400 .good).shift ≠ 213 ∧ configuring.mgt.config ≠ .run) ∧
    (∀ i, (yard (some 2)).acc.pointer = some i → ((yard (some 2)).acc.slot i).list = []) := by
  refine ⟨by decide, ⟨admits_mp _ _ _ _ rfl rfl rfl, admits_mp _ _ _ _ rfl rfl rfl⟩, by decide, fun i h => ?_⟩
  have : i = 2 := (Option.some.inj h).symm
  subst this
  decide

theorem meets_TotalsSnapshot :
    (∀ group code, running.admits group (ask code [])) ∧ running.acc.snapshot.latched = false ∧
    ({ running.acc.snapshot with latched := true } : Snapshot).latched = true :=
  ⟨fun _ _ => admits_mp _ _ _ _ rfl rfl rfl, rfl, rfl⟩

/-! ### Reports -/

/-- MP's originate queue at a number of reports. -/
def queued (n : Nat) : State :=
  { routed with link := { routed.link with origQ := ⟨List.replicate n ⟨.report, []⟩, []⟩ } }

theorem meets_ReportsRouted :
    (∀ n p, (queued n).routes .cal p) ∧ (queued 10).roomFor .mp ∧ (∀ p, (queued 0).roomFor p) ∧
    ¬ (queued 11).roomFor .mp ∧ ¬ atWork.routes .cal .mp := by
  unfold State.roomFor
  refine ⟨fun _ _ => .inl rfl, by decide, fun p => by cases p <;> decide, by decide, ?_⟩
  unfold State.routes
  decide

/-- A page of 24 bytes, which holds every field of the set but one. -/
theorem meets_OverlayStage :
    (∀ e ∈ displaying.rep.overlay.toList, e.divisor ∈ [1, 10, 100, 1000]) ∧
    (displaying.rep.overlay.toList.any fun e => e.enable && e.set == 1 && decide (24 < e.offset + e.width)) = true ∧
    (displaying.rep.overlay.toList.all fun e => !(e.enable && e.set == 1) || decide (e.offset + e.width ≤ 26)) = true ∧
    (let f : FrameIn := ⟨frameOf 0x21 (List.replicate 24 0xAA), 30⟩; f.good ∧ f.stored = frameOf 0x21 (List.replicate 24 0xAA)) := by
  unfold FrameIn.good
  exact ⟨by decide, by decide, by decide, by decide +kernel, rfl⟩

/-- The pointer empty; a slot with a capacity and a weighed bucket, a lift pending; a rejected lift pending beside it, and
beside an unweighed bucket; a slot with no capacity and an empty list; and a cycle timed and none. -/
theorem meets_ItemValues :
    atWork.acc.pointer = none ∧
    (displaying.acc.pointer = some 0 ∧ (displaying.acc.slot 0).capacity ≠ 0 ∧
      (displaying.acc.slot 0).list = [] ++ [bucket 233 10400 .good] ∧ 1 ≤ displaying.weigh.params.ratedLoad ∧
      displaying.trk.pending = some { lift with payload := some 12100 } ∧ lift.grade ≠ .rejected) ∧
    ((loading (truck 0 [entry] 0 0) AccountFigures.zero (some lost)).trk.pending = some lost ∧ lost.grade = .rejected ∧
      entry.grade ≠ .unweighed) ∧
    (∀ e l, [({ entry with grade := .unweighed } : BucketEntry)] = l ++ [e] → e.grade = .unweighed) ∧
    (counted 0).acc.pointer = some 0 ∧ ((yard (some 0)).acc.slot 1).capacity = 0 ∧ ((counted 0).acc.slot 0).list = [] ∧
    [Phase.unknown, .parked, .dig, .lift, .carry, .dump, .ret][4]? = some displaying.trk.phase ∧
    displaying.trk.figures.timeCount ≠ 0 ∧ atWork.trk.figures.timeCount = 0 := by
  refine ⟨rfl, by decide, by decide, fun e l h => ?_, by decide, by decide, by decide, by decide, by decide, by decide⟩
  have h2 := congrArg List.getLast? h
  rw [List.getLast?_append, List.getLast?_singleton] at h2
  cases h2
  rfl

theorem meets_StatusReport :
    (displaying.routes .status .dp ∧ displaying.roomFor .dp) ∧ ¬ (displaying.routes .status .mp) ∧
    (displaying.rep.memory.get .dp).isNone = true ∧ ({ displaying.rep with changes := ⟨0, 7⟩ } : Reports).changes.get .dp = 7 := by
  unfold State.routes State.roomFor
  decide

/-- An arrival after its report; one with no assembly open, one of the open assembly's boundary, and one of another. -/
theorem meets_ShiftCloses :
    (let r := { running.rep with assembly := some ⟨4, none, none⟩, lastClosing := some 3 };
      r.lastClosing = some 3 ∧ r.lastClosing ≠ some 4 ∧ r.assembly = some ⟨4, none, none⟩ ∧ (4 : Word16) ≠ 5) ∧
    running.rep.lastClosing ≠ some 3 ∧ running.rep.assembly = none := by decide

theorem meets_LoadLogEmptied :
    (let s := loading (truck 30400 three 0 1) AccountFigures.zero none;
      s.admits .operate (ask 0x25 []) ∧ s.rep.route .load = .off ∧ s.acc.log.inFlight = false ∧
      s.acc.log.records = loadOf 57 :: [loadOf 58]) ∧
    routed.rep.route .load ≠ .off ∧ drained.acc.log.inFlight = true ∧ running.acc.log.records = [] ∧
    (let s := { loading (truck 30400 three 0 1) AccountFigures.zero none with rep := routed.rep };
      s.rep.route .load ≠ .off ∧ s.rep.drain = ⟨.absent, .absent⟩ ∧ s.acc.log.inFlight = false ∧
      (∀ p, s.routes .load p → s.roomFor p) ∧ s.acc.log.records = loadOf 57 :: [loadOf 58]) := by
  refine ⟨⟨admits_mp _ _ _ _ rfl rfl rfl, rfl, rfl, rfl⟩, by decide, rfl, rfl, by decide, rfl, rfl, fun p _ => ?_, rfl⟩
  unfold State.roomFor
  cases p <;> decide

/-! ### Management -/

theorem meets_ReadsAnswer :
    (∀ group code d, running.admits group (ask code d)) ∧ running.canTake (ask 0x43 []) ∧
    (byteAt [16, 0] 0 = 16 ∧ entryCounts[6]? = some 49 ∧ byteAt [6, 48] 1 = 48 ∧ byteAt [6, 49] 1 = 49) ∧
    (byteAt [1, 15] 1 = 15 ∧ byteAt [1, 16] 1 = 16 ∧ byteAt [2, 0] 0 = 2) :=
  ⟨fun _ _ _ => admits_mp _ _ _ _ rfl rfl rfl, ⟨rfl, rfl⟩, by decide, by decide⟩

theorem meets_SectionsRead :
    (∀ n : Byte, running.admits .info (ask 0x12 [n]) ∧ 1 ≤ (ask 0x12 [n]).data.length) ∧
    16 < byteAt [17] 0 ∧ byteAt [16] 0 = 13 + (3 : Fin 4).val :=
  ⟨fun _ => ⟨admits_mp _ _ _ _ rfl rfl rfl, by simp [ask]⟩, by decide, by decide⟩

theorem meets_ConfigurationStates :
    (∀ group code, running.admits group (ask code []) ∧ configuring.admits group (ask code [])) ∧
    (configuring.mgt.config = .config ∧ running.mgt.config ≠ .config) ∧
    (collecting.cal.run ≠ .off ∧ running.cal.run = .off) ∧
    (∀ straps, Instr.enterConfig (ask 0x30 []) ≠ .powerReset straps) ∧
    (∃ t, exec (.enterConfig (ask 0x30 [])) running = .next t ∧ t.mgt.config ≠ running.mgt.config) := by
  refine ⟨fun _ _ => ⟨admits_mp _ _ _ _ rfl rfl rfl, admits_mp _ _ _ _ rfl rfl rfl⟩, ⟨rfl, (nofun : ConfigState.run ≠ .config)⟩,
    by decide, nofun, _, rfl, by decide⟩

/-- The entries of `written` that fail a step of COMMIT: none before the step of WEIGH, whatever the carry angle. -/
theorem written_fails (carry : Int) (table index : Nat) (h : (written carry).EntryFails table index) :
    (table = 9 ∧ ¬ (written carry).weigh.params.works (written carry).trk.params) ∨
      (table = 10 ∧ ¬ (written carry).trk.params.thetaDig < carry) := by
  have disabled : ∀ (n : Nat) (e : MatchEntry), (written carry).sig.matchTable[n]? = some e → e.enable = false := by
    intro n e h
    have h2 : (Vector.replicate 24 MatchEntry.initial)[n]? = some e := h
    rw [Vector.getElem?_replicate] at h2
    split at h2 <;> cases h2
    rfl
  have keys : ∀ (n : Nat) (e : KeyEntry), (written carry).sig.keyMap[n]? = some e → e.inUse = false := by
    intro n e h
    have h2 : (Vector.replicate 16 KeyEntry.initial)[n]? = some e := h
    rw [Vector.getElem?_replicate] at h2
    split at h2 <;> cases h2
    rfl
  have overlays : ∀ (n : Nat) (e : OverlayEntry), (written carry).rep.overlay[n]? = some e → e.enable = false := by
    intro n e h
    have h2 : (Vector.replicate 16 OverlayEntry.initial)[n]? = some e := h
    rw [Vector.getElem?_replicate] at h2
    split at h2 <;> cases h2
    rfl
  cases h with
  | permit h => exact absurd (h .mp) (by decide : ¬ hasGroup ((written 0).mgt.written.get .mp) .config = false)
  | fieldCount _ e _ h h2 => exact nomatch (disabled index e h).symm.trans h2
  | fieldFits _ e _ h h2 => exact nomatch (disabled index e h).symm.trans h2
  | departure _ e _ _ _ h h2 => exact nomatch (disabled index e h).symm.trans h2
  | page _ e _ h h2 => exact nomatch (disabled index e h).symm.trans h2
  | sharedKey _ _ e _ h _ _ h2 => exact nomatch (keys index e h).symm.trans h2
  | overlay _ e h h2 => exact nomatch (overlays index e h).symm.trans h2
  | weigh h => exact .inl ⟨rfl, h⟩
  | cycle h =>
    exact .inr ⟨rfl, fun h2 => h ⟨h2, (by decide : 1 ≤ (written 0).trk.params.pDig ∧ (written 0).trk.params.pDig ≤ 60000)⟩⟩
  | account h =>
    exact absurd (by decide : 80 ≤ (written 0).acc.params.full ∧ (written 0).acc.params.full ≤ 100 ∧
      (written 0).acc.params.tolerance ≤ 20) h
  | unmapped _ r h h2 =>
    rcases index with _ | _ | _ | _ | _ <;> simp at h <;> subst h <;> cases h2
  | sharedSlot _ m r q slot h h2 h3 h4 h5 =>
    have distinct : ∀ n < 7, ∀ m < n, ((allRoles[n]?).map (written 0).sig.slotOf).join = none ∨
        ((allRoles[n]?).map (written 0).sig.slotOf).join ≠ ((allRoles[m]?).map (written 0).sig.slotOf).join := by decide
    have h6 := distinct index (List.getElem?_eq_some_iff.1 h).1 m h3
    rw [h, h2] at h6
    have h4 : (written 0).sig.slotOf r = some slot := h4
    have h5 : (written 0).sig.slotOf q = some slot := h5
    simp [h4, h5] at h6
  | unfed _ r slot h h2 _ h3 =>
    have fed : ∀ w ∈ (written 0).acq.words.toList, w.channel ≠ none → w.dest ≠ some slot := h3
    rcases index with _ | _ | _ | _ | _ <;> simp at h <;> subst h <;> cases h2
    · exact (fed ⟨some 0, 0, false, false, some 0⟩ (by decide) nofun rfl).elim
    · exact (fed ⟨some 1, 0, false, false, some 1⟩ (by decide) nofun rfl).elim
    · exact (fed ⟨some 2, 1, false, false, some 2⟩ (by decide) nofun rfl).elim
    · exact (fed ⟨some 3, 1, false, true, some 3⟩ (by decide) nofun rfl).elim
  | unreachable _ m w v h h2 h3 h4 h5 h6 =>
    have inOrder : ∀ n < 48, ∀ m < n, ((written 0).acq.words[n]?).any (fun w => w.channel.isSome) = true →
        ((written 0).acq.words[m]?).any (fun w => w.channel.isSome) = true := by decide
    have h : (written 0).acq.words[index]? = some w := h
    have h2 : (written 0).acq.words[m]? = some v := h2
    have h7 := inOrder index (Vector.getElem?_eq_some_iff.1 h).1 m h3
    rw [h, h2] at h7
    simp [h6, Option.isSome_iff_ne_none, h5] at h7
  | firstUnused _ q h h2 h3 =>
    rcases index with _ | _ | _ <;> simp at h <;> subst h
    · cases h3
    · exact absurd rfl h2
  | armOff _ q h h2 h3 =>
    rcases index with _ | _ | _ <;> simp at h <;> subst h
    · cases h3
    · cases h2
  | node _ p k _ h =>
    have off : (written carry).rep.route k = .off := by
      cases k <;> rfl
    rcases h with h | ⟨_, h⟩ | ⟨_, h⟩ <;> exact nomatch off.symm.trans h

/-- A COMMIT with nothing to refuse, and one whose carry angle lies below the window's end. -/
theorem meets_CommitTaken :
    (∀ carry, (written carry).admits .config (ask 0x32 []) ∧ (written carry).mgt.config = .config) ∧
    running.mgt.config ≠ .config ∧ (∀ table index, ¬ (written 3500).EntryFails table index) ∧
    (written 2500).firstFailing 9 0 := by
  refine ⟨fun _ => ⟨admits_mp _ _ _ _ rfl rfl rfl, rfl⟩, (nofun : ConfigState.run ≠ .config), fun table index h => ?_,
    .weigh fun h => ?_, fun table index h => ?_⟩
  · rcases written_fails 3500 table index h with ⟨_, h2⟩ | ⟨_, h2⟩
    · exact h2 (by unfold WeighRecord.works; decide)
    · exact h2 (by decide)
  · exact absurd h.2.2.1 (by decide)
  · rcases written_fails 2500 table index h with ⟨h2, _⟩ | ⟨h2, _⟩
    · exact .inr ⟨h2.symm, Nat.zero_le _⟩
    · exact .inl (by rw [h2]; decide)

/-- A PERMIT set of the four groups is taken; one with bit 4 is not (log 50). -/
theorem test_permit_bits : readPermit [0x0F] = some 15 ∧ readPermit [0x10] = none := by decide

/-- A boundary written unchanged sets a sub-queue start that lies in its range (log 49). -/
theorem test_boundary_unchanged (a : Acquisition) :
    ((a.setBoundary a.boundary).queue .slow).subStart = a.boundary ∧
    ((a.setBoundary a.boundary).queue .fast).subStart = 0 := ⟨rfl, rfl⟩

/-- The last table and entry; the one after each; a boundary, which needs both queues OFF; and a field out of range. -/
theorem meets_EntriesReadBack :
    (∀ d, configuring.admits .config (ask 0x31 d)) ∧ configuring.mgt.config = .config ∧ running.mgt.config ≠ .config ∧
    (byteAt [16, 0] 0 = 16 ∧ entryCounts[15]? = some 3 ∧ byteAt [15, 2] 1 = 2 ∧ byteAt [15, 3] 1 = 3) ∧
    ((∀ q, (configuring.acq.queue q).state = .off) ∧ ¬ ∀ q, (converting.acq.queue q).state = .off) ∧
    (∃ t, configuring.Takes 6 48 [47] t) ∧ (∀ t, ¬ configuring.Takes 6 48 [48] t) ∧
    (∃ t, configuring.Takes 15 2 [1, 23, 59] t) ∧
    (∃ t, configuring.Takes 12 16 [1, 0, 0, 0xEA, 0x60, 0, 9, 9, 9, 9] t) ∧
    (∃ t, configuring.Takes 2 23 ([1, 0, 0x20, 0xFF, 0, 0, 0, 0, 2, 1, 2, 0, 2, 0, 0, 0] ++ [0, 9, 9, 9, 9, 9] ++
      [1, 2, 0, 7, 0, 0]) t) := by
  refine ⟨fun _ => admits_mp _ _ _ _ rfl rfl rfl, rfl, (nofun : ConfigState.run ≠ .config), by decide, ⟨fun q => ?_, fun h => ?_⟩,
    ⟨_, .boundary 47 (by decide) (by decide), rfl, rfl⟩, fun t h => ?_,
    ⟨_, .shift 2 ⟨true, 23, 59⟩ (by decide) (by decide), by decide, by decide⟩,
    ⟨_, .bin 16 (some 60000) none (by decide) (by decide) (fun x h => by cases h; exact ⟨by decide, by decide⟩) nofun,
      by decide, by decide⟩,
    ⟨_, .matching 23 ⟨true, .fromMp, 0x20, 0xFF, 0, 0, 0, 0, 2, true,
      .target ⟨0, .two, 0, false, false⟩ none (some ⟨2, .bit, 7, false, false⟩)⟩ ⟨by decide, fun f h => ?_, trivial⟩,
      by decide, by decide⟩⟩
  · cases q <;> rfl
  · exact absurd (h .fast) (nofun : QueueState.active ≠ .off)
  rotate_left
  · simp [MatchAction.descriptors] at h
    rcases h with h | h <;> subst h <;> exact ⟨by decide, by decide⟩
  · obtain ⟨h, _, h2⟩ := h
    cases h with
    | word n w h => exact absurd h (by decide)
    | boundary b low high =>
      have all : ∀ b ≤ 47, u8 b ≠ [48] := by decide
      exact all b high h2

theorem meets_RequestRefusals :
    requestOf (.identify (ask 0x10 [])) = some (ask 0x10 []) ∧ carries State.reset.link.relay = false ∧
    (carries releasing.link.relay = true ∧ ∃ e ∈ releasing.link.origQ.get .mp, e.kind = .response) ∧
    (running.canTake { ask 0x30 [] with port := .dp } ∧ commandGroup (.enterConfig (ask 0x30 [])) = some .config ∧
      hasGroup (running.mgt.inForce.get .dp) .config = false) ∧
    (running.admits .config (ask 0x33 (List.replicate 6 0)) ∧
      (List.replicate 6 (0 : Byte)).length < commandNeed (.setClock (ask 0x33 (List.replicate 6 0)))) ∧
    (running.admits .control (ask 0x40 [2, 3]) ∧ 2 ≤ (ask 0x40 [2, 3]).data.length ∧ running.mgt.config ≠ .unconfigured ∧
      1 < byteAt [2, 3] 0 ∧ 2 < byteAt [2, 3] 1) ∧
    ({ running with mgt := Management.initial } : State).mgt.config = .unconfigured := by
  refine ⟨rfl, rfl, ⟨rfl, ⟨.response, [2]⟩, by decide, rfl⟩, ⟨⟨rfl, rfl⟩, rfl, by decide⟩, ⟨admits_mp _ _ _ _ rfl rfl rfl,
    by decide⟩, ⟨admits_mp _ _ _ _ rfl rfl rfl, by decide, (nofun : ConfigState.run ≠ .unconfigured), by decide, by decide⟩, rfl⟩

/-! ### A state that meets every invariant -/

/-- The part in CONFIG, with no work on. -/
theorem configuring_inv : configuring.Inv := by
  have free : ∀ i, configuring.acc.slot i = TargetSlot.free := fun i => by
    show (Vector.replicate 4 TargetSlot.free)[i.val] = _
    rw [Vector.getElem_replicate]
  refine ⟨running_linkInv, running_sigInv, ?_, ⟨fun i => ?_, fun i j hi => ?_, nofun, ?_⟩, ?_, ?_⟩
  · refine ⟨by decide, fun q => ?_, nofun, by decide, by decide, ?_, fun _ q => ?_, fun q => ?_, fun q h => ?_⟩
    · cases q <;> exact ⟨nofun, fun ⟨_, h, _⟩ => nomatch h⟩
    · intro h
      exact absurd h (by decide : ¬ (QueueState.off = .pending ∨ QueueState.off = .suspended))
    · cases q <;> rfl
    · cases q <;> decide
    · exact absurd (by cases q <;> rfl) h
  · rw [free i]
    exact ⟨fun _ => rfl, by decide, by decide, by decide, by decide, by decide, by decide, by decide⟩
  · rw [free i] at hi
    exact absurd hi (by decide)
  · refine ⟨by decide, .nil, nofun, by decide, nofun, by decide, nofun⟩
  · refine ⟨fun p => ?_, ⟨nofun, fun ⟨p, h⟩ => ?_⟩, fun p h => ?_, nofun⟩
    · cases p <;> exact (rfl : loadReports [] = 0)
    · cases p <;> cases h
    · cases p <;> exact absurd h (by decide : ¬ (CopyState.absent = .completed ∨ CopyState.absent = .discarded))
  · exact ⟨⟨fun _ => nofun, fun _ => rfl⟩, fun _ => rfl, fun _ => rfl, fun _ => ⟨rfl, rfl, rfl, rfl, rfl⟩, rfl, nofun, nofun,
      nofun, by decide, nofun⟩

theorem meets_StepKeepsAccountsAndConfigInv : configuring.Inv ∧ ∃ t, step configuring = .next t :=
  ⟨configuring_inv, _, rfl⟩

end Sys2Proof.Tests
end

section
/-!
SET_CLOCK (R81): the fields of a clock tested in order, and what a request that the part takes does.
-/

namespace Sys2Proof.Machine

open Sys2Proof

/-! ### The tests on a clock's fields -/

/-- Which fields of a clock lie out of their range, in the order of R81. -/
def Clock.fieldsOutside (c : Clock) : List Bool :=
  [decide (c.year < 2000 ∨ 2099 < c.year), decide (c.month < 1 ∨ 12 < c.month),
    decide (c.day < 1 ∨ daysIn c.year c.month < c.day), decide (23 < c.hour), decide (59 < c.minute),
    decide (59 < c.second)]

/-- The field that a refusal names is the first of them. -/
theorem Clock.findIdx_fieldsOutside (c : Clock) : c.fieldsOutside.findIdx? id = c.badField := by
  unfold Clock.fieldsOutside Clock.badField
  simp only [List.findIdx?_cons, List.findIdx?_nil, id_eq, decide_eq_true_eq, apply_ite (Option.map _),
    Option.map_some, Option.map_none]

/-- A number below 256 is read back from its byte. -/
theorem natOf_u8 {n : Nat} (h : n < 256) : natOf (u8 n) = n :=
  calc natOf (u8 n) = 0 * 256 + n / 1 % 256 := rfl
    _ = n := by omega

/-- One byte tells the numbers below 256 apart. -/
theorem u8_injective {a b : Nat} (ha : a < 256) (hb : b < 256) (h : u8 a = u8 b) : a = b :=
  calc a = natOf (u8 a) := (natOf_u8 ha).symm
    _ = natOf (u8 b) := congrArg natOf h
    _ = b := natOf_u8 hb

/-! ### The command's outcome -/

theorem State.doSetClock_refused {req : Request} {s : State} {n : Nat} (h : (clockAt req.data 0).badField = some n) :
    State.doSetClock req s = ⟨s, .badValue, u8 n⟩ := by
  simp only [State.doSetClock, h]

theorem State.doSetClock_loaded {req : Request} {s : State} (h : (clockAt req.data 0).badField = none) :
    State.doSetClock req s =
      ⟨s.onTime (·.load (clockAt req.data 0)), .ok, clockBytes (clockAt req.data 0)⟩ := by
  simp only [State.doSetClock, answerOk, h]

/-- A SET_CLOCK that the part takes, with its group in force and its data complete, answers as the time base does. -/
theorem exec_setClock_of_admits {req : Request} {s : State} {a : Answer} (h : s.admits .config req)
    (hn : 7 ≤ req.data.length) (ha : State.doSetClock req (s.take (.setClock req)) = a) :
    exec (.setClock req) s = .next (a.state.respond req a.status a.data) := by
  subst ha
  have taken : (s.take (.setClock req)).admits .config req := h
  exact congrArg Host.Outcome.next (State.serve_answers taken hn)

/-- Settles O28: the fields that the statement tests are `Clock.fieldsOutside` of the clock carried, so the first bad
one is `Clock.badField`, by whose two cases `State.doSetClock` answers. -/
theorem setClock : Obligations.SetClock := by
  have distinct : ∀ a b, a < 6 → b < 6 → u8 a = u8 b → a = b :=
    fun a b ha hb => u8_injective (by omega) (by omega)
  refine ⟨u8, distinct, fun req s h hn => ⟨fun n hbad => ?refused, fun hgood => ?loaded⟩⟩
  case refused =>
    have named : (clockAt req.data 0).badField = some n := (Clock.findIdx_fieldsOutside _).symm.trans hbad
    exact exec_setClock_of_admits h hn (State.doSetClock_refused named)
  case loaded =>
    have inRange : (clockAt req.data 0).badField = none := (Clock.findIdx_fieldsOutside _).symm.trans hgood
    exact exec_setClock_of_admits h hn (State.doSetClock_loaded inRange)

end Sys2Proof.Machine
end

section
/-!
The payload of a sample (R91): what the rounded quotient is, where the bin centres stand, what the force tables give
between, below and above them, and the sum a window's bin receives.
-/

namespace Sys2Proof.Machine

open Sys2Proof

/-! ### The rounded quotient and the 32-bit field -/

theorem clampS32_eq_max_min (x : Int) : clampS32 x = max (-2147483648) (min 2147483647 x) := by
  unfold clampS32 clampInt
  omega

theorem roundDiv_of_ne_zero (num : Int) {den : Int} (h : den ≠ 0) :
    roundDiv num den = num.sign * den.sign * ((2 * num.natAbs + den.natAbs) / (2 * den.natAbs) : Nat) := if_neg h

theorem roundDiv_neg (num : Int) {den : Int} (h : den ≠ 0) : roundDiv (-num) den = -roundDiv num den := by
  rw [roundDiv_of_ne_zero _ h, roundDiv_of_ne_zero _ h, Int.natAbs_neg, Int.sign_neg, Int.neg_mul, Int.neg_mul]

theorem roundDiv_zero {den : Int} (h : den ≠ 0) : roundDiv 0 den = 0 := by
  rw [roundDiv_of_ne_zero _ h, Int.sign_zero, Int.zero_mul, Int.zero_mul]

/-- From 0 up, the nearest whole number is the quotient plus one half, with the remainder dropped. -/
theorem roundDiv_of_nonneg {num den : Int} (hnum : 0 ≤ num) (hden : 0 < den) :
    roundDiv num den = (2 * num + den) / (2 * den) := by
  obtain rfl | hpos : num = 0 ∨ 0 < num := by omega
  · rw [roundDiv_zero (Int.ne_of_gt hden), Int.ediv_eq_zero_of_lt (by omega) (by omega)]
  · rw [roundDiv_of_ne_zero _ (Int.ne_of_gt hden), Int.sign_eq_one_of_pos hpos, Int.sign_eq_one_of_pos hden,
      Int.one_mul, Int.one_mul, Int.natCast_ediv, Int.natCast_add, Int.natCast_mul, Int.natCast_mul,
      Int.natAbs_of_nonneg hnum, Int.natAbs_of_nonneg (Int.le_of_lt hden)]
    rfl

/-- From 0 up, a fraction of one half goes up. -/
theorem roundDiv_nearest_of_nonneg {num den : Int} (hnum : 0 ≤ num) (hden : 0 < den) :
    2 * num - den < 2 * (roundDiv num den * den) ∧ 2 * (roundDiv num den * den) ≤ 2 * num + den := by
  rw [roundDiv_of_nonneg hnum hden]
  have whole := Int.ediv_mul_add_emod (2 * num + den) (2 * den)
  have low := Int.emod_nonneg (2 * num + den) (by omega : 2 * den ≠ 0)
  have high := Int.emod_lt_of_pos (2 * num + den) (by omega : 0 < 2 * den)
  rw [Int.mul_left_comm] at whole
  omega

/-- Below 0 it goes down, by the symmetry of the rounding. -/
theorem roundDiv_nearest_of_neg {num den : Int} (hnum : num < 0) (hden : 0 < den) :
    2 * num - den ≤ 2 * (roundDiv num den * den) ∧ 2 * (roundDiv num den * den) < 2 * num + den := by
  obtain ⟨low, high⟩ := roundDiv_nearest_of_nonneg (num := -num) (by omega) hden
  rw [roundDiv_neg num (Int.ne_of_gt hden), Int.neg_mul] at low high
  omega

/-- An exact quotient is not changed by rounding. -/
theorem roundDiv_mul_cancel {k den : Int} (hk : 0 ≤ k) (hden : 0 < den) : roundDiv (k * den) den = k := by
  have half : 2 * (k * den) + den = den + k * (2 * den) := by
    rw [Int.mul_left_comm, Int.add_comm]
  rw [roundDiv_of_nonneg (Int.mul_nonneg hk (Int.le_of_lt hden)) hden, half,
    Int.add_mul_ediv_right _ _ (by omega), Int.ediv_eq_zero_of_lt (Int.le_of_lt hden) (by omega), Int.zero_add]

/-! ### The bin centres (R89) -/

section
variable {p : WeighRecord} (h : 800 ≤ p.thetaE - p.thetaS)
include h

theorem WeighRecord.binWidth_eq : p.binWidth = (p.thetaE - p.thetaS) / 16 :=
  Int.tdiv_eq_ediv_of_nonneg (by omega)

theorem WeighRecord.centre_of_lt {b : Nat} (hb : b < 15) : p.centre b = p.thetaS + b * p.binWidth + p.binWidth / 2 := by
  have width := p.binWidth_eq h
  rw [centre, if_pos hb, Int.tdiv_eq_ediv_of_nonneg (by omega)]

theorem WeighRecord.centre_of_le {b : Nat} (hb : 15 ≤ b) :
    p.centre b = p.thetaS + 15 * p.binWidth + (p.thetaE - p.thetaS - 15 * p.binWidth) / 2 := by
  have width := p.binWidth_eq h
  rw [centre, if_neg (by omega), Int.tdiv_eq_ediv_of_nonneg (by omega)]

/-- The centres in whole numbers from the window start, as the statement writes them. -/
theorem WeighRecord.centre_eq_add (b : Nat) :
    p.centre b =
      let span := (p.thetaE - p.thetaS).toNat
      let width := span / 16
      if b < 15 then p.thetaS + ((b * width + width / 2 : Nat) : Int)
      else p.thetaS + ((15 * width + (span - 15 * width) / 2 : Nat) : Int) := by
  have width : p.binWidth = ((p.thetaE - p.thetaS).toNat / 16 : Nat) := by
    rw [p.binWidth_eq h]
    omega
  dsimp only
  split
  next hb =>
    rw [centre_of_lt h hb, width, Int.natCast_add, Int.natCast_mul]
    omega
  next hb =>
    rw [centre_of_le h (by omega), width]
    omega

theorem WeighRecord.centre_lt_succ {b : Nat} (hb : b < 15) : p.centre b < p.centre (b + 1) := by
  have width := p.binWidth_eq h
  rw [centre_of_lt h hb]
  obtain inner | rfl : b + 1 < 15 ∨ b = 14 := by omega
  · rw [centre_of_lt h inner, Int.natCast_add, Int.add_mul]
    omega
  · rw [centre_of_le h (Nat.le_refl 15)]
    omega

theorem WeighRecord.centre_le_centre {a b : Nat} (hab : a ≤ b) : p.centre a ≤ p.centre b := by
  induction hab with
  | refl => exact Int.le_refl _
  | @step b _ ih =>
    obtain inner | outer : b < 15 ∨ 15 ≤ b := by omega
    · exact Int.le_trans ih (Int.le_of_lt (centre_lt_succ h inner))
    · rwa [centre_of_le h outer, ← centre_of_le h (Nat.le_succ_of_le outer)] at ih

/-! ### The line through a table of forces (R91) -/

/-- The centres at or below an angle, where the first k are and the rest are not. -/
theorem WeighRecord.countP_centres {k : Nat} {theta : Int} (hk : k ≤ 16) (hlow : ∀ i < k, p.centre i ≤ theta)
    (hhigh : k < 16 → theta < p.centre k) :
    (List.range 16).countP (fun i => decide (p.centre i ≤ theta)) = k := by
  have reached : (List.range k).countP (fun i => decide (p.centre i ≤ theta)) = k := by
    rw [List.countP_eq_length.2 fun i hi => decide_eq_true (hlow i (List.mem_range.1 hi)), List.length_range]
  have beyond : ((List.range (16 - k)).map (k + ·)).countP (fun i => decide (p.centre i ≤ theta)) = 0 := by
    refine List.countP_eq_zero.2 fun i hi => ?_
    obtain ⟨j, hj, rfl⟩ := List.mem_map.1 hi
    have inside := List.mem_range.1 hj
    have above := Int.lt_of_lt_of_le (hhigh (by omega)) (centre_le_centre h (Nat.le_add_right k j))
    rw [decide_eq_true_iff]
    exact Int.not_le.2 above
  have cut : List.range 16 = List.range k ++ (List.range (16 - k)).map (k + ·) := by
    rw [← List.range_add, Nat.add_sub_cancel' hk]
  rw [cut, List.countP_append, reached, beyond, Nat.add_zero]

theorem WeighRecord.interpolate_between {b : Nat} {theta : Int} (hb : b < 15) (hlow : p.centre b ≤ theta)
    (hhigh : theta < p.centre (b + 1)) (v : Vector (Option Int) 16) :
    p.interpolate v theta =
      (forceAt v b * (p.centre (b + 1) - p.centre b) + (forceAt v (b + 1) - forceAt v b) * (theta - p.centre b),
        p.centre (b + 1) - p.centre b) := by
  have below := countP_centres h (k := b + 1) (by omega)
    (fun i hi => Int.le_trans (centre_le_centre h (by omega)) hlow) (fun _ => hhigh)
  simp only [interpolate, below]
  rw [if_neg (by omega), if_neg (by omega), Nat.add_sub_cancel]

theorem WeighRecord.interpolate_below {theta : Int} (hlow : theta < p.centre 0) (v : Vector (Option Int) 16) :
    p.interpolate v theta = (forceAt v 0, 1) := by
  have below := countP_centres h (Nat.zero_le 16) (fun _ => nofun) (fun _ => hlow)
  rw [interpolate, below]
  rfl

theorem WeighRecord.interpolate_above {theta : Int} (hhigh : p.centre 15 ≤ theta) (v : Vector (Option Int) 16) :
    p.interpolate v theta = (forceAt v 15, 1) := by
  have below := countP_centres h (Nat.le_refl 16)
    (fun i hi => Int.le_trans (centre_le_centre h (by omega)) hhigh) (fun beyond => absurd beyond (Nat.lt_irrefl 16))
  rw [interpolate, below]
  rfl

/-- At a bin's centre every table gives that bin's force, over one and the same distance. -/
theorem WeighRecord.interpolate_centre {b : Nat} (hb : b < 16) :
    ∃ d : Int, 0 < d ∧ ∀ v, p.interpolate v (p.centre b) = (forceAt v b * d, d) := by
  obtain inner | rfl : b < 15 ∨ b = 15 := by omega
  · have step := centre_lt_succ h inner
    refine ⟨p.centre (b + 1) - p.centre b, by omega, fun v => ?_⟩
    rw [interpolate_between h inner (Int.le_refl _) step, Int.sub_self, Int.mul_zero, Int.add_zero]
  · exact ⟨1, Int.zero_lt_one, fun v => by rw [interpolate_above h (Int.le_refl _), Int.mul_one]⟩

end

/-! ### The forces of a valid calibration (R109, R110) -/

/-- Every bin of a valid record holds its two forces. -/
theorem CalRecord.valid_bins {c : CalRecord} (h : c.valid = true) {b : Nat} (hb : b < 16) :
    ∃ e r, c.bins b e r ∧ 1 ≤ c.minDelta ∧ (c.minDelta : Int) ≤ r - e := by
  simp only [valid, deltasHold, Bool.and_eq_true, List.all_eq_true, List.mem_range, decide_eq_true_eq] at h
  obtain ⟨⟨⟨deltas, least⟩, -⟩, -⟩ := h
  have delta := deltas b hb
  split at delta
  next e r hempty hreference => exact ⟨e, r, ⟨hempty, hreference⟩, least, of_decide_eq_true delta⟩
  next => cases delta

theorem CalRecord.valid_mref {c : CalRecord} (h : c.valid = true) : 500 ≤ c.mref ∧ c.mref ≤ 30000 := by
  simp only [valid, Bool.and_eq_true, decide_eq_true_eq] at h
  obtain ⟨⟨-, mref⟩, -⟩ := h
  exact mref

theorem CalRecord.bins.forceAt_empty {c : CalRecord} {b : Nat} {e r : Int} (h : c.bins b e r) :
    forceAt c.empty b = e := by rw [forceAt, h.1]; rfl

theorem CalRecord.bins.forceAt_reference {c : CalRecord} {b : Nat} {e r : Int} (h : c.bins b e r) :
    forceAt c.reference b = r := by rw [forceAt, h.2]; rfl

/-- In a valid record a bin's reference force is above its empty force. -/
theorem CalRecord.bins.empty_lt_reference {c : CalRecord} {b : Nat} {e r : Int} (h : c.bins b e r)
    (hvalid : c.valid = true) : e < r := by
  obtain ⟨hb, -⟩ := Vector.getElem?_eq_some_iff.1 h.1
  obtain ⟨e', r', h', least, delta⟩ := CalRecord.valid_bins hvalid hb
  rw [← h.forceAt_empty, ← h.forceAt_reference, h'.forceAt_empty, h'.forceAt_reference]
  omega

/-- On the line between two bins that each have a positive delta, the delta is positive. -/
theorem delta_pos_between {e r e' r' d x : Int} (here : e < r) (there : e' < r') (hx : 0 ≤ x) (hd : x < d) :
    0 < (r * d + (r' - r) * x) - (e * d + (e' - e) * x) := by
  have fromHere : 0 < (r - e) * (d - x) := Int.mul_pos (by omega) (by omega)
  have fromThere : 0 ≤ (r' - e') * x := Int.mul_nonneg (by omega) hx
  simp only [Int.sub_mul, Int.mul_sub] at fromHere fromThere ⊢
  omega

/-! ### The payload of a sample (R91) -/

/-- A sample's payload is a fraction rounded to the nearest kg, one half away from zero, plus the zero offset, clamped
to 32 bits. -/
def WeighRecord.PayloadRounds (p : WeighRecord) (c : CalRecord) (num den theta force : Int) : Prop :=
  ∃ raw : Int,
    (0 ≤ num → 2 * num - den < 2 * (raw * den) ∧ 2 * (raw * den) ≤ 2 * num + den) ∧
    (num < 0 → 2 * num - den ≤ 2 * (raw * den) ∧ 2 * (raw * den) < 2 * num + den) ∧
    p.payload c force theta = max (-2147483648) (min 2147483647 (raw + c.zeroOffset))

/-- The payload, where both tables give their fractions over one distance. -/
theorem WeighRecord.payload_of_interpolate {p : WeighRecord} {c : CalRecord} {theta empty reference d : Int}
    (hempty : p.interpolate c.empty theta = (empty, d)) (hreference : p.interpolate c.reference theta = (reference, d))
    (force : Int) :
    p.payload c force theta =
      clampS32 (roundDiv (c.mref * (force * d - empty)) (reference - empty) + c.zeroOffset) := by
  rw [payload, hempty, hreference]

theorem WeighRecord.payloadRounds_of_interpolate {p : WeighRecord} {c : CalRecord} {theta empty reference d : Int}
    (hempty : p.interpolate c.empty theta = (empty, d)) (hreference : p.interpolate c.reference theta = (reference, d))
    (hden : 0 < reference - empty) (force : Int) :
    p.PayloadRounds c (c.mref * (force * d - empty)) (reference - empty) theta force :=
  ⟨_, fun hnum => roundDiv_nearest_of_nonneg hnum hden, fun hnum => roundDiv_nearest_of_neg hnum hden,
    (payload_of_interpolate hempty hreference force).trans (clampS32_eq_max_min _)⟩

section
variable {p : WeighRecord} {c : CalRecord}

theorem WeighRecord.payloadRounds_between (h : 800 ≤ p.thetaE - p.thetaS) (hvalid : c.valid = true)
    {b : Nat} {e r e' r' theta : Int} (hb : b < 15) (here : c.bins b e r) (there : c.bins (b + 1) e' r')
    (hlow : p.centre b ≤ theta) (hhigh : theta < p.centre (b + 1)) (force : Int) :
    let d := p.centre (b + 1) - p.centre b
    let x := theta - p.centre b
    let empty := e * d + (e' - e) * x
    let reference := r * d + (r' - r) * x
    0 < d ∧ 0 < reference - empty ∧
      p.PayloadRounds c (c.mref * (force * d - empty)) (reference - empty) theta force := by
  intro d x empty reference
  have onEmpty : p.interpolate c.empty theta = (empty, d) := by
    rw [interpolate_between h hb hlow hhigh, here.forceAt_empty, there.forceAt_empty]
  have onReference : p.interpolate c.reference theta = (reference, d) := by
    rw [interpolate_between h hb hlow hhigh, here.forceAt_reference, there.forceAt_reference]
  have delta : 0 < reference - empty :=
    delta_pos_between (here.empty_lt_reference hvalid) (there.empty_lt_reference hvalid) (by omega) (by omega)
  exact ⟨by omega, delta, payloadRounds_of_interpolate onEmpty onReference delta force⟩

/-- Outside the outermost centres the tables give the forces of one bin as they stand. -/
theorem WeighRecord.payloadRounds_outside (hvalid : c.valid = true) {b : Nat} {e r theta : Int}
    (hbin : c.bins b e r) (flat : ∀ v, p.interpolate v theta = (forceAt v b, 1)) (force : Int) :
    0 < r - e ∧ p.PayloadRounds c (c.mref * (force - e)) (r - e) theta force := by
  have onEmpty : p.interpolate c.empty theta = (e, 1) := by rw [flat, hbin.forceAt_empty]
  have onReference : p.interpolate c.reference theta = (r, 1) := by rw [flat, hbin.forceAt_reference]
  have delta : 0 < r - e := Int.sub_pos_of_lt (hbin.empty_lt_reference hvalid)
  have rounds := payloadRounds_of_interpolate onEmpty onReference delta force
  rw [Int.mul_one] at rounds
  exact ⟨delta, rounds⟩

/-- At a bin's centre its empty force weighs nothing and its reference force the reference mass, before the offset. -/
theorem WeighRecord.payload_centre (h : 800 ≤ p.thetaE - p.thetaS) (hvalid : c.valid = true) {b : Nat} {e r : Int}
    (hb : b < 16) (hbin : c.bins b e r) (hlow : -30000 ≤ c.zeroOffset) (hhigh : c.zeroOffset ≤ 30000) :
    p.payload c e (p.centre b) = c.zeroOffset ∧ p.payload c r (p.centre b) = c.mref + c.zeroOffset := by
  obtain ⟨d, hd, line⟩ := interpolate_centre h hb
  have onEmpty := hbin.forceAt_empty ▸ line c.empty
  have onReference := hbin.forceAt_reference ▸ line c.reference
  have delta : 0 < r * d - e * d := by
    rw [← Int.sub_mul]
    exact Int.mul_pos (Int.sub_pos_of_lt (hbin.empty_lt_reference hvalid)) hd
  obtain ⟨-, mrefHigh⟩ := CalRecord.valid_mref hvalid
  rw [payload_of_interpolate onEmpty onReference, payload_of_interpolate onEmpty onReference,
    roundDiv_mul_cancel (Int.natCast_nonneg _) delta, Int.sub_self, Int.mul_zero,
    roundDiv_zero (Int.ne_of_gt delta), Int.zero_add]
  exact ⟨(clampS32_eq_iff _).2 (by omega), (clampS32_eq_iff _).2 (by omega)⟩

end

/-! ### A sample accumulated in a window (R95, R96) -/

/-- Every boom angle has a bin, also one below the window start (log 41). -/
theorem WeighRecord.bin_lt (p : WeighRecord) (theta : Int) : p.bin theta < 16 := by
  unfold bin
  split
  · exact BitVec.isLt _
  · omega

theorem WeighRecord.believable_iff (p : WeighRecord) (v : Int) : p.believable v = true ↔ 0 ≤ v ∧ v ≤ p.pressureMax :=
  decide_eq_true_iff

/-- The last case of R95: readable signals, believable pressures, no reversal, and below the window end. -/
theorem State.windowSample_accumulates {theta : Int} {tag : TimeTag} {s : State} (hfresh : s.signalsFresh)
    (hpressures : s.pressuresOk) (hforward : s.weigh.window.highest - s.weigh.params.hysteresis ≤ theta)
    (hinside : theta < s.weigh.params.thetaE) : s.windowSample theta tag = s.accumulate theta := by
  obtain ⟨head, rod, tilt⟩ := hfresh
  have headOk := (s.weigh.params.believable_iff _).2 (hpressures .headP (.inl rfl))
  have rodOk := (s.weigh.params.believable_iff _).2 (hpressures .rodP (.inr rfl))
  simp only [windowSample, head, rod, tilt, headOk, rodOk, Int.not_lt.2 hforward, Int.not_le.2 hinside, Bool.and_self,
    Bool.not_true, Bool.false_eq_true, if_false]

theorem exec_weighSample_accumulates {theta : Int} {tag : TimeTag} {s : State} (hwindow : s.weigh.state = .window)
    (hfresh : s.signalsFresh) (hpressures : s.pressuresOk)
    (hforward : s.weigh.window.highest - s.weigh.params.hysteresis ≤ theta) (hinside : theta < s.weigh.params.thetaE) :
    exec (.weighSample theta tag) s = .next ((s.take (.weighSample theta tag)).accumulate theta) := by
  have inWindow : (s.take (.weighSample theta tag)).weighSample theta tag =
      (s.take (.weighSample theta tag)).windowSample theta tag := by
    simp only [State.weighSample, State.take_weigh, hwindow]
  have accumulates : (s.take (.weighSample theta tag)).windowSample theta tag = _ :=
    State.windowSample_accumulates hfresh hpressures hforward hinside
  exact congrArg Host.Outcome.next (inWindow.trans accumulates)

@[simp] theorem WindowRecord.seePitch_bins (w : WindowRecord) (pitch : Option Int) :
    (w.seePitch pitch).bins = w.bins := by cases pitch <;> rfl

@[simp] theorem WindowRecord.seeAccel_bins (w : WindowRecord) (accel : Option Int) :
    (w.seeAccel accel).bins = w.bins := by cases accel <;> rfl

theorem WindowRecord.addToBin_bins (w : WindowRecord) (b : Nat) (force payload : Int) (i : Fin 16) :
    (w.addToBin b force payload).bins[i] =
      if i.val = b then ⟨w.bins[i].count + 1, w.bins[i].force + force, w.bins[i].payload + payload⟩ else w.bins[i] :=
  Vector.getElem_mapIdx _

/-- The payload that an accumulated sample adds: none where the window's calibration is not valid. -/
def State.addedPayload (s : State) (force theta : Int) : Int :=
  if s.weigh.window.cal.valid then s.weigh.params.payload s.weigh.window.cal force theta else 0

/-- The bins of a window after a sample: its own has taken the force and the payload, the others stand. -/
theorem State.accumulate_bins (theta : Int) (s : State) (i : Fin 16) :
    (s.accumulate theta).weigh.window.bins[i] =
      let x := s.weigh.window.bins[i]
      let force := s.weigh.params.force (s.sig.valueOf .headP) (s.sig.valueOf .rodP)
      if i.val = s.weigh.params.bin theta then
        ⟨x.count + 1, x.force + force, x.payload + s.addedPayload force theta⟩
      else x := by
  simp only [accumulate, onWeigh_weigh, WindowRecord.seeAccel_bins, WindowRecord.seePitch_bins]
  exact WindowRecord.addToBin_bins _ _ _ _ _

/-- Settles O35. The centres of the statement are the model's, the force tables give their fractions by the place of
the angle among them, and the bins of the window are those of `State.accumulate`. -/
theorem samplePayload : Obligations.SamplePayload := by
  refine ⟨?payload, ?window⟩
  case payload =>
    intro p c h hvalid span width centre rounds
    have centres : centre = p.centre := funext fun b => (p.centre_eq_add h b).symm
    clear_value centre
    subst centres
    exact ⟨fun b hb => CalRecord.valid_bins hvalid hb,
      fun b e r e' r' force theta hb here there hlow hhigh =>
        WeighRecord.payloadRounds_between h hvalid hb here there hlow hhigh force,
      fun e r force theta hbin hlow =>
        WeighRecord.payloadRounds_outside hvalid hbin (WeighRecord.interpolate_below h hlow) force,
      fun e r force theta hbin hhigh =>
        WeighRecord.payloadRounds_outside hvalid hbin (WeighRecord.interpolate_above h hhigh) force,
      fun b e r hb hbin hlow hhigh => WeighRecord.payload_centre h hvalid hb hbin hlow hhigh⟩
  case window =>
    intro theta tag s hwindow hfresh hpressures p w hforward hinside force
    have bins := (s.take (.weighSample theta tag)).accumulate_bins theta
    obtain ⟨b, own⟩ : ∃ b : Fin 16, b.val = p.bin theta := ⟨⟨_, p.bin_lt theta⟩, rfl⟩
    have taken := (bins b).trans (if_pos own)
    refine ⟨b, _, exec_weighSample_accumulates hwindow hfresh hpressures hforward hinside, fun i hi => ?other,
      fun hvalid => ?weighed, fun hinvalid => ?unweighed⟩
    case other => exact (bins i).trans (if_neg fun same => hi (Fin.ext (same.trans own.symm)))
    case weighed =>
      have added : s.addedPayload force theta = p.payload w.cal force theta := if_pos hvalid
      rw [← added]
      exact taken
    case unweighed =>
      have added : s.addedPayload force theta = 0 := if_neg (ne_true_of_eq_false hinvalid)
      rw [← Int.add_zero w.bins[b].payload, ← added]
      exact taken

end Sys2Proof.Machine
end

section
/-!
Every command answers a next state: the state after a command as a function, the body behind a management command, what
`State.serve` can do, and the two inductions that carry a property of states over a step.
-/

namespace Sys2Proof.Machine

open Sys2Proof

/-! ### The state after a command -/

/-- The state that a command answers. -/
def State.run (c : Instr) (s : State) : State :=
  match exec c s with
  | .next t => t
  | .fault _ => s
  | .refused _ => s

/-- No command of the part stops it. -/
theorem exec_eq_run (c : Instr) (s : State) : exec c s = .next (s.run c) := by
  cases c <;> rfl

theorem exec_eq_next_iff {c : Instr} {s t : State} : exec c s = .next t ↔ s.run c = t := by
  rw [exec_eq_run, Host.Outcome.next.injEq]

theorem eq_run_of_exec {c : Instr} {s t : State} (h : exec c s = .next t) : t = s.run c := by
  rw [exec_eq_run] at h
  exact (Host.Outcome.next.inj h).symm

/-! ### What each command does, the management commands apart -/

@[simp] theorem run_powerReset (straps : BitVec 4) (s : State) :
    s.run (.powerReset straps) = s.powerReset straps := rfl

@[simp] theorem run_characterReceived (p : Port) (c : Character) (s : State) :
    s.run (.characterReceived p c) = State.receive p c (s.take (.characterReceived p c)) := rfl

@[simp] theorem run_ingressDown (p : Port) (s : State) :
    s.run (.ingressDown p) = State.goDown p (s.take (.ingressDown p)) := rfl

@[simp] theorem run_arbiterStart (p : Port) (s : State) :
    s.run (.arbiterStart p) = (s.take (.arbiterStart p)).onLink fun l => l.arbiterStart p := rfl

@[simp] theorem run_transmissionComplete (p : Port) (s : State) :
    s.run (.transmissionComplete p) = State.completeTransmission p (s.take (.transmissionComplete p)) := rfl

@[simp] theorem run_releaseLimitExpiry (s : State) :
    s.run .releaseLimitExpiry = (s.take .releaseLimitExpiry).expireLimit := rfl

@[simp] theorem run_stalenessExpiry (slot : Fin 32) (s : State) :
    s.run (.stalenessExpiry slot) = State.expireSlot slot (s.take (.stalenessExpiry slot)) := rfl

@[simp] theorem run_faultSet (f : FaultFlag) (s : State) :
    s.run (.faultSet f) = State.setFault f (s.take (.faultSet f)) := rfl

@[simp] theorem run_weighSample (theta : Int) (tag : TimeTag) (s : State) :
    s.run (.weighSample theta tag) = State.weighSample theta tag (s.take (.weighSample theta tag)) := rfl

@[simp] theorem run_speedSample (speed : Int) (tag : TimeTag) (s : State) :
    s.run (.speedSample speed tag) = (s.take (.speedSample speed tag)).onWeigh fun w => w.takeSpeed speed tag := rfl

@[simp] theorem run_weighStaleNotice (r : Role) (s : State) :
    s.run (.weighStaleNotice r) = State.weighStale r (s.take (.weighStaleNotice r)) := rfl

@[simp] theorem run_candidateEvaluation (n : Notice) (s : State) :
    s.run (.candidateEvaluation n) = State.trackNotice n (s.take (.candidateEvaluation n)) := rfl

@[simp] theorem run_dwellEnd (start : Nat) (s : State) :
    s.run (.dwellEnd start) = State.takeDwellEnd start (s.take (.dwellEnd start)) := rfl

@[simp] theorem run_pendingLift (r : LiftResult) (s : State) :
    s.run (.pendingLift r) = State.takeLift r (s.take (.pendingLift r)) := rfl

@[simp] theorem run_reversalNotice (s : State) :
    s.run .reversalNotice = (s.take .reversalNotice).takeReversal := rfl

@[simp] theorem run_calLift (r : LiftResult) (forces : BinForces) (s : State) :
    s.run (.calLift r forces) = State.takeCalLift r forces (s.take (.calLift r forces)) := rfl

@[simp] theorem run_bucketCredit (c : Credit) (s : State) :
    s.run (.bucketCredit c) = State.credit c (s.take (.bucketCredit c)) := rfl

@[simp] theorem run_pendingLiftNotice (s : State) :
    s.run .pendingLiftNotice = (s.take .pendingLiftNotice).evalAhead := rfl

@[simp] theorem run_nextTarget (s : State) :
    s.run .nextTarget = (s.take .nextTarget).nextTarget := rfl

@[simp] theorem run_selectKey (i : Fin 4) (s : State) :
    s.run (.selectKey i) = State.selectKey i (s.take (.selectKey i)) := rfl

@[simp] theorem run_newTarget (s : State) :
    s.run .newTarget = (s.take .newTarget).newTarget := rfl

@[simp] theorem run_closeLoad (s : State) :
    s.run .closeLoad = (s.take .closeLoad).closeLoad := rfl

@[simp] theorem run_deleteLast (s : State) :
    s.run .deleteLast = (s.take .deleteLast).deleteLast := rfl

@[simp] theorem run_zero (s : State) :
    s.run .zero = (s.take .zero).zeroKey := rfl

@[simp] theorem run_dispatchArrival (id capacity : Nat) (s : State) :
    s.run (.dispatchArrival id capacity) = State.arrive id capacity (s.take (.dispatchArrival id capacity)) := rfl

@[simp] theorem run_dispatchDeparture (id : Nat) (s : State) :
    s.run (.dispatchDeparture id) = State.depart id (s.take (.dispatchDeparture id)) := rfl

@[simp] theorem run_conversionComplete (raw : BitVec 12) (s : State) :
    s.run (.conversionComplete raw) = State.completeConversion raw (s.take (.conversionComplete raw)) := rfl

@[simp] theorem run_queueTrigger (q : QueueId) (s : State) :
    s.run (.queueTrigger q) = State.timerTrigger q (s.take (.queueTrigger q)) := rfl

@[simp] theorem run_tfExpiry (s : State) :
    s.run .tfExpiry = State.expirePeriodic .tf (.queueTrigger .fast) (s.take .tfExpiry) := rfl

@[simp] theorem run_tsExpiry (s : State) :
    s.run .tsExpiry = State.expirePeriodic .ts (.queueTrigger .slow) (s.take .tsExpiry) := rfl

@[simp] theorem run_trExpiry (s : State) :
    s.run .trExpiry = State.expirePeriodic .tr .statusReport (s.take .trExpiry) := rfl

@[simp] theorem run_tdExpiry (s : State) :
    s.run .tdExpiry = State.expireOneShot .td .dwellEnd (s.take .tdExpiry) := rfl

@[simp] theorem run_tcExpiry (s : State) :
    s.run .tcExpiry = State.expireOneShot .tc .calDeadline (s.take .tcExpiry) := rfl

@[simp] theorem run_timerStart (i : TimerId) (reload : Option Nat) (start : Nat) (s : State) :
    s.run (.timerStart i reload start) =
      (s.take (.timerStart i reload start)).onTime fun t => t.setTimer i (takeStart i reload start) := rfl

@[simp] theorem run_timerStop (i : TimerId) (s : State) :
    s.run (.timerStop i) = (s.take (.timerStop i)).onTime fun t => t.setTimer i stopTimer := rfl

@[simp] theorem run_calDeadline (start : Nat) (s : State) :
    s.run (.calDeadline start) = State.takeDeadline start (s.take (.calDeadline start)) := rfl

@[simp] theorem run_secondEvent (s : State) :
    s.run .secondEvent = (s.take .secondEvent).takeSecond := rfl

@[simp] theorem run_trackerShiftClose (closing new : Word16) (s : State) :
    s.run (.trackerShiftClose closing new) =
      State.closeTrackerShift closing (s.take (.trackerShiftClose closing new)) := rfl

@[simp] theorem run_accountShiftClose (closing new : Word16) (s : State) :
    s.run (.accountShiftClose closing new) =
      State.closeAccountShift closing new (s.take (.accountShiftClose closing new)) := rfl

@[simp] theorem run_shiftAssemblyArrival (closing : Word16) (part : ShiftPart) (s : State) :
    s.run (.shiftAssemblyArrival closing part) =
      State.arriveShift closing part (s.take (.shiftAssemblyArrival closing part)) := rfl

@[simp] theorem run_statusReport (s : State) :
    s.run .statusReport = (s.take .statusReport).sendStatus := rfl

@[simp] theorem run_liftResultReport (r : LiftResult) (s : State) :
    s.run (.liftResultReport r) = State.sendReport .liftResult (liftRecord r) (s.take (.liftResultReport r)) := rfl

@[simp] theorem run_bucketReport (b : BucketReport) (s : State) :
    s.run (.bucketReport b) = State.sendReport .bucket (bucketContents b) (s.take (.bucketReport b)) := rfl

@[simp] theorem run_targetReport (t : TargetReport) (s : State) :
    s.run (.targetReport t) = State.sendReport .target (targetContents t) (s.take (.targetReport t)) := rfl

@[simp] theorem run_calReport (c : CalReport) (s : State) :
    s.run (.calReport c) = State.sendReport .cal (calContents c) (s.take (.calReport c)) := rfl

@[simp] theorem run_faultReport (set : FaultSet) (s : State) :
    s.run (.faultReport set) = State.sendReport .fault (faultContents set) (s.take (.faultReport set)) := rfl

@[simp] theorem run_loadDrain (s : State) :
    s.run .loadDrain = (s.take .loadDrain).drain := rfl

@[simp] theorem run_unknownCommand (req : Request) (s : State) :
    s.run (.unknownCommand req) =
      State.whenTaken req (fun s => s.respond req .unknownCommand []) (s.take (.unknownCommand req)) := rfl

/-! ### Management commands -/

/-- What the owning block makes of a management command that passes the checks of R186. -/
def bodyOf : Instr → State → Answer
  | .identify _ => State.doIdentify
  | .readEntry req => State.doReadEntry req
  | .readState req => State.doReadState req
  | .readClock _ => State.doReadClock
  | .readCounters _ => State.doReadCounters
  | .readFaults _ => State.doReadFaults
  | .readTotals _ => State.doReadTotals
  | .calStatus req => State.doCalStatus req
  | .targetOpen req => State.doTargetOpen req
  | .targetSelect req => State.doTargetSelect req
  | .targetClose req => State.doTargetClose req
  | .deleteLastBucket _ => State.doDeleteLastBucket
  | .latchTotals _ => State.doLatchTotals
  | .readLoadLog _ => State.doReadLoadLog
  | .clearFaults _ => State.doClearFaults
  | .clearCounters _ => fun s => answerOk s.clearCounters []
  | .enterConfig _ => State.doEnterConfig
  | .writeEntry req => State.doWriteEntry req
  | .commit _ => State.doCommit
  | .setClock req => State.doSetClock req
  | .calStart req => State.doCalStart req
  | .calAccept _ => State.doCalAccept
  | .calDiscard _ => State.doCalDiscard
  | .arm req => State.onQueue req (State.doArm req)
  | .disarm req => State.onQueue req State.doDisarm
  | .trigger req => State.onQueue req State.doTrigger
  | .softReset _ => fun s => answerOk s.takeSoftReset []
  | .bypass _ => State.doBypass
  | _ => fun s => refuse s .ok

/-- A management command is served with its group, the data it needs and its body. -/
theorem run_request {c : Instr} {req : Request} {g : Group} (hr : requestOf c = some req)
    (hg : commandGroup c = some g) (s : State) :
    s.run c = State.serve g (commandNeed c) req (bodyOf c) (s.take c) := by
  cases c <;> cases hg <;> cases hr <;> rfl

/-- What the management unit makes of a request: nothing while the line is cut off, a busy drop while a response waits,
and otherwise one answer more, on the state as it was or as the body leaves it. -/
theorem State.serve_cases (g : Group) (need : Nat) (req : Request) (body : State → Answer) (s : State) :
    (carries s.link.relay = false ∧ State.serve g need req body s = s) ∨
    (holdsResponse (s.link.origQ.get req.port) = true ∧ State.serve g need req body s = s.busyDrop req.port) ∨
    (s.canTake req ∧ ∃ status, State.serve g need req body s = s.respond req status []) ∨
    (s.admits g req ∧ need ≤ req.data.length ∧
      State.serve g need req body s = (body s).state.respond req (body s).status (body s).data) := by
  cases hc : carries s.link.relay
  case false => exact .inl ⟨rfl, State.serve_cut_off hc⟩
  case true =>
    cases hr : holdsResponse (s.link.origQ.get req.port)
    case true => exact .inr (.inl ⟨rfl, State.serve_busy hc hr⟩)
    case false =>
      have taken : s.canTake req := ⟨hc, hr⟩
      cases hg : hasGroup (s.mgt.inForce.get req.port) g
      case false => exact .inr (.inr (.inl ⟨taken, _, State.serve_denied taken hg⟩))
      case true =>
        by_cases hn : req.data.length < need
        case pos => exact .inr (.inr (.inl ⟨taken, _, State.serve_short ⟨taken, hg⟩ hn⟩))
        case neg =>
          exact .inr (.inr (.inr ⟨⟨taken, hg⟩, Nat.not_lt.1 hn, State.serve_answers ⟨taken, hg⟩ (Nat.not_lt.1 hn)⟩))

/-- A property that a busy drop, an answer and the body keep holds after a request was served. -/
theorem State.serve_keeps {P : State → Prop} {g : Group} {need : Nat} {req : Request} {body : State → Answer}
    {s : State}
    (hs : P s) (busy : P (s.busyDrop req.port)) (refused : s.canTake req → ∀ status, P (s.respond req status []))
    (served : s.admits g req → need ≤ req.data.length →
      P ((body s).state.respond req (body s).status (body s).data)) :
    P (State.serve g need req body s) := by
  obtain ⟨_, h⟩ | ⟨_, h⟩ | ⟨taken, status, h⟩ | ⟨admitted, long, h⟩ := s.serve_cases g need req body <;> rw [h]
  · exact hs
  · exact busy
  · exact refused taken status
  · exact served admitted long

/-- An unlisted code is answered, dropped or left as a listed one is. -/
theorem State.whenTaken_keeps {P : State → Prop} {req : Request} {handle : State → State} {s : State}
    (hs : P s) (busy : P (s.busyDrop req.port)) (taken : s.canTake req → P (handle s)) :
    P (s.whenTaken req handle) := by
  unfold State.whenTaken
  split
  next hc =>
    split
    next => exact busy
    next hr => exact taken ⟨hc, eq_false_of_ne_true hr⟩
  next => exact hs

/-! ### A step -/

/-- Settles O1. -/
theorem stepRunsFrontCommand : Obligations.StepRunsFrontCommand := by
  intro c rest s h
  simp only [step, h]

/-- What a step runs: a command on the state with some of its waiting commands and of its count of free converter
results
changed, or one microsecond. -/
theorem step_cases {s t : State} (h : step s = .next t) :
    (∃ c rest, t = State.run c { s with pending := rest }) ∨
    (∃ c n, t = State.run c { s with acq := { s.acq with freeReads := n } }) ∨ t = s.tick := by
  unfold step at h
  split at h
  next c rest _ => exact .inl ⟨c, rest, eq_run_of_exec h⟩
  next =>
    split at h
    next c u hn =>
      have hu : u = s ∨ u = { s with acq := { s.acq with freeReads := s.acq.freeReads + 1 } } := by
        unfold State.nextEvent at hn
        split at hn
        · cases hn; exact .inl rfl
        · split at hn
          · cases hn; exact .inl rfl
          · split at hn
            · cases hn; exact .inr rfl
            · split at hn
              · cases hn; exact .inl rfl
              · cases hn
      obtain rfl | rfl := hu
      · exact .inr (.inl ⟨c, u.acq.freeReads, eq_run_of_exec h⟩)
      · exact .inr (.inl ⟨c, _, eq_run_of_exec h⟩)
    next => exact .inr (.inr (Host.Outcome.next.inj h).symm)

/-- A property that waiting commands and the count of free converter results do not touch, and that every command and
the
passing of time keep, is kept by a step. -/
theorem step_keeps {P : State → Prop} (waiting : ∀ s rest, P s → P { s with pending := rest })
    (reads : ∀ s n, P s → P { s with acq := { s.acq with freeReads := n } }) (runs : ∀ c s, P s → P (s.run c))
    (ticks : ∀ s, P s → P s.tick) {s t : State} (hs : P s) (h : step s = .next t) : P t := by
  obtain ⟨c, rest, rfl⟩ | ⟨c, n, rfl⟩ | rfl := step_cases h
  · exact runs c _ (waiting s rest hs)
  · exact runs c _ (reads s n hs)
  · exact ticks s hs

end Sys2Proof.Machine
end

section
/-!
The frame of every command: the blocks of the state that it can change. That a command leaves a block alone is then a
matter of reading the table `changes`.
-/

namespace Sys2Proof.Machine

open Sys2Proof

/-! ### The parts of a state -/

/-- The blocks of the part, and the requests that stand between them. -/
inductive Block where
  | link
  | sig
  | acq
  | time
  | weigh
  | cal
  | trk
  | acc
  | rep
  | mgt
  | handed
deriving DecidableEq

/-- The state `s` with the listed blocks taken from `t`. -/
def State.graft (bs : List Block) (t s : State) : State :=
  { link := if Block.link ∈ bs then t.link else s.link
    sig := if Block.sig ∈ bs then t.sig else s.sig
    acq := if Block.acq ∈ bs then t.acq else s.acq
    time := if Block.time ∈ bs then t.time else s.time
    weigh := if Block.weigh ∈ bs then t.weigh else s.weigh
    cal := if Block.cal ∈ bs then t.cal else s.cal
    trk := if Block.trk ∈ bs then t.trk else s.trk
    acc := if Block.acc ∈ bs then t.acc else s.acc
    rep := if Block.rep ∈ bs then t.rep else s.rep
    mgt := if Block.mgt ∈ bs then t.mgt else s.mgt
    handed := if Block.handed ∈ bs then t.handed else s.handed
    pending := s.pending }

theorem State.graft_self (bs : List Block) (s : State) : s.graft bs s = s := by
  simp only [State.graft, ite_self]

theorem eq_ite_mono {α : Type} {x y : α} {p q : Prop} [Decidable p] [Decidable q] (h : x = if p then x else y)
    (pq : p → q) : x = if q then x else y := by
  split
  · rfl
  next hq => exact h.trans (if_neg fun hp => hq (pq hp))

/-- What lies within a list of blocks lies within a longer one. -/
theorem State.graft_mono {bs bs' : List Block} {s t : State} (h : t = State.graft bs t s) (sub : bs ⊆ bs') :
    t = State.graft bs' t s := by
  cases t
  simp only [State.graft, State.mk.injEq] at h ⊢
  obtain ⟨link, sig, acq, time, weigh, cal, trk, acc, rep, mgt, handed, pending⟩ := h
  exact ⟨eq_ite_mono link (sub ·), eq_ite_mono sig (sub ·), eq_ite_mono acq (sub ·), eq_ite_mono time (sub ·),
    eq_ite_mono weigh (sub ·), eq_ite_mono cal (sub ·), eq_ite_mono trk (sub ·), eq_ite_mono acc (sub ·),
    eq_ite_mono rep (sub ·), eq_ite_mono mgt (sub ·), eq_ite_mono handed (sub ·), pending⟩

/-- The blocks that the body of a management command can change. -/
def bodyChanges : Instr → List Block
  | .readState _ | .arm _ | .disarm _ => [.acq]
  | .trigger _ => [.acq, .mgt, .handed]
  | .readTotals _ | .latchTotals _ | .readLoadLog _ => [.acc]
  | .targetOpen _ | .targetSelect _ | .deleteLastBucket _ => [.acc, .handed]
  | .targetClose _ => [.acc, .mgt, .handed]
  | .clearFaults _ => [.mgt]
  | .clearCounters _ => [.link, .sig, .weigh, .acc]
  | .enterConfig _ => [.acq, .time, .weigh, .cal, .trk, .mgt, .handed]
  | .writeEntry _ | .softReset _ => [.link, .sig, .acq, .time, .weigh, .cal, .trk, .acc, .rep, .mgt, .handed]
  | .commit _ => [.link, .sig, .acq, .time, .weigh, .acc, .rep, .mgt, .handed]
  | .setClock _ => [.time]
  | .calStart _ | .calAccept _ | .calDiscard _ => [.cal, .handed]
  | .bypass _ => [.link, .acq, .handed]
  | _ => []

/-- The blocks that a command can change, the list of handed requests among them: a management command leaves its
answer, or a busy drop, in the link besides what its body changes. -/
def changes : Instr → List Block
  | .powerReset _ => [.link, .sig, .acq, .time, .weigh, .cal, .trk, .acc, .rep, .mgt, .handed]
  | .characterReceived _ _ => [.link, .sig, .rep, .acc, .mgt, .handed]
  | .ingressDown _ => [.link, .rep, .acc, .mgt, .handed]
  | .arbiterStart _ => [.link, .handed]
  | .transmissionComplete _ | .releaseLimitExpiry => [.link, .rep, .acc, .handed]
  | .stalenessExpiry _ => [.sig, .weigh, .mgt, .handed]
  | .faultSet _ => [.mgt, .handed]
  | .weighSample _ _ | .speedSample _ _ | .weighStaleNotice _ => [.weigh, .handed]
  | .candidateEvaluation _ | .dwellEnd _ | .pendingLift _ | .reversalNotice | .trackerShiftClose _ _ => [.trk, .handed]
  | .calLift _ _ | .zero => [.cal, .handed]
  | .calDeadline _ => [.cal, .mgt, .handed]
  | .pendingLiftNotice | .nextTarget | .selectKey _ | .deleteLast | .accountShiftClose _ _ => [.acc, .handed]
  | .bucketCredit _ | .newTarget | .closeLoad | .dispatchArrival _ _ | .dispatchDeparture _ => [.acc, .mgt, .handed]
  | .conversionComplete _ => [.acq, .sig, .mgt, .handed]
  | .queueTrigger _ => [.acq, .mgt, .handed]
  | .tfExpiry | .tsExpiry | .trExpiry | .tdExpiry | .tcExpiry | .timerStart _ _ _ | .timerStop _ | .secondEvent =>
    [.time, .handed]
  | .shiftAssemblyArrival _ _ | .statusReport | .liftResultReport _ | .bucketReport _ | .targetReport _ | .calReport _
  | .faultReport _ => [.link, .rep, .mgt, .handed]
  | .loadDrain => [.link, .rep, .acc, .handed]
  | c => .link :: .handed :: bodyChanges c

/-! ### Operations that Laws/Frames.lean does not name -/

theorem State.nextTarget_frame (s : State) :
    s.nextTarget = { s with acc := s.nextTarget.acc, handed := s.nextTarget.handed } := by
  unfold State.nextTarget
  split
  · exact State.selectTarget_frame _ s
  · rfl

theorem State.selectKey_frame (i : Fin 4) (s : State) :
    s.selectKey i = { s with acc := (s.selectKey i).acc, handed := (s.selectKey i).handed } := by
  unfold State.selectKey
  split
  · exact State.selectTarget_frame _ s
  · rfl

theorem State.newTarget_frame (s : State) :
    s.newTarget = { s with acc := s.newTarget.acc, mgt := s.newTarget.mgt, handed := s.newTarget.handed } := by
  unfold State.newTarget
  split
  · rw [State.openTarget_frame]
  · exact State.refuseOpen_frame s

theorem State.arrive_frame (id c : Nat) (s : State) :
    s.arrive id c =
      { s with acc := (s.arrive id c).acc, mgt := (s.arrive id c).mgt, handed := (s.arrive id c).handed } := by
  unfold State.arrive
  split
  · rfl
  · split
    · rw [State.openTarget_frame]
    · exact State.refuseOpen_frame s

theorem State.credit_frame (c : Credit) (s : State) :
    s.credit c = { s with acc := (s.credit c).acc, mgt := (s.credit c).mgt, handed := (s.credit c).handed } := by
  unfold State.credit
  split
  · split
    · exact State.unallocated_frame c s
    · rw [State.creditSlot_frame]
  · split
    · rw [State.creditSlot_frame]
    · exact State.unallocated_frame c s

theorem State.deleteLast_frame (s : State) :
    s.deleteLast = { s with acc := s.deleteLast.acc, handed := s.deleteLast.handed } := by
  unfold State.deleteLast
  split <;> rfl

theorem State.closeLoad_frame (s : State) :
    s.closeLoad = { s with acc := s.closeLoad.acc, mgt := s.closeLoad.mgt, handed := s.closeLoad.handed } := by
  unfold State.closeLoad
  split
  · exact State.closeSlot_frame _ _ s
  · rfl

theorem State.depart_frame (id : Nat) (s : State) :
    s.depart id = { s with acc := (s.depart id).acc, mgt := (s.depart id).mgt, handed := (s.depart id).handed } := by
  unfold State.depart
  split
  · exact State.closeSlot_frame _ _ s
  · rfl

theorem State.takeEnterConfig_frame (s : State) :
    s.takeEnterConfig =
      { s with
        acq := s.takeEnterConfig.acq, time := s.takeEnterConfig.time, weigh := s.takeEnterConfig.weigh
        cal := s.takeEnterConfig.cal, trk := s.takeEnterConfig.trk, mgt := s.takeEnterConfig.mgt
        handed := s.takeEnterConfig.handed } := by
  unfold State.takeEnterConfig
  rw [State.endRunByConfig_frame]
  rfl

theorem State.takeCommit_frame (s : State) :
    s.takeCommit =
      { s with
        link := s.takeCommit.link, sig := s.takeCommit.sig, acq := s.takeCommit.acq, time := s.takeCommit.time
        weigh := s.takeCommit.weigh, acc := s.takeCommit.acc, rep := s.takeCommit.rep, mgt := s.takeCommit.mgt
        handed := s.takeCommit.handed } := by
  unfold State.takeCommit
  rw [State.commitAccounts_frame]

theorem State.writeTable_pending {s t : State} {table index : Nat} {d : List Byte}
    (h : s.writeTable table index d = some t) :
    t.pending = s.pending := by
  unfold State.writeTable at h
  split at h
  case h_7 => split at h <;> obtain ⟨v, -, rfl⟩ := Option.map_eq_some_iff.1 h <;> rfl
  case h_17 => cases h
  all_goals obtain ⟨v, -, rfl⟩ := Option.map_eq_some_iff.1 h; rfl

/-! ### The bodies of the management commands -/

theorem State.inRun_cases (s : State) (body : Answer) :
    (s.mgt.config = .run ∧ s.inRun body = body) ∨ (s.mgt.config ≠ .run ∧ s.inRun body = refuse s .wrongMode) := by
  unfold State.inRun
  split
  next h => exact .inl ⟨h, rfl⟩
  next h => exact .inr ⟨h, rfl⟩

theorem State.onQueue_cases (req : Request) (body : QueueId → State → Answer) (s : State) :
    (∃ q, s.mgt.config ≠ .unconfigured ∧ enumAt [QueueId.fast, .slow] req.data 0 = some q ∧
      s.onQueue req body = body q s) ∨
    ∃ status, s.onQueue req body = refuse s status := by
  unfold State.onQueue
  split
  next => exact .inr ⟨_, rfl⟩
  next hm =>
    split
    next q hq => exact .inl ⟨q, hm, hq, rfl⟩
    next => exact .inr ⟨_, rfl⟩

theorem State.doTargetOpen_frame (req : Request) (s : State) :
    (s.doTargetOpen req).state =
      { s with acc := (s.doTargetOpen req).state.acc, handed := (s.doTargetOpen req).state.handed } := by
  unfold State.doTargetOpen
  dsimp only
  obtain ⟨-, h⟩ | ⟨-, h⟩ := s.inRun_cases _ <;> rw [h]
  · split
    · rfl
    · split
      · rfl
      · split
        · rfl
        · split
          · rfl
          · exact State.openTarget_frame _ _ _ _ s
  · rfl

theorem State.doTargetSelect_frame (req : Request) (s : State) :
    (s.doTargetSelect req).state =
      { s with acc := (s.doTargetSelect req).state.acc, handed := (s.doTargetSelect req).state.handed } := by
  unfold State.doTargetSelect
  obtain ⟨-, h⟩ | ⟨-, h⟩ := s.inRun_cases _ <;> rw [h]
  · split
    · simp only [answerOk]
      rw [State.selectTarget_frame]
      rfl
    · rfl
  · rfl

theorem State.doTargetClose_frame (req : Request) (s : State) :
    (s.doTargetClose req).state =
      { s with
        acc := (s.doTargetClose req).state.acc, mgt := (s.doTargetClose req).state.mgt
        handed := (s.doTargetClose req).state.handed } := by
  unfold State.doTargetClose
  obtain ⟨-, h⟩ | ⟨-, h⟩ := s.inRun_cases _ <;> rw [h]
  · split
    · exact State.closeSlot_frame _ _ s
    · rfl
  · rfl

theorem State.doDeleteLastBucket_frame (s : State) :
    s.doDeleteLastBucket.state =
      { s with acc := s.doDeleteLastBucket.state.acc, handed := s.doDeleteLastBucket.state.handed } := by
  unfold State.doDeleteLastBucket
  obtain ⟨-, h⟩ | ⟨-, h⟩ := s.inRun_cases _ <;> rw [h]
  · split <;> rfl
  · rfl

theorem State.doCalStart_frame (req : Request) (s : State) :
    (s.doCalStart req).state =
      { s with cal := (s.doCalStart req).state.cal, handed := (s.doCalStart req).state.handed } := by
  unfold State.doCalStart
  dsimp only
  obtain ⟨-, h⟩ | ⟨-, h⟩ := s.inRun_cases _ <;> rw [h]
  · split
    · rfl
    · split
      · rfl
      · split
        · rfl
        · split <;> rfl
  · rfl

theorem State.doArm_frame (req : Request) (q : QueueId) (s : State) :
    (s.doArm req q).state = { s with acq := (s.doArm req q).state.acq } := by
  unfold State.doArm
  repeat' split
  all_goals rfl

theorem State.doTrigger_frame (q : QueueId) (s : State) :
    (s.doTrigger q).state =
      { s with
        acq := (s.doTrigger q).state.acq, mgt := (s.doTrigger q).state.mgt
        handed := (s.doTrigger q).state.handed } := by
  unfold State.doTrigger
  split
  · rfl
  · exact State.triggerQueue_frame q s

/-- A body changes blocks of its command's list alone. -/
theorem bodyOf_frame (c : Instr) (s : State) :
    (bodyOf c s).state = State.graft (bodyChanges c) (bodyOf c s).state s := by
  cases c
  case readEntry req => simp only [bodyOf, State.doReadEntry]; split <;> rfl
  case readState req =>
    simp only [bodyOf, State.doReadState]
    split
    · rfl
    · split <;> rfl
  case readTotals => simp only [bodyOf, State.doReadTotals]; split <;> rfl
  case calStatus =>
    simp only [bodyOf, State.doCalStatus]
    split
    · rfl
    · split <;> rfl
    · rfl
  case targetOpen req => exact s.doTargetOpen_frame req
  case targetSelect req => exact s.doTargetSelect_frame req
  case targetClose req => exact s.doTargetClose_frame req
  case deleteLastBucket => exact s.doDeleteLastBucket_frame
  case latchTotals => simp only [bodyOf, State.doLatchTotals]; split <;> rfl
  case readLoadLog =>
    simp only [bodyOf, State.doReadLoadLog]
    split
    · rfl
    · split
      · rfl
      · split <;> rfl
  case enterConfig =>
    simp only [bodyOf, State.doEnterConfig]
    split
    · rfl
    · exact s.takeEnterConfig_frame
  case writeEntry req =>
    simp only [bodyOf, State.doWriteEntry]
    split
    · rfl
    · split
      · rfl
      · split
        · rfl
        · split
          next t ht =>
            have kept := State.writeTable_pending ht
            change t = { t with pending := s.pending }
            rw [← kept]
          next => rfl
  case commit =>
    simp only [bodyOf, State.doCommit]
    split
    · rfl
    · split
      · rfl
      · exact s.takeCommit_frame
  case setClock req => simp only [bodyOf, State.doSetClock]; split <;> rfl
  case calStart req => exact s.doCalStart_frame req
  case calAccept =>
    simp only [bodyOf, State.doCalAccept]
    split
    · rfl
    · split <;> rfl
  case calDiscard =>
    simp only [bodyOf, State.doCalDiscard]
    split
    · rfl
    · exact s.discardRun_frame
  case arm req =>
    obtain ⟨q, -, -, h⟩ | ⟨status, h⟩ := s.onQueue_cases req (State.doArm req) <;> simp only [bodyOf, h]
    · exact s.doArm_frame req q
    · rfl
  case disarm req =>
    obtain ⟨q, -, -, h⟩ | ⟨status, h⟩ := s.onQueue_cases req State.doDisarm <;> simp only [bodyOf, h] <;> rfl
  case trigger req =>
    obtain ⟨q, -, -, h⟩ | ⟨status, h⟩ := s.onQueue_cases req State.doTrigger <;> simp only [bodyOf, h]
    · exact s.doTrigger_frame q
    · rfl
  case softReset =>
    simp only [bodyOf, answerOk, State.takeSoftReset]
    rw [State.endRunByConfig_frame]
    rfl
  case bypass => simp only [bodyOf, State.doBypass, answerOk]; split <;> rfl
  all_goals rfl

theorem bodyOf_link {c : Instr} (h : Block.link ∉ bodyChanges c) (s : State) : (bodyOf c s).state.link = s.link :=
  (congrArg State.link (bodyOf_frame c s)).trans (if_neg h)

theorem bodyOf_sig {c : Instr} (h : Block.sig ∉ bodyChanges c) (s : State) : (bodyOf c s).state.sig = s.sig :=
  (congrArg State.sig (bodyOf_frame c s)).trans (if_neg h)

theorem bodyOf_acq {c : Instr} (h : Block.acq ∉ bodyChanges c) (s : State) : (bodyOf c s).state.acq = s.acq :=
  (congrArg State.acq (bodyOf_frame c s)).trans (if_neg h)

theorem bodyOf_weigh {c : Instr} (h : Block.weigh ∉ bodyChanges c) (s : State) : (bodyOf c s).state.weigh = s.weigh :=
  (congrArg State.weigh (bodyOf_frame c s)).trans (if_neg h)

theorem bodyOf_cal {c : Instr} (h : Block.cal ∉ bodyChanges c) (s : State) : (bodyOf c s).state.cal = s.cal :=
  (congrArg State.cal (bodyOf_frame c s)).trans (if_neg h)

theorem bodyOf_trk {c : Instr} (h : Block.trk ∉ bodyChanges c) (s : State) : (bodyOf c s).state.trk = s.trk :=
  (congrArg State.trk (bodyOf_frame c s)).trans (if_neg h)

theorem bodyOf_acc {c : Instr} (h : Block.acc ∉ bodyChanges c) (s : State) : (bodyOf c s).state.acc = s.acc :=
  (congrArg State.acc (bodyOf_frame c s)).trans (if_neg h)

theorem bodyOf_rep {c : Instr} (h : Block.rep ∉ bodyChanges c) (s : State) : (bodyOf c s).state.rep = s.rep :=
  (congrArg State.rep (bodyOf_frame c s)).trans (if_neg h)

theorem bodyOf_mgt {c : Instr} (h : Block.mgt ∉ bodyChanges c) (s : State) : (bodyOf c s).state.mgt = s.mgt :=
  (congrArg State.mgt (bodyOf_frame c s)).trans (if_neg h)

theorem bodyOf_handed {c : Instr} (h : Block.handed ∉ bodyChanges c) (s : State) :
    (bodyOf c s).state.handed = s.handed :=
  (congrArg State.handed (bodyOf_frame c s)).trans (if_neg h)

/-! ### The frame of a command -/

theorem State.graft_respond {bs : List Block} {s t : State} (hl : Block.link ∈ bs) (h : t = State.graft bs t s)
    (req : Request) (status : Status) (data : List Byte) :
    t.respond req status data = State.graft bs (t.respond req status data) s := by
  have other : ∀ l, { State.graft bs t s with link := l } = State.graft bs { t with link := l } s := by
    intro l
    simp only [State.graft, if_pos hl]
  rw [State.respond, State.onLink, ← other, ← h]

/-- The taking of a command, and a busy drop, change the handed requests and the link. -/
theorem State.graft_take {bs : List Block} {s t : State} {c : Instr} (hh : Block.handed ∈ bs)
    (h : t = State.graft bs t (s.take c)) : t = State.graft bs t s := by
  refine h.trans ?_
  simp only [State.graft, if_pos hh]
  rfl

/-- A management command changes its answer's queue, the counters of a busy drop, and what its body changes. -/
theorem run_request_frame {c : Instr} {req : Request} {g : Group} (hr : requestOf c = some req)
    (hg : commandGroup c = some g) (hc : changes c = .link :: .handed :: bodyChanges c) (s : State) :
    s.run c = State.graft (changes c) (s.run c) s := by
  have hl : Block.link ∈ changes c := hc ▸ List.mem_cons_self
  have within : bodyChanges c ⊆ changes c := fun b hb => hc ▸ List.mem_cons_of_mem _ (List.mem_cons_of_mem _ hb)
  refine State.graft_take (c := c) (by simp [hc]) ?_
  rw [run_request hr hg]
  exact State.serve_keeps (P := fun t => t = State.graft (changes c) t (s.take c)) (State.graft_self _ _).symm
    (State.graft_mono (bs := [.link]) rfl (by simpa using hl))
    (fun _ status => State.graft_respond hl (State.graft_self _ _).symm req status [])
    fun _ _ => State.graft_respond hl (State.graft_mono (bodyOf_frame c _) within) req _ _

theorem State.graft_unknown (req : Request) (s : State) :
    s.run (.unknownCommand req) = State.graft [.link, .handed] (s.run (.unknownCommand req)) s :=
  State.whenTaken_keeps (P := fun t => t = State.graft [.link, .handed] t s) rfl rfl fun _ => rfl

/-- A command changes the blocks of its list alone, and never the commands that wait. -/
theorem run_frame (c : Instr) (s : State) : s.run c = State.graft (changes c) (s.run c) s := by
  cases c
  case powerReset straps => rfl
  case characterReceived p c => exact State.receive_frame p c (s.take _)
  case ingressDown p => exact State.goDown_frame p (s.take _)
  case transmissionComplete p => exact State.completeTransmission_frame p (s.take _)
  case releaseLimitExpiry => exact (s.take _).expireLimit_frame
  case stalenessExpiry i => exact State.expireSlot_frame i (s.take _)
  case faultSet x => exact State.setFault_frame x (s.take _)
  case weighSample theta tag => exact State.weighSample_frame theta tag (s.take _)
  case weighStaleNotice r => exact State.weighStale_frame r (s.take _)
  case candidateEvaluation n => exact State.trackNotice_frame n (s.take _)
  case dwellEnd n => exact State.takeDwellEnd_frame n (s.take _)
  case pendingLift r => exact State.takeLift_frame r (s.take _)
  case reversalNotice =>
    exact State.graft_take (c := .reversalNotice) (by decide)
      (State.graft_mono (bs := [.trk]) (s.take _).takeReversal_frame (by decide))
  case calLift r f => exact State.takeCalLift_frame r f (s.take _)
  case bucketCredit c => exact State.credit_frame c (s.take _)
  case nextTarget => exact (s.take _).nextTarget_frame
  case selectKey i => exact State.selectKey_frame i (s.take _)
  case newTarget => exact (s.take _).newTarget_frame
  case closeLoad => exact (s.take _).closeLoad_frame
  case deleteLast => exact (s.take _).deleteLast_frame
  case zero => exact (s.take _).zeroKey_frame
  case dispatchArrival id c => exact State.arrive_frame id c (s.take _)
  case dispatchDeparture id => exact State.depart_frame id (s.take _)
  case conversionComplete raw => exact State.completeConversion_frame raw (s.take _)
  case queueTrigger q => exact State.timerTrigger_frame q (s.take _)
  case tfExpiry => exact State.expirePeriodic_frame _ _ (s.take _)
  case tsExpiry => exact State.expirePeriodic_frame _ _ (s.take _)
  case trExpiry => exact State.expirePeriodic_frame _ _ (s.take _)
  case tdExpiry => exact State.expireOneShot_frame _ _ (s.take _)
  case tcExpiry => exact State.expireOneShot_frame _ _ (s.take _)
  case calDeadline n => exact State.takeDeadline_frame n (s.take _)
  case secondEvent => exact (s.take _).takeSecond_frame
  case trackerShiftClose n m => exact State.closeTrackerShift_frame n (s.take _)
  case shiftAssemblyArrival n part => exact State.arriveShift_frame n part (s.take _)
  case statusReport => exact (s.take _).sendStatus_frame
  case liftResultReport r => exact State.sendReport_frame _ _ (s.take _)
  case bucketReport b => exact State.sendReport_frame _ _ (s.take _)
  case targetReport t => exact State.sendReport_frame _ _ (s.take _)
  case calReport c => exact State.sendReport_frame _ _ (s.take _)
  case faultReport set => exact State.sendReport_frame _ _ (s.take _)
  case loadDrain =>
    exact State.graft_take (c := .loadDrain) (by decide)
      (State.graft_mono (bs := [.link, .rep, .acc]) (s.take _).drain_frame (by decide))
  case unknownCommand req => exact s.graft_unknown req
  case arbiterStart | speedSample | pendingLiftNotice | timerStart | timerStop | accountShiftClose => rfl
  all_goals exact run_request_frame rfl rfl rfl s

theorem run_link {c : Instr} (h : Block.link ∉ changes c) (s : State) : (s.run c).link = s.link :=
  (congrArg State.link (run_frame c s)).trans (if_neg h)

theorem run_sig {c : Instr} (h : Block.sig ∉ changes c) (s : State) : (s.run c).sig = s.sig :=
  (congrArg State.sig (run_frame c s)).trans (if_neg h)

theorem run_acq {c : Instr} (h : Block.acq ∉ changes c) (s : State) : (s.run c).acq = s.acq :=
  (congrArg State.acq (run_frame c s)).trans (if_neg h)

theorem run_weigh {c : Instr} (h : Block.weigh ∉ changes c) (s : State) : (s.run c).weigh = s.weigh :=
  (congrArg State.weigh (run_frame c s)).trans (if_neg h)

theorem run_cal {c : Instr} (h : Block.cal ∉ changes c) (s : State) : (s.run c).cal = s.cal :=
  (congrArg State.cal (run_frame c s)).trans (if_neg h)

theorem run_trk {c : Instr} (h : Block.trk ∉ changes c) (s : State) : (s.run c).trk = s.trk :=
  (congrArg State.trk (run_frame c s)).trans (if_neg h)

theorem run_acc {c : Instr} (h : Block.acc ∉ changes c) (s : State) : (s.run c).acc = s.acc :=
  (congrArg State.acc (run_frame c s)).trans (if_neg h)

theorem run_rep {c : Instr} (h : Block.rep ∉ changes c) (s : State) : (s.run c).rep = s.rep :=
  (congrArg State.rep (run_frame c s)).trans (if_neg h)

theorem run_mgt {c : Instr} (h : Block.mgt ∉ changes c) (s : State) : (s.run c).mgt = s.mgt :=
  (congrArg State.mgt (run_frame c s)).trans (if_neg h)

/-- Settles O3: the state after a command is `State.run`, whose frame holds the commands that wait. -/
theorem everyCommandCompletes : Obligations.EveryCommandCompletes :=
  fun c s => ⟨s.run c, exec_eq_run c s, (congrArg State.pending (run_frame c s)).trans rfl⟩

end Sys2Proof.Machine
end

section
/-!
The link unit's invariant (R8, R12 to R18) is kept by every step: the rules of one port, stated over what the port
holds, and then what each operation of the link does to them.
-/

namespace Sys2Proof.Machine

open Sys2Proof

/-! ### One port -/

/-- The frame and end marker at a place of the queues of one port. -/
def entryAt (rq : List RelayEntry) (oq : List OrigEntry) : TxSource → Option (List Byte × EndMark)
  | .relay => rq.head?.map fun e => (e.bytes, e.mark)
  | .originate i => oq[i]?.map fun e => (e.bytes, .endMark)

/-- `Link.PortInv`, over what the port holds. -/
structure PortOk (st : RelayState) (rq : List RelayEntry) (oq : List OrigEntry) (e : Egress) (m : IngressMode) :
    Prop where
  relayFrames : rq.length ≤ 8
  relayLimit : relayBytes rq ≤ 512
  reports : reportCount oq ≤ 11
  responses : responseCount oq ≤ 1
  passOver : e.passOver ≤ 4
  sending : ∀ t, e.tx = some t → entryAt rq oq t.source = some (t.bytes, t.mark)
  cutOff : carries st = false → e.tx = none ∧ rq = []
  bypassed : st = .bypass → oq = []
  stored : ∀ f, m = .aligned (some f) → f.stored.length = min 66 f.count

theorem Link.frameAt_eq (l : Link) (p : Port) (src : TxSource) :
    l.frameAt p src = entryAt (l.relayQ.get p) (l.origQ.get p) src := by
  cases src <;> rfl

theorem Link.portInv_iff (l : Link) (p : Port) :
    l.PortInv p ↔ PortOk l.relay (l.relayQ.get p) (l.origQ.get p) (l.egress.get p) (l.ingress.get p).mode := by
  constructor
  · intro h
    exact ⟨h.relayFrames, h.relayLimit, h.reports, h.responses, h.passOver,
      fun t ht => (l.frameAt_eq p t.source).symm.trans (h.sending t ht), h.cutOff, h.bypassed, h.stored⟩
  · intro h
    exact ⟨h.relayFrames, h.relayLimit, h.reports, h.responses, h.passOver,
      fun t ht => (l.frameAt_eq p t.source).trans (h.sending t ht), h.cutOff, h.bypassed, h.stored⟩

section
variable {st st' : RelayState} {rq : List RelayEntry} {oq : List OrigEntry} {e e' : Egress} {m m' : IngressMode}

/-- A place that holds a frame still holds it when entries join behind. -/
theorem entryAt_append {src : TxSource} {x : List Byte × EndMark} (h : entryAt rq oq src = some x)
    (rs : List RelayEntry) (os : List OrigEntry) : entryAt (rq ++ rs) (oq ++ os) src = some x := by
  cases src with
  | relay =>
    cases rq with
    | nil => cases h
    | cons r rest => exact h
  | originate i =>
    obtain ⟨e, he, hx⟩ := Option.map_eq_some_iff.1 h
    have stands : (oq ++ os)[i]? = some e := by
      rw [List.getElem?_append_left (List.getElem?_eq_some_iff.1 he).1]
      exact he
    exact Option.map_eq_some_iff.2 ⟨e, stands, hx⟩

theorem PortOk.joinRelay (h : PortOk st rq oq e m) {x : RelayEntry} (carried : carries st = true)
    (fits : relayFits rq x = true) : PortOk st (rq ++ [x]) oq e m := by
  obtain ⟨frames, bytes⟩ := of_decide_eq_true fits
  exact { h with
    relayFrames := by simpa using frames
    relayLimit := by simpa [relayBytes] using bytes
    sending := fun t ht => by simpa using entryAt_append (h.sending t ht) [x] []
    cutOff := fun cut => absurd carried (by simp [cut]) }

theorem PortOk.joinOriginate (h : PortOk st rq oq e m) {x : OrigEntry} (open' : st ≠ .bypass)
    (reports : reportCount (oq ++ [x]) ≤ 11) (responses : responseCount (oq ++ [x]) ≤ 1) :
    PortOk st rq (oq ++ [x]) e m :=
  { h with
    reports := reports
    responses := responses
    sending := fun t ht => by simpa using entryAt_append (h.sending t ht) [] [x]
    bypassed := fun b => absurd b open' }

/-- What the ingress side holds may change, with the bytes of a frame in progress stored. -/
theorem PortOk.ingress (h : PortOk st rq oq e m)
    (stored : ∀ f, m' = .aligned (some f) → f.stored.length = min 66 f.count) : PortOk st rq oq e m' :=
  { h with stored := stored }

/-- The transmitter's counts may change, and a frame that stands in its queue may begin to be sent on a carried line. -/
theorem PortOk.egress (h : PortOk st rq oq e m) (passOver : e'.passOver ≤ 4)
    (sending : ∀ t, e'.tx = some t → entryAt rq oq t.source = some (t.bytes, t.mark))
    (cutOff : carries st = false → e'.tx = none) : PortOk st rq oq e' m :=
  { h with
    passOver := passOver
    sending := sending
    cutOff := fun cut => ⟨cutOff cut, (h.cutOff cut).2⟩ }

theorem PortOk.sameTx (h : PortOk st rq oq e m) (tx : e'.tx = e.tx) (passOver : e'.passOver = e.passOver) :
    PortOk st rq oq e' m :=
  h.egress (passOver ▸ h.passOver) (fun t ht => h.sending t (tx ▸ ht)) fun cut => tx.trans (h.cutOff cut).1

/-- A line that is carried may go to another relay state, as long as no bypass begins with it. -/
theorem PortOk.carried (h : PortOk st rq oq e m) (carried : carries st' = true) : PortOk st' rq oq e m :=
  { h with
    cutOff := fun cut => absurd carried (by simp [cut])
    bypassed := fun b => absurd carried (by simp [b, carries]) }

theorem relayBytes_le_of_sublist {rs qs : List RelayEntry} (h : rs.Sublist qs) : relayBytes rs ≤ relayBytes qs := by
  induction h with
  | slnil => exact Nat.le_refl _
  | cons x _ ih => exact Nat.le_trans ih (Nat.le_add_left _ _)
  | cons_cons x _ ih => exact Nat.add_le_add_left ih _

/-- Entries leave the queues while nothing is sent. -/
theorem PortOk.shrink (h : PortOk st rq oq e m) {rq' : List RelayEntry} {oq' : List OrigEntry}
    (rs : rq'.Sublist rq) (os : oq'.Sublist oq) (free : e'.tx = none) (passOver : e'.passOver ≤ 4) :
    PortOk st rq' oq' e' m where
  relayFrames := Nat.le_trans rs.length_le h.relayFrames
  relayLimit := Nat.le_trans (relayBytes_le_of_sublist rs) h.relayLimit
  reports := Nat.le_trans os.countP_le h.reports
  responses := Nat.le_trans os.countP_le h.responses
  passOver := passOver
  sending := fun t ht => by simp [free] at ht
  cutOff := fun cut => ⟨free, List.sublist_nil.1 ((h.cutOff cut).2 ▸ rs)⟩
  bypassed := fun b => List.sublist_nil.1 (h.bypassed b ▸ os)
  stored := h.stored

end

/-! ### The counts of an originate queue -/

theorem reportCount_append (q : List OrigEntry) (e : OrigEntry) :
    reportCount (q ++ [e]) = reportCount q + if isResponse e = true then 0 else 1 := by
  cases h : isResponse e <;> simp [reportCount, h]

theorem responseCount_append (q : List OrigEntry) (e : OrigEntry) :
    responseCount (q ++ [e]) = responseCount q + if isResponse e = true then 1 else 0 := by
  simp [responseCount, List.countP_cons]

theorem responseCount_of_none {q : List OrigEntry} (h : holdsResponse q = false) : responseCount q = 0 := by
  simpa [holdsResponse, responseCount, List.countP_eq_zero] using h

/-! ### The whole link -/

theorem Link.Inv.at {l : Link} (h : l.Inv) (p : Port) :
    PortOk l.relay (l.relayQ.get p) (l.origQ.get p) (l.egress.get p) (l.ingress.get p).mode :=
  (l.portInv_iff p).1 (h.ports p)

theorem Link.Inv.of_ports {l : Link}
    (ports : ∀ p, PortOk l.relay (l.relayQ.get p) (l.origQ.get p) (l.egress.get p) (l.ingress.get p).mode)
    (gapInUse : 2 ≤ l.gapInUse ∧ l.gapInUse ≤ 15) (gapEntry : 2 ≤ l.gapEntry ∧ l.gapEntry ≤ 15) : l.Inv :=
  ⟨fun p => (l.portInv_iff p).2 (ports p), gapInUse, gapEntry⟩

/-- A change of one port: the other port's part is as it was. -/
theorem Link.Inv.onPort {l : Link} (h : l.Inv) (p : Port) (rq : List RelayEntry) (oq : List OrigEntry) (e : Egress)
    (i : Ingress) (c : PerPort LinkCounters) (ok : PortOk l.relay rq oq e i.mode) :
    Link.Inv { l with
      relayQ := l.relayQ.set p rq, origQ := l.origQ.set p oq, egress := l.egress.set p e
      ingress := l.ingress.set p i, counters := c } := by
  refine Link.Inv.of_ports (fun q => ?_) h.gapInUse h.gapEntry
  by_cases hq : q = p
  case pos =>
    subst hq
    simpa only [PerPort.get_set_same] using ok
  case neg =>
    simpa only [PerPort.get_set, if_neg hq] using h.at q

theorem Link.Inv.joinRelay {l : Link} (h : l.Inv) {p : Port} {x : RelayEntry} (carried : carries l.relay = true)
    (fits : relayFits (l.relayQ.get p) x = true) :
    Link.Inv { l with relayQ := l.relayQ.set p (l.relayQ.get p ++ [x]) } := by
  have changed :=
    h.onPort p (l.relayQ.get p ++ [x]) (l.origQ.get p) (l.egress.get p) (l.ingress.get p) l.counters
      ((h.at p).joinRelay carried fits)
  simp only [PerPort.set_get] at changed
  exact changed

theorem Link.Inv.joinOriginate {l : Link} (h : l.Inv) {p : Port} {x : OrigEntry} (opened : l.relay ≠ .bypass)
    (reports : reportCount (l.origQ.get p ++ [x]) ≤ 11) (responses : responseCount (l.origQ.get p ++ [x]) ≤ 1) :
    (l.joinOriginate p x).Inv := by
  have changed :=
    h.onPort p (l.relayQ.get p) (l.origQ.get p ++ [x]) (l.egress.get p) (l.ingress.get p) l.counters
      ((h.at p).joinOriginate opened reports responses)
  simp only [PerPort.set_get] at changed
  exact changed

theorem Link.Inv.setIngress {l : Link} (h : l.Inv) {p : Port} {i : Ingress}
    (stored : ∀ f, i.mode = .aligned (some f) → f.stored.length = min 66 f.count) : (l.setIngress p i).Inv := by
  have changed :=
    h.onPort p (l.relayQ.get p) (l.origQ.get p) (l.egress.get p) i l.counters ((h.at p).ingress stored)
  simp only [PerPort.set_get] at changed
  exact changed

theorem Link.Inv.count {l : Link} (h : l.Inv) (p : Port) (f : LinkCounters → LinkCounters) : (l.count p f).Inv :=
  Link.Inv.of_ports h.at h.gapInUse h.gapEntry

/-- A response joins where none waits on a carried line. -/
theorem Link.Inv.respond {l : Link} (h : l.Inv) {p : Port} {x : OrigEntry} (carried : carries l.relay = true)
    (none : holdsResponse (l.origQ.get p) = false) (kind : x.kind = .response) : (l.joinOriginate p x).Inv := by
  have response : isResponse x = true := by simp [isResponse, kind]
  refine h.joinOriginate (fun b => by simp [b, carries] at carried) ?_ ?_
  · rw [reportCount_append, if_pos response]
    exact (h.at p).reports
  · refine Nat.le_of_eq ?_
    rw [responseCount_append, if_pos response, responseCount_of_none none]

/-- A report joins where there is room. -/
theorem Link.Inv.report {l : Link} (h : l.Inv) {p : Port} {x : OrigEntry} (room : l.hasRoom p = true)
    (kind : x.kind ≠ .response) : (l.joinOriginate p x).Inv := by
  have report : ¬ isResponse x = true := by simpa [isResponse] using kind
  obtain ⟨opened, reports, -⟩ : l.relay ≠ .bypass ∧ reportCount (l.origQ.get p) < 11 ∧ (l.origQ.get p).length < 12 := by
    simpa [Link.hasRoom] using room
  refine h.joinOriginate opened ?_ ?_
  · rw [reportCount_append, if_neg report]
    exact reports
  · rw [responseCount_append, if_neg report]
    exact (h.at p).responses

/-! ### Relay states -/

theorem Link.Inv.openContacts {l : Link} (h : l.Inv) : l.openContacts.Inv := by
  refine Link.Inv.of_ports (fun p => ?_) h.gapInUse h.gapEntry
  cases p
  · exact ((h.at .mp).carried rfl).sameTx rfl rfl
  · exact ((h.at .dp).carried rfl).sameTx rfl rfl

theorem Link.Inv.takeoverTest {l : Link} (h : l.Inv) : l.takeoverTest.Inv := by
  unfold Link.takeoverTest
  split
  · exact h.openContacts
  · exact h

theorem Ingress.dropFrame_mode (i : Ingress) (f : FrameIn) : i.dropFrame.mode ≠ .aligned (some f) := by
  unfold Ingress.dropFrame
  split
  · simp
  next h => simp [h]
  next h => simp [h]

/-- The contacts close only while both transmitters are free. -/
theorem Link.Inv.close {l : Link} (h : l.Inv) (free : l.bothFree = true) : l.close.Inv := by
  obtain ⟨mp, dp⟩ : l.egress.mp.tx = none ∧ l.egress.dp.tx = none := by simpa [Link.bothFree] using free
  have closed : ∀ e i, Egress.tx e = none → e.passOver = 0 → (∀ f, i ≠ .aligned (some f)) →
    PortOk .bypass [] [] e i := by
    intro e i tx zero noFrame
    constructor <;> simp_all [relayBytes, reportCount, responseCount]
  refine Link.Inv.of_ports (fun p => ?_) h.gapInUse h.gapEntry
  cases p
  · exact closed _ _ mp rfl (Ingress.dropFrame_mode _)
  · exact closed _ _ dp rfl (Ingress.dropFrame_mode _)

theorem State.closeContacts_link (s : State) : s.closeContacts.link = s.link.close :=
  congrArg State.link s.closeContacts_frame

theorem State.bothFree_of_drained {s : State} (h : s.drained = true) : s.link.bothFree = true := by
  simp only [State.drained, Bool.and_eq_true] at h
  obtain ⟨⟨⟨⟨-, free⟩, -⟩, -⟩, -⟩ := h
  exact free

theorem State.releaseTest_linkInv {s : State} (h : s.link.Inv) : s.releaseTest.link.Inv := by
  unfold State.releaseTest
  split
  next c =>
    rw [State.closeContacts_link]
    obtain ⟨-, drained | ⟨-, free⟩⟩ := c
    · exact h.close (State.bothFree_of_drained drained)
    · exact h.close free
  next => exact h

/-! ### Reception -/

/-- The bytes of a frame in progress stay stored (R8). -/
theorem Ingress.Takes.stored {i : Ingress} {c : Character} {mode : IngressMode} {run : Nat} (h : i.Takes c mode run)
    (stored : ∀ f, i.mode = .aligned (some f) → f.stored.length = min 66 f.count) :
    ∀ f, mode = .aligned (some f) → f.stored.length = min 66 f.count := by
  cases h with
  | byte f b hf =>
    rintro _ ⟨⟩
    have before := stored f hf
    split <;> simp <;> omega
  | opens => rintro _ ⟨⟩; rfl
  | closes f c hf hc => cases c <;> rintro _ ⟨⟩; rfl
  | _ => nofun

theorem State.offerRelay_linkInv {s : State} (h : s.link.Inv) (carried : carries s.link.relay = true) (p : Port)
    (x : RelayEntry) : (s.offerRelay p x).link.Inv := by
  unfold State.offerRelay
  dsimp only
  split
  next fits => exact h.joinRelay carried fits
  next =>
    rw [State.setFault_link, State.onLink_link]
    exact h.count p _

theorem State.divert_linkInv {s : State} (h : s.link.Inv) (p : Port) (frame : List Byte) :
    (s.divert p frame).link.Inv := by
  unfold State.divert
  split
  · rw [State.busyDrop, State.onLink_link]
    exact h.count p _
  · exact h

theorem State.matchFrame_link (p : Port) (frame : List Byte) (s : State) : (s.matchFrame p frame).1.link = s.link :=
  (congrArg State.link (s.matchFrame_frame p frame)).trans rfl

theorem State.dispose_linkInv {s : State} (h : s.link.Inv) (carried : carries s.link.relay = true) (p : Port)
    (frame : List Byte) : (s.dispose p frame).link.Inv := by
  have matched : (s.matchFrame p frame).1.link = s.link := s.matchFrame_link p frame
  unfold State.dispose
  split
  · exact State.divert_linkInv h p frame
  · split
    · exact State.offerRelay_linkInv h carried p _
    · split
      · dsimp only
        split
        · exact matched ▸ h
        · exact State.offerRelay_linkInv (matched ▸ h) (matched ▸ carried) p _
      · exact State.offerRelay_linkInv h carried p _

theorem State.accept_linkInv {s : State} (h : s.link.Inv) (p : Port) (c : ClosedFrame) : (s.accept p c).link.Inv := by
  unfold State.accept
  split
  next carried =>
    have counted : (s.onLink fun l => l.count p (countClass c.classify)).link.Inv := h.count p _
    dsimp only
    split
    · exact State.dispose_linkInv counted carried p _
    · exact State.offerRelay_linkInv counted carried p _
  next => exact h

theorem State.acceptClosed_linkInv {s : State} (h : s.link.Inv) (p : Port) (c : Option ClosedFrame) :
    (s.acceptClosed p c).link.Inv := by
  cases c with
  | none => exact h
  | some c => exact State.accept_linkInv h p c

theorem State.countHunt_linkInv {s : State} (h : s.link.Inv) (p : Port) (d : Bool) : (s.countHunt p d).link.Inv := by
  unfold State.countHunt
  split
  · rw [State.onLink_link]
    exact h.count p _
  · exact h

theorem State.spaceTest_linkInv {s : State} (h : s.link.Inv) (c : Character) : (s.spaceTest c).link.Inv := by
  unfold State.spaceTest
  split
  · exact h.takeoverTest
  · exact h

theorem State.receive_linkInv {s : State} (h : s.link.Inv) (p : Port) (c : Character) : (s.receive p c).link.Inv := by
  have taken : ((s.link.setIngress p ⟨(ingressStep (s.link.ingress.get p).mode
    (nextRun (s.link.ingress.get p).spaces c) c).mode,
      nextRun (s.link.ingress.get p).spaces c, 0⟩)).Inv :=
    h.setIngress ((ingressStep_takes (s.link.ingress.get p) c).stored (h.at p).stored)
  exact State.releaseTest_linkInv (State.spaceTest_linkInv (State.acceptClosed_linkInv
    (State.countHunt_linkInv (s := s.onLink fun l => l.setIngress p _) taken p _) p _) c)

theorem State.goDown_linkInv {s : State} (h : s.link.Inv) (p : Port) : (s.goDown p).link.Inv := by
  unfold State.goDown
  dsimp only
  split
  · refine State.releaseTest_linkInv (Link.Inv.takeoverTest ?_)
    rw [State.setFault_link]
    exact h.setIngress (by nofun)
  · exact h

/-! ### Transmission -/

theorem Link.choice_passOver {l : Link} {p : Port} {src : TxSource} {n : Nat} (h : l.choice p = some (src, n))
    (passOver : (l.egress.get p).passOver ≤ 4) : n ≤ 4 := by
  unfold Link.choice arbiterChoice at h
  split at h
  · cases h
  · cases h; exact passOver
  · split at h <;> cases h <;> omega
  · cases h; exact Nat.zero_le 4

theorem Link.Inv.arbiterStart {l : Link} (h : l.Inv) (p : Port) : (l.arbiterStart p).Inv := by
  unfold Link.arbiterStart
  split
  next ready =>
    split
    next => exact h
    next src n hc =>
      split
      next => exact h
      next bytes mark hf =>
        have carried : carries l.relay = true := by
          simp only [Link.arbiterReady, Bool.and_eq_true] at ready
          exact ready.1.1.1
        have stands : entryAt (l.relayQ.get p) (l.origQ.get p) src = some (bytes, mark) :=
          (l.frameAt_eq p src).symm.trans hf
        have changed :=
          h.onPort p (l.relayQ.get p) (l.origQ.get p)
            { l.egress.get p with tx := some ⟨src, bytes, mark, lineTime bytes.length⟩, passOver := n }
              (l.ingress.get p)
            l.counters
            ((h.at p).egress (Link.choice_passOver hc (h.at p).passOver) (by rintro _ ⟨⟩; exact stands)
              fun cut => absurd carried (by simp [cut]))
        simp only [PerPort.set_get] at changed
        exact changed
  next => exact h

theorem Link.Inv.removeSent {l : Link} (h : l.Inv) (p : Port) (src : TxSource) :
    ((l.removeSent p src).freeTransmitter p).Inv := by
  have freed : ∀ rq oq, rq.Sublist (l.relayQ.get p) → oq.Sublist (l.origQ.get p) →
      PortOk l.relay rq oq { l.egress.get p with tx := none, gap := 0, spaceUs := 0 } (l.ingress.get p).mode :=
    fun rq oq rs os => (h.at p).shrink rs os rfl (h.at p).passOver
  cases src with
  | relay =>
    have changed :=
      h.onPort p ((l.relayQ.get p).drop 1) (l.origQ.get p) _ (l.ingress.get p) l.counters
        (freed _ _ (List.drop_sublist 1 _) (List.Sublist.refl _))
    simp only [PerPort.set_get] at changed
    exact changed
  | originate i =>
    have changed :=
      h.onPort p (l.relayQ.get p) ((l.origQ.get p).eraseIdx i) _ (l.ingress.get p) l.counters
        (freed _ _ (List.Sublist.refl _) (List.eraseIdx_sublist _ i))
    simp only [PerPort.set_get] at changed
    exact changed

theorem State.signalSent_link (p : Port) (k : Option OrigKind) (s : State) : (s.signalSent p k).link = s.link :=
  (congrArg State.link (s.signalSent_frame p k)).trans rfl

theorem State.completeTransmission_linkInv {s : State} (h : s.link.Inv) (p : Port) :
    (s.completeTransmission p).link.Inv := by
  unfold State.completeTransmission
  split
  next => exact h
  next t _ =>
    split
    · refine State.releaseTest_linkInv ?_
      rw [State.signalSent_link]
      exact h.removeSent p t.source
    · exact h

theorem State.expireLimit_linkInv {s : State} (h : s.link.Inv) : s.expireLimit.link.Inv := by
  unfold State.expireLimit
  split
  · exact State.releaseTest_linkInv (Link.Inv.of_ports h.at h.gapInUse h.gapEntry)
  · exact h

/-! ### Reports -/

theorem State.joinReport_linkInv {s : State} (h : s.link.Inv) {p : Port} (room : s.link.hasRoom p = true)
    {kind : OrigKind} (report : kind ≠ .response) (k : ReportKind) (contents : List Byte) :
    (s.joinReport p kind k contents).link.Inv :=
  h.report room report

theorem State.offerReport_linkInv {s : State} (h : s.link.Inv) (k : ReportKind) (contents : List Byte) (p : Port) :
    (s.offerReport k contents p).link.Inv := by
  unfold State.offerReport
  split
  next room => exact State.joinReport_linkInv h room (by decide) k contents
  next =>
    rw [State.setFault_link]
    exact h

theorem State.offerStatus_linkInv {s : State} (h : s.link.Inv) (fields : Vector (Option Int) 8) (p : Port) :
    (s.offerStatus fields p).link.Inv := by
  unfold State.offerStatus
  dsimp only
  split
  next room => exact State.joinReport_linkInv h room (by decide) _ _
  next =>
    rw [State.setFault_link]
    exact h

/-- An invariant of each offer to a port is one of the offers to all the ports of a route. -/
theorem foldl_keeps {α β : Type} {P : β → Prop} {f : β → α → β} (keeps : ∀ x a, P x → P (f x a)) (as : List α) {x : β}
    (h : P x) : P (as.foldl f x) := by
  induction as generalizing x with
  | nil => exact h
  | cons a as ih => exact ih (keeps x a h)

theorem State.sendReport_linkInv {s : State} (h : s.link.Inv) (k : ReportKind) (contents : List Byte) :
    (s.sendReport k contents).link.Inv :=
  foldl_keeps (P := fun s : State => s.link.Inv) (fun _ p hs => State.offerReport_linkInv hs k contents p) _ h

theorem State.sendStatus_linkInv {s : State} (h : s.link.Inv) : s.sendStatus.link.Inv :=
  foldl_keeps (P := fun s : State => s.link.Inv) (fun _ p hs => State.offerStatus_linkInv hs _ p) _ h

theorem State.raiseShift_linkInv {s : State} (h : s.link.Inv) (a : Assembly) : (s.raiseShift a).link.Inv :=
  State.sendReport_linkInv h _ _

theorem State.arriveShift_linkInv {s : State} (h : s.link.Inv) (n : Word16) (part : ShiftPart) :
    (s.arriveShift n part).link.Inv := by
  have flushed : (s.flushAssembly n).link.Inv := by
    unfold State.flushAssembly
    split
    · split
      · exact h
      · exact State.raiseShift_linkInv h _
    · exact h
  unfold State.arriveShift
  split
  · exact h
  · dsimp only
    split
    · exact State.raiseShift_linkInv flushed _
    · exact flushed

theorem State.queueCopy_hasRoom {s : State} {p q : Port} (h : q ≠ p) (r : LoadRecord) :
    (s.queueCopy r p).link.hasRoom q = s.link.hasRoom q := by
  change (s.link.joinOriginate p _).hasRoom q = s.link.hasRoom q
  simp only [Link.hasRoom, Link.joinOriginate, PerPort.get_set, if_neg h]

theorem foldl_queueCopy_linkInv (r : LoadRecord) (ps : List Port) (distinct : ps.Nodup) {s : State} (h : s.link.Inv)
    (room : ∀ p ∈ ps, s.link.hasRoom p = true) : (ps.foldl (State.queueCopy r) s).link.Inv := by
  induction ps generalizing s with
  | nil => exact h
  | cons p ps ih =>
    obtain ⟨fresh, distinct⟩ := List.nodup_cons.1 distinct
    refine ih distinct (State.joinReport_linkInv h (room p (List.mem_cons_self ..)) (by decide) _ _) fun q hq => ?_
    rw [State.queueCopy_hasRoom (by rintro rfl; exact fresh hq)]
    exact room q (List.mem_cons_of_mem _ hq)

theorem routePorts_nodup (r : Route) : (routePorts r).Nodup := by
  cases r <;> decide

theorem State.drain_linkInv {s : State} (h : s.link.Inv) : s.drain.link.Inv := by
  unfold State.drain
  split
  next can =>
    split
    next => exact h
    next r _ _ =>
      refine foldl_queueCopy_linkInv r _ (routePorts_nodup _) h ?_
      simp only [State.canDrain, Bool.and_eq_true] at can
      exact List.all_eq_true.1 can.2
  next => exact h

end Sys2Proof.Machine
end

section
/-!
What the bodies of the management commands do to the link, and the link unit's invariant over a step.
-/

namespace Sys2Proof.Machine

open Sys2Proof

/-! ### The bodies and the link -/

/-- What the body of a management command can make of the link: queues and sides as they were, the relay state too but
for a release that begins, and the minimum gaps in their range. -/
structure Link.Retuned (l l' : Link) : Prop where
  node : l'.node = l.node
  relay : l'.relay = l.relay ∨ (l.relay = .relay ∧ l'.relay = .release)
  ingress : l'.ingress = l.ingress
  relayQ : l'.relayQ = l.relayQ
  origQ : l'.origQ = l.origQ
  egress : l'.egress = l.egress
  gapInUse : l'.gapInUse = l.gapInUse ∨ l'.gapInUse = l.gapEntry
  gapEntry : l'.gapEntry = l.gapEntry ∨ (2 ≤ l'.gapEntry ∧ l'.gapEntry ≤ 15)

theorem Link.Retuned.refl (l : Link) : l.Retuned l :=
  ⟨rfl, .inl rfl, rfl, rfl, rfl, rfl, .inl rfl, .inl rfl⟩

theorem Link.Retuned.carries {l l' : Link} (h : l.Retuned l') : Machine.carries l'.relay = Machine.carries l.relay := by
  obtain same | ⟨before, after⟩ := h.relay
  · rw [same]
  · rw [before, after]; rfl

theorem Link.Inv.retuned {l l' : Link} (h : l.Inv) (r : l.Retuned l') : l'.Inv := by
  refine Link.Inv.of_ports (fun p => ?_) ?_ ?_
  · rw [r.relayQ, r.origQ, r.egress, r.ingress]
    obtain same | ⟨before, after⟩ := r.relay
    · rw [same]
      exact h.at p
    · rw [after]
      exact (h.at p).carried rfl
  · obtain same | entry := r.gapInUse
    · exact same ▸ h.gapInUse
    · exact entry ▸ h.gapEntry
  · obtain same | range := r.gapEntry
    · exact same ▸ h.gapEntry
    · exact range

/-- A LINK entry that is taken lies in its range (R15). -/
theorem readGap_range {d : List Byte} {v : Nat} (h : readGap d = some v) : 2 ≤ v ∧ v ≤ 15 := by
  obtain ⟨-, -, h⟩ := Option.bind_eq_some_iff.1 h
  unfold natIn at h
  split at h
  next range => cases h; exact range
  next => cases h

theorem State.writeTable_retunes {s t : State} {table index : Nat} {d : List Byte}
    (h : s.writeTable table index d = some t) : s.link.Retuned t.link := by
  unfold State.writeTable at h
  split at h
  case h_1 =>
    obtain ⟨v, hv, rfl⟩ := Option.map_eq_some_iff.1 h
    exact ⟨rfl, .inl rfl, rfl, rfl, rfl, rfl, .inl rfl, .inr (readGap_range hv)⟩
  case h_7 => split at h <;> obtain ⟨v, -, rfl⟩ := Option.map_eq_some_iff.1 h <;> exact Link.Retuned.refl _
  case h_17 => cases h
  all_goals obtain ⟨v, -, rfl⟩ := Option.map_eq_some_iff.1 h; exact Link.Retuned.refl _

/-- A WRITE_ENTRY leaves the state, or writes a table that no check refused. -/
theorem State.doWriteEntry_cases (req : Request) (s : State) :
    (∃ status, s.doWriteEntry req = refuse s status) ∨
    (∃ t, s.mgt.config = .config ∧
      ((byteAt req.data 0 = 6 ∨ byteAt req.data 0 = 7) → s.acq.bothOff = true) ∧
      tableCheck (byteAt req.data 0) (byteAt req.data 1) = none ∧
      s.writeTable (byteAt req.data 0) (byteAt req.data 1) (req.data.drop 2) = some t ∧
      s.doWriteEntry req = answerOk t []) := by
  unfold State.doWriteEntry
  dsimp only
  split
  next => exact .inl ⟨_, rfl⟩
  next mode =>
    split
    next => exact .inl ⟨_, rfl⟩
    next named =>
      split
      next => exact .inl ⟨_, rfl⟩
      next off =>
        split
        next t ht => exact .inr ⟨t, Decidable.not_not.1 mode, by simpa using off, named, ht, rfl⟩
        next => exact .inl ⟨_, rfl⟩

/-- A COMMIT leaves the state, or is taken by every block when no check fails. -/
theorem State.doCommit_cases (s : State) :
    s.doCommit.state = s ∨
      (s.mgt.config = .config ∧ s.commitFailure = none ∧ s.doCommit = answerOk s.takeCommit []) := by
  unfold State.doCommit
  split
  next => exact .inl rfl
  next mode =>
    split
    next => exact .inl rfl
    next passes => exact .inr ⟨Decidable.not_not.1 mode, passes, rfl⟩

theorem State.takeCommit_link (s : State) : s.takeCommit.link = s.link.commit := by
  unfold State.takeCommit
  rw [State.commitAccounts_frame]

theorem State.takeSoftReset_link (s : State) : s.takeSoftReset.link = s.link.softReset := by
  unfold State.takeSoftReset
  rw [State.endRunByConfig_frame]
  rfl

theorem bodyOf_retunes (c : Instr) (s : State) : s.link.Retuned (bodyOf c s).state.link := by
  cases c
  case clearCounters => exact ⟨rfl, .inl rfl, rfl, rfl, rfl, rfl, .inl rfl, .inl rfl⟩
  case writeEntry req =>
    obtain ⟨status, h⟩ | ⟨t, -, -, -, written, h⟩ := s.doWriteEntry_cases req <;> simp only [bodyOf, h]
    · exact Link.Retuned.refl _
    · exact State.writeTable_retunes written
  case commit =>
    obtain h | ⟨-, -, h⟩ := s.doCommit_cases <;> simp only [bodyOf, h]
    · exact Link.Retuned.refl _
    · simp only [answerOk, State.takeCommit_link]
      exact ⟨rfl, .inl rfl, rfl, rfl, rfl, rfl, .inr rfl, .inl rfl⟩
  case softReset =>
    have four : s.link.softReset.gapEntry = s.link.gapEntry ∨ 2 ≤ 4 ∧ 4 ≤ 15 := .inr (by decide)
    simp only [bodyOf, answerOk, State.takeSoftReset_link]
    exact ⟨rfl, .inl rfl, rfl, rfl, rfl, rfl, .inl rfl, four⟩
  case bypass =>
    simp only [bodyOf, State.doBypass, answerOk]
    split
    next running => exact ⟨rfl, .inr ⟨running, rfl⟩, rfl, rfl, rfl, rfl, .inl rfl, .inl rfl⟩
    next => exact Link.Retuned.refl _
  all_goals
    rw [bodyOf_link (of_decide_eq_false rfl)]
    exact Link.Retuned.refl _

/-! ### Commands and steps -/

theorem State.respond_linkInv {s : State} {req : Request} (h : s.link.Inv) (taken : s.canTake req) (status : Status)
    (data : List Byte) : (s.respond req status data).link.Inv :=
  h.respond taken.1 taken.2 rfl

theorem State.busyDrop_linkInv {s : State} (h : s.link.Inv) (p : Port) : (s.busyDrop p).link.Inv := by
  rw [State.busyDrop, State.onLink_link]
  exact h.count p _

theorem run_request_linkInv {c : Instr} {req : Request} {g : Group} (hr : requestOf c = some req)
    (hg : commandGroup c = some g) {s : State} (h : s.link.Inv) : (s.run c).link.Inv := by
  rw [run_request hr hg]
  refine State.serve_keeps (P := fun t => t.link.Inv) h (State.busyDrop_linkInv (s := s.take c) h _)
    (fun taken status => State.respond_linkInv (s := s.take c) h taken status []) fun admitted _ => ?_
  have body : (s.take c).link.Retuned (bodyOf c (s.take c)).state.link := bodyOf_retunes c (s.take c)
  refine State.respond_linkInv (h.retuned body) ⟨?_, ?_⟩ _ _
  · exact body.carries.trans admitted.1.1
  · rw [body.origQ]
    exact admitted.1.2

theorem Link.inv_initial (straps : BitVec 4) : (Link.initial straps).Inv := by
  have empty : PortOk .takeover [] [] ⟨none, 0, 0, 0⟩ (.hunt false) := by
    constructor <;> simp [relayBytes, reportCount, responseCount]
  have four : 2 ≤ 4 ∧ 4 ≤ 15 := by decide
  refine Link.Inv.of_ports (fun p => ?_) four four
  cases p <;> exact empty

theorem run_linkInv (c : Instr) {s : State} (h : s.link.Inv) : (s.run c).link.Inv := by
  by_cases changed : Block.link ∈ changes c
  case neg => exact (run_link changed s).symm ▸ h
  cases c
  case powerReset straps => exact Link.inv_initial straps
  case characterReceived p c => exact State.receive_linkInv (s := s.take _) h p c
  case ingressDown p => exact State.goDown_linkInv (s := s.take _) h p
  case arbiterStart p => exact h.arbiterStart p
  case transmissionComplete p => exact State.completeTransmission_linkInv (s := s.take _) h p
  case releaseLimitExpiry => exact State.expireLimit_linkInv (s := s.take _) h
  case shiftAssemblyArrival n part => exact State.arriveShift_linkInv (s := s.take _) h n part
  case statusReport => exact State.sendStatus_linkInv (s := s.take _) h
  case liftResultReport r => rw [run_liftResultReport]; exact State.sendReport_linkInv (s := s.take _) h _ _
  case bucketReport b => rw [run_bucketReport]; exact State.sendReport_linkInv (s := s.take _) h _ _
  case targetReport t => rw [run_targetReport]; exact State.sendReport_linkInv (s := s.take _) h _ _
  case calReport c => rw [run_calReport]; exact State.sendReport_linkInv (s := s.take _) h _ _
  case faultReport set => rw [run_faultReport]; exact State.sendReport_linkInv (s := s.take _) h _ _
  case loadDrain => rw [run_loadDrain]; exact State.drain_linkInv (s := s.take _) h
  case unknownCommand req =>
    exact State.whenTaken_keeps (P := fun t => t.link.Inv) (s := s.take _) h
      (State.busyDrop_linkInv (s := s.take _) h _)
      fun taken => State.respond_linkInv (s := s.take _) h taken _ _
  case identify | readEntry | readState | readClock | readCounters | readFaults | readTotals | calStatus | targetOpen
      | targetSelect | targetClose | deleteLastBucket | latchTotals | readLoadLog | clearFaults | clearCounters
      | enterConfig | writeEntry | commit | setClock | calStart | calAccept | calDiscard | arm | disarm | trigger
      | softReset | bypass =>
    exact run_request_linkInv rfl rfl h
  all_goals exact absurd changed (of_decide_eq_false rfl)

theorem Egress.tick_passOver (e : Egress) : e.tick.passOver = e.passOver := by
  unfold Egress.tick
  split
  · rfl
  · split <;> rfl

/-- A microsecond takes from a transmission's time, and changes neither its frame nor its place. -/
theorem Egress.tick_tx (e : Egress) : e.tick.tx = e.tx.map fun t => { t with left := t.left - 1 } := by
  unfold Egress.tick
  split
  next t h => rw [h]; rfl
  next h => rw [h]; split <;> simp

theorem Link.Inv.tick {l : Link} (h : l.Inv) : l.tick.Inv := by
  have sends : ∀ p e', e' = l.egress.get p ∨ e' = (l.egress.get p).tick →
      PortOk l.relay (l.relayQ.get p) (l.origQ.get p) e' (l.ingress.get p).mode := by
    rintro p e' (rfl | rfl)
    · exact h.at p
    · refine (h.at p).egress ((l.egress.get p).tick_passOver ▸ (h.at p).passOver) (fun t ht => ?_) fun cut => ?_
      · rw [Egress.tick_tx] at ht
        obtain ⟨u, hu, rfl⟩ := Option.map_eq_some_iff.1 ht
        exact (h.at p).sending u hu
      · rw [Egress.tick_tx, ((h.at p).cutOff cut).1]
        rfl
  have egress : ∀ p, l.tick.egress.get p = l.egress.get p ∨ l.tick.egress.get p = (l.egress.get p).tick := by
    intro p
    cases p <;> cases hc : carries l.relay <;> simp [Link.tick, hc, PerPort.get]
  refine Link.Inv.of_ports (fun p => ?_) h.gapInUse h.gapEntry
  cases p
  · exact sends .mp _ (egress .mp)
  · exact sends .dp _ (egress .dp)

/-- Settles O17: an invariant of every command and of the passing of time is one of every step. -/
theorem stepKeepsLinkInv : Obligations.StepKeepsLinkInv :=
  fun _ _ h hstep =>
    step_keeps (P := fun s => s.link.Inv) (fun _ _ h => h) (fun _ _ h => h) (fun c _ h => run_linkInv c h)
      (fun _ h => Link.Inv.tick h) h hstep

end Sys2Proof.Machine
end

section
/-!
The invariant of the signal slots (R39 to R41, R45) over a step.
-/

namespace Sys2Proof.Machine

open Sys2Proof

/-! ### One slot -/

theorem signed32_clampS32 (x : Int) : signed32 (clampS32 x) = true := by
  rw [clampS32_eq_max_min, signed32, decide_eq_true_eq]
  omega

theorem SlotLive.write_inv (v : SlotLive) (c : SlotConfig) (raw : Int) (tag : TimeTag) (source : WriteSource) :
    (v.write c raw tag source).Inv where
  value := signed32_clampS32 _
  running := fun _ => rfl
  timeout := by
    intro t ht
    simp only [SlotLive.write] at ht
    split at ht
    · cases ht
    next hc => cases ht; exact hc

/-- Without a timer a slot may take any freshness. -/
theorem SlotLive.Inv.stopped {v : SlotLive} (h : v.Inv) (x : Freshness) :
    SlotLive.Inv { v with fresh := x, timer := none } :=
  ⟨h.value, nofun, nofun⟩

theorem SlotLive.inv_initial : SlotLive.initial.Inv := ⟨rfl, nofun, nofun⟩

theorem SlotLive.Inv.tick {v : SlotLive} (h : v.Inv) : v.tick.Inv where
  value := h.value
  running := fun run => h.running (by simpa [SlotLive.tick] using run)
  timeout := by
    intro t ht
    obtain ⟨u, hu, rfl⟩ := Option.map_eq_some_iff.1 ht
    exact h.timeout u hu

/-! ### The table -/

theorem Signals.Inv.of_slots {g g' : Signals} (h : g.Inv) (same : g'.slots = g.slots) : g'.Inv := by
  unfold Signals.Inv
  rw [same]
  exact h

theorem Signals.Inv.set {g : Signals} (h : g.Inv) (i : Fin 32) {v : SlotLive} (hv : v.Inv) :
    Signals.Inv { g with slots := g.slots.set i v } := by
  intro j
  by_cases same : i.val = j.val
  case pos => simpa [Vector.getElem_set, same] using hv
  case neg => simpa [Vector.getElem_set, same] using h j

theorem Signals.Inv.map {g : Signals} (h : g.Inv) {f : SlotLive → SlotLive} (hf : ∀ v : SlotLive, v.Inv → (f v).Inv) :
    Signals.Inv { g with slots := g.slots.map f } := by
  intro j
  simpa using hf _ (h j)

theorem Signals.Inv.writeSlot {g : Signals} (h : g.Inv) (tag : TimeTag) (w : SlotWrite) : (g.writeSlot tag w).Inv :=
  h.set w.slot (SlotLive.write_inv _ _ _ _ _)

theorem State.writeSlots_sig (ws : List SlotWrite) (s : State) :
    (s.writeSlots ws).sig = ws.foldl (Signals.writeSlot s.time.tag) s.sig := by
  unfold State.writeSlots
  dsimp only
  split <;> rfl

theorem State.writeSlots_sigInv {s : State} (h : s.sig.Inv) (ws : List SlotWrite) : (s.writeSlots ws).sig.Inv := by
  rw [State.writeSlots_sig]
  exact foldl_keeps (P := Signals.Inv) (fun _ w hg => hg.writeSlot _ w) ws h

theorem Signals.inv_initial : Signals.initial.Inv := by
  intro i
  simpa [Signals.initial] using SlotLive.inv_initial

theorem Signals.Inv.commit {g : Signals} (h : g.Inv) : g.commit.Inv :=
  h.map fun _ hv => hv.stopped .never

/-! ### Operations -/

theorem State.matchFrame_sigInv {s : State} (h : s.sig.Inv) (p : Port) (frame : List Byte) :
    (s.matchFrame p frame).1.sig.Inv := by
  have written : ∀ (c : Signals → MatcherCounters) ws,
      ((s.onSig fun g => { g with counters := c g }).writeSlots ws).sig.Inv :=
    fun c ws => State.writeSlots_sigInv (s := s.onSig _) (h.of_slots rfl) ws
  unfold State.matchFrame
  dsimp only
  split
  · split
    · exact written _ _
    · rw [State.hand_sig, overlayPage_frame]
      exact written _ _
  · exact written _ _

theorem State.offerRelay_sig (p : Port) (e : RelayEntry) (s : State) : (s.offerRelay p e).sig = s.sig :=
  (congrArg State.sig (s.offerRelay_frame p e)).trans rfl

theorem State.dispose_sigInv {s : State} (h : s.sig.Inv) (p : Port) (frame : List Byte) :
    (s.dispose p frame).sig.Inv := by
  have offered : ∀ (u : State) e, u.sig.Inv → (u.offerRelay p e).sig.Inv :=
    fun u e hu => (u.offerRelay_sig p e).symm ▸ hu
  have matched : (s.matchFrame p frame).1.sig.Inv := State.matchFrame_sigInv h p frame
  unfold State.dispose
  split
  · unfold State.divert
    split <;> exact h
  · split
    · exact offered s _ h
    · split
      · dsimp only
        split
        · exact matched
        · exact offered _ _ matched
      · exact offered s _ h

theorem State.acceptClosed_sigInv {s : State} (h : s.sig.Inv) (p : Port) (c : Option ClosedFrame) :
    (s.acceptClosed p c).sig.Inv := by
  cases c with
  | none => exact h
  | some c =>
    simp only [State.acceptClosed, State.accept]
    split
    · split
      · exact State.dispose_sigInv (s := s.onLink _) h p _
      · rw [State.offerRelay_sig]
        exact h
    · exact h

theorem State.receive_sigInv {s : State} (h : s.sig.Inv) (p : Port) (c : Character) : (s.receive p c).sig.Inv := by
  unfold State.receive
  dsimp only
  rw [State.releaseTest_frame, State.spaceTest_frame]
  refine State.acceptClosed_sigInv ?_ p _
  rw [State.advance_frame]
  exact h

theorem State.expireSlot_sigInv {s : State} (h : s.sig.Inv) (i : Fin 32) : (s.expireSlot i).sig.Inv := by
  have expired := h.set i ((h i).stopped .stale)
  unfold State.expireSlot
  split
  · dsimp only
    split
    · rw [State.foldl_raiseStale_frame]
      exact expired
    · exact expired
  · exact h

theorem State.completeConversion_sigInv {s : State} (h : s.sig.Inv) (raw : BitVec 12) :
    (s.completeConversion raw).sig.Inv := by
  have checked : ∀ ch f, ((s.onAcq f).referenceCheck ch raw.toNat).sig.Inv := by
    intro ch f
    rw [State.referenceCheck_frame]
    exact h
  unfold State.completeConversion
  split
  · exact h
  · split
    · rw [State.onAcq_sig]
      unfold State.writeDest
      split
      · exact State.writeSlots_sigInv (checked _ _) _
      · exact checked _ _
    · exact h

theorem State.writeTable_slots {s t : State} {table index : Nat} {d : List Byte}
    (h : s.writeTable table index d = some t) : t.sig.slots = s.sig.slots := by
  unfold State.writeTable at h
  split at h
  case h_7 => split at h <;> obtain ⟨v, -, rfl⟩ := Option.map_eq_some_iff.1 h <;> rfl
  case h_17 => cases h
  all_goals obtain ⟨v, -, rfl⟩ := Option.map_eq_some_iff.1 h; rfl

theorem State.takeCommit_sig (s : State) : s.takeCommit.sig = s.sig.commit := by
  unfold State.takeCommit
  rw [State.commitAccounts_frame]

theorem State.takeSoftReset_sig (s : State) : s.takeSoftReset.sig = s.sig.softReset := by
  unfold State.takeSoftReset
  rw [State.endRunByConfig_frame]
  rfl

/-! ### Commands and steps -/

theorem bodyOf_sigInv (c : Instr) {s : State} (h : s.sig.Inv) : (bodyOf c s).state.sig.Inv := by
  by_cases changed : Block.sig ∈ bodyChanges c
  case neg => exact (bodyOf_sig changed s).symm ▸ h
  cases c
  case clearCounters => exact h.of_slots rfl
  case writeEntry req =>
    obtain ⟨status, hb⟩ | ⟨t, -, -, -, written, hb⟩ := s.doWriteEntry_cases req <;> simp only [bodyOf, hb]
    · exact h
    · exact h.of_slots (State.writeTable_slots written)
  case commit =>
    obtain hb | ⟨-, -, hb⟩ := s.doCommit_cases <;> simp only [bodyOf, hb]
    · exact h
    · exact s.takeCommit_sig ▸ h.commit
  case softReset => exact s.takeSoftReset_sig ▸ Signals.inv_initial.of_slots rfl
  all_goals exact absurd changed (of_decide_eq_false rfl)

/-- What the bodies keep of a part of the state that answers and busy drops leave alone, the management commands keep.
-/
theorem run_request_keeps {P : State → Prop} (link : ∀ s l, P s → P { s with link := l })
    (handed : ∀ s cs, P s → P { s with handed := cs }) {c : Instr} {req : Request} {g : Group}
    (hr : requestOf c = some req) (hg : commandGroup c = some g)
    (body : ∀ s, P s → s.admits g req → commandNeed c ≤ req.data.length → P (bodyOf c s).state)
    {s : State} (h : P s) : P (s.run c) := by
  rw [run_request hr hg]
  have taken : P (s.take c) := handed s _ h
  exact State.serve_keeps taken (link _ _ taken) (fun _ _ => link _ _ taken)
    fun admitted long => link _ _ (body _ taken admitted long)

theorem run_sigInv (c : Instr) {s : State} (h : s.sig.Inv) : (s.run c).sig.Inv := by
  by_cases changed : Block.sig ∈ changes c
  case neg => exact (run_sig changed s).symm ▸ h
  cases c
  case powerReset straps => exact Signals.inv_initial
  case characterReceived p c => exact State.receive_sigInv (s := s.take _) h p c
  case stalenessExpiry i => exact State.expireSlot_sigInv (s := s.take _) h i
  case conversionComplete raw => exact State.completeConversion_sigInv (s := s.take _) h raw
  case clearCounters | writeEntry | commit | softReset =>
    exact run_request_keeps (P := fun s => s.sig.Inv) (fun _ _ h => h) (fun _ _ h => h) rfl rfl
      (fun _ h _ _ => bodyOf_sigInv _ h) h
  all_goals exact absurd changed (of_decide_eq_false rfl)

theorem step_sigInv {s t : State} (h : s.sig.Inv) (hstep : step s = .next t) : t.sig.Inv :=
  step_keeps (P := fun s => s.sig.Inv) (fun _ _ h => h) (fun _ _ h => h) (fun c _ h => run_sigInv c h)
    (fun _ h => h.map fun _ hv => hv.tick) h hstep

end Sys2Proof.Machine
end

section
/-!
The invariant of the acquisition unit (R49 to R68) over a step: the arbiter's rule over the two queue states and the
conversion in flight, the rule of one queue, and what each operation does to them.
-/

namespace Sys2Proof.Machine

open Sys2Proof

/-! ### The invariant in two parts -/

/-- The converter's arbiter (R53, R58, R60): the queue that converts is ACTIVE and no other is, and only the slow queue
waits, for the fast one. -/
structure Arbitrated (fast slow : QueueState) (converts : Option QueueId) : Prop where
  fastConverts : fast = .active ↔ converts = some .fast
  slowConverts : slow = .active ↔ converts = some .slow
  fastNeverWaits : fast ≠ .pending ∧ fast ≠ .suspended
  slowWaits : slow = .pending ∨ slow = .suspended → fast = .active

/-- A queue's mode and first word let it run (R64, R69). -/
def Acquisition.mayRun (a : Acquisition) (q : QueueId) : Prop :=
  (a.setup.get q).mode ≠ .off ∧ (a.word (a.firstWord q)).channel.isSome

/-- A word number lies in a queue's range (R50). -/
def Acquisition.holds (a : Acquisition) (q : QueueId) (w : Nat) : Prop := a.firstWord q ≤ w ∧ w ≤ a.highWord q

/-- What holds of one queue on its own. -/
structure Acquisition.QueueOk (a : Acquisition) (q : QueueId) (x : SampleQueue) : Prop where
  position : a.holds q x.position
  subStart : a.holds q x.subStart
  armed : x.state ≠ .off → a.mayRun q

theorem Acquisition.Inv.arbitrated {a : Acquisition} (h : a.Inv) :
    Arbitrated a.queues.fast.state a.queues.slow.state (a.conversion.map Conversion.queue) where
  fastConverts := (h.converts .fast).trans (by simp)
  slowConverts := (h.converts .slow).trans (by simp)
  fastNeverWaits := h.fastNeverWaits
  slowWaits := h.slowWaits

theorem Acquisition.Inv.queueOk {a : Acquisition} (h : a.Inv) (q : QueueId) : a.QueueOk q (a.queues.get q) where
  position := ⟨(h.inRange q).1, (h.inRange q).2.1⟩
  subStart := (h.inRange q).2.2
  armed := h.armed q

theorem Acquisition.inv_of {a : Acquisition} (boundary : 1 ≤ a.boundary ∧ a.boundary ≤ 47)
    (arb : Arbitrated a.queues.fast.state a.queues.slow.state (a.conversion.map Conversion.queue))
    (word : ∀ c, a.conversion = some c → c.word = (a.queues.get c.queue).position)
    (released : a.released = true → ∀ q, (a.queues.get q).state = .off) (ok : ∀ q, a.QueueOk q (a.queues.get q)) :
    a.Inv where
  boundary := boundary
  converts := by
    intro q
    cases q
    · exact arb.fastConverts.trans (by simp)
    · exact arb.slowConverts.trans (by simp)
  word := word
  oneActive := fun ⟨fast, slow⟩ => by
    have both := (arb.fastConverts.1 fast).symm.trans (arb.slowConverts.1 slow)
    cases both
  fastNeverWaits := arb.fastNeverWaits
  slowWaits := arb.slowWaits
  released := released
  inRange := fun q => ⟨(ok q).position.1, (ok q).position.2, (ok q).subStart⟩
  armed := fun q => (ok q).armed

theorem Acquisition.Inv.first {a : Acquisition} (h : a.Inv) (q : QueueId) : a.holds q (a.firstWord q) := by
  have boundary := h.boundary
  cases q <;> simp only [holds, firstWord, highWord] <;> omega

/-- A queue that runs shows that the line is not released (R68). -/
theorem Acquisition.Inv.notReleased {a : Acquisition} (h : a.Inv) {q : QueueId} (runs : (a.queue q).state ≠ .off) :
    a.released = false := by
  cases hr : a.released
  · rfl
  · exact absurd (h.released hr q) runs

/-- The queues and the conversion change, and no table does. -/
theorem Acquisition.Inv.change {a : Acquisition} (h : a.Inv) {fast slow : SampleQueue} {conv : Option Conversion}
    (hf : a.QueueOk .fast fast) (hs : a.QueueOk .slow slow)
    (arb : Arbitrated fast.state slow.state (conv.map Conversion.queue))
    (word : ∀ c, conv = some c → c.word = ((⟨fast, slow⟩ : PerQueue SampleQueue).get c.queue).position)
    (released : a.released = true → fast.state = .off ∧ slow.state = .off) :
    Acquisition.Inv { a with queues := ⟨fast, slow⟩, conversion := conv } := by
  refine Acquisition.inv_of h.boundary arb word (fun r q => ?_) fun q => ?_
  · cases q
    · exact (released r).1
    · exact (released r).2
  · cases q
    · exact ⟨hf.position, hf.subStart, hf.armed⟩
    · exact ⟨hs.position, hs.subStart, hs.armed⟩

/-! ### The states of the two queues -/

section
variable {f s : QueueState} {c : Option QueueId}

/-- The fast queue takes the converter; a slow conversion is suspended (R58). -/
theorem Arbitrated.startFast (h : Arbitrated f s c) (waits : f ≠ .active) :
    Arbitrated .active (if s = .active then .suspended else s) (some .fast) := by
  obtain ⟨hf, hs, hn, hw⟩ := h
  split <;> constructor <;> simp_all

/-- The slow queue waits for the fast one (R59). -/
theorem Arbitrated.pendSlow (h : Arbitrated f s c) (fast : f = .active) : Arbitrated f .pending c := by
  obtain ⟨hf, hs, hn, hw⟩ := h
  constructor <;> simp_all

/-- The slow queue takes the converter that the fast one does not hold. -/
theorem Arbitrated.startSlow (h : Arbitrated f s c) (fast : f ≠ .active) : Arbitrated f .active (some .slow) := by
  obtain ⟨hf, hs, hn, hw⟩ := h
  constructor <;> simp_all

/-- A queue that goes on converts its next word. -/
theorem Arbitrated.stays (h : Arbitrated f s c) {q : QueueId} (converts : c = some q) : Arbitrated f s (some q) :=
  converts ▸ h

/-- The fast queue leaves the converter, for which no slow queue waits. -/
theorem Arbitrated.leaveFast {f' : QueueState} (h : Arbitrated f s c) (rests : f' = .off ∨ f' = .idle ∨ f' = .paused)
    (fast : f = .active) (free : ¬ (s = .pending ∨ s = .suspended)) : Arbitrated f' s none := by
  obtain ⟨hf, hs, hn, hw⟩ := h
  constructor <;> obtain rfl | rfl | rfl := rests <;> simp_all

/-- The fast queue leaves the converter to a waiting slow queue (R60). -/
theorem Arbitrated.resumeSlow {f' : QueueState} (rests : f' = .off ∨ f' = .idle ∨ f' = .paused) :
    Arbitrated f' .active (some .slow) := by
  constructor <;> obtain rfl | rfl | rfl := rests <;> simp

/-- The slow queue leaves the converter. -/
theorem Arbitrated.leaveSlow {s' : QueueState} (h : Arbitrated f s c) (rests : s' = .off ∨ s' = .idle ∨ s' = .paused)
    (slow : s = .active) : Arbitrated f s' none := by
  obtain ⟨hf, hs, hn, hw⟩ := h
  constructor <;> obtain rfl | rfl | rfl := rests <;> simp_all

/-- A fast queue that does not convert goes to another state at rest. -/
theorem Arbitrated.restFast {f' : QueueState} (h : Arbitrated f s c) (rests : f' = .off ∨ f' = .idle)
    (fast : f ≠ .active) : Arbitrated f' s c := by
  obtain ⟨hf, hs, hn, hw⟩ := h
  constructor <;> obtain rfl | rfl := rests <;> simp_all

theorem Arbitrated.restSlow {s' : QueueState} (h : Arbitrated f s c) (rests : s' = .off ∨ s' = .idle)
    (slow : s ≠ .active) : Arbitrated f s' c := by
  obtain ⟨hf, hs, hn, hw⟩ := h
  constructor <;> obtain rfl | rfl := rests <;> simp_all

theorem Arbitrated.stopped : Arbitrated .off .off none := by
  constructor <;> simp

end

/-! ### Triggers (R56 to R59) -/

theorem Acquisition.QueueOk.moved {a : Acquisition} {q : QueueId} {x : SampleQueue} (h : a.QueueOk q x)
    {st : QueueState} {w : Nat} (hw : a.holds q w) (hr : st = .off ∨ x.state ≠ .off) :
    a.QueueOk q { x with state := st, position := w } :=
  ⟨hw, h.subStart, fun runs => hr.elim (fun off => absurd off runs) h.armed⟩

theorem Acquisition.QueueOk.flagged {a : Acquisition} {q : QueueId} {x : SampleQueue} (h : a.QueueOk q x)
    (c p o : Bool) : a.QueueOk q { x with complete := c, pause := p, overrun := o } :=
  ⟨h.position, h.subStart, h.armed⟩

theorem Acquisition.Inv.startWord {a : Acquisition} (h : a.Inv) (q : QueueId) : a.holds q (a.startWord q) := by
  unfold Acquisition.startWord
  split
  · exact (h.queueOk q).position
  all_goals exact h.first q

/-- The fast queue as a trigger leaves it, at a word. -/
def SampleQueue.startedAt (x : SampleQueue) (st : QueueState) (w : Nat) : SampleQueue :=
  { x with state := st, position := w, subStart := w }

theorem Acquisition.start_fast (a : Acquisition) :
    a.start .fast =
      { a with
        queues :=
          ⟨a.queues.fast.startedAt .active (a.startWord .fast),
            if a.queues.slow.state = .active then { a.queues.slow with state := .suspended } else a.queues.slow⟩
        conversion := some ⟨.fast, a.startWord .fast, conversionTime (a.word (a.startWord .fast)).settle⟩ } := by
  have slow : ∀ f, ((a.setQueue .fast f).queue .slow).state = a.queues.slow.state := fun _ => rfl
  simp only [Acquisition.start, slow]
  split <;> rfl

theorem Acquisition.start_slow (a : Acquisition) :
    a.start .slow =
      if a.queues.fast.state = .active then
        { a with queues := ⟨a.queues.fast, a.queues.slow.startedAt .pending (a.startWord .slow)⟩ }
      else
        { a with
          queues := ⟨a.queues.fast, a.queues.slow.startedAt .active (a.startWord .slow)⟩
          conversion := some ⟨.slow, a.startWord .slow, conversionTime (a.word (a.startWord .slow)).settle⟩ } := by
  have fast : ∀ f, ((a.setQueue .slow f).queue .fast).state = a.queues.fast.state := fun _ => rfl
  simp only [Acquisition.start, fast]
  split <;> rfl

theorem Acquisition.QueueOk.started {a : Acquisition} {q : QueueId} {x : SampleQueue} (h : a.QueueOk q x)
    (st : QueueState) {w : Nat} (hw : a.holds q w) (runs : x.state ≠ .off) : a.QueueOk q (x.startedAt st w) :=
  ⟨hw, hw, fun _ => h.armed runs⟩

theorem Acquisition.Inv.start {a : Acquisition} (h : a.Inv) {q : QueueId} (runs : (a.queue q).state ≠ .off)
    (waits : (a.queue q).state ≠ .active) : (a.start q).Inv := by
  have fast := h.queueOk .fast
  have slow := h.queueOk .slow
  have word := h.startWord q
  have live : a.released = true → False := fun r => by simp [h.notReleased runs] at r
  cases q with
  | fast =>
    have slow' : a.QueueOk .slow
        (if a.queues.slow.state = .active then { a.queues.slow with state := .suspended } else a.queues.slow) := by
      split
      next active => exact ⟨slow.position, slow.subStart, fun _ => slow.armed (by simp [PerQueue.get, active])⟩
      next => exact slow
    have arb := h.arbitrated.startFast waits
    rw [Acquisition.start_fast]
    refine h.change (fast.started _ word runs) slow' ?_ (by rintro _ ⟨⟩; rfl) fun r => (live r).elim
    rw [apply_ite SampleQueue.state]
    exact arb
  | slow =>
    rw [Acquisition.start_slow]
    split
    next active =>
      refine h.change fast (slow.started _ word runs) (h.arbitrated.pendSlow active) (fun c hc => ?_)
        fun r => (live r).elim
      have onFast : c.queue = .fast := by simpa [hc] using h.arbitrated.fastConverts.1 active
      rw [h.word c hc, onFast]
      rfl
    next active =>
      exact h.change fast (slow.started _ word runs) (h.arbitrated.startSlow active) (by rintro _ ⟨⟩; rfl)
        fun r => (live r).elim

theorem Acquisition.Inv.setFlags {a : Acquisition} (h : a.Inv) (q : QueueId) (c p o : Bool) :
    (a.setQueue q fun x => { x with complete := c, pause := p, overrun := o }).Inv := by
  have word := h.word
  cases q
  · refine h.change ((h.queueOk .fast).flagged c p o) (h.queueOk .slow) h.arbitrated (fun x hx => ?_)
      fun r => ⟨h.released r .fast, h.released r .slow⟩
    rw [word x hx]
    cases x.queue <;> rfl
  · refine h.change (h.queueOk .fast) ((h.queueOk .slow).flagged c p o) h.arbitrated (fun x hx => ?_)
      fun r => ⟨h.released r .fast, h.released r .slow⟩
    rw [word x hx]
    cases x.queue <;> rfl

theorem State.triggerQueue_acqInv {s : State} (h : s.acq.Inv) (q : QueueId) : (s.triggerQueue q).acq.Inv := by
  have overrun : ((s.onAcq fun a => a.setQueue q fun x => { x with overrun := true }).setFault
    .acqOverrun).acq.Inv := by
    rw [State.setFault_acq]
    exact h.setFlags q (s.acq.queue q).complete (s.acq.queue q).pause true
  unfold State.triggerQueue
  split
  next => exact h
  next hst => exact h.start (by simp [hst]) (by simp [hst])
  next hst => exact h.start (by simp [hst]) (by simp [hst])
  all_goals exact overrun

/-! ### Completion and the waiting slow queue (R60 to R62) -/

theorem Acquisition.Inv.resumeWord {a : Acquisition} (ok : a.QueueOk .slow a.queues.slow) :
    a.holds .slow a.resumeWord := by
  unfold Acquisition.resumeWord
  dsimp only
  split
  · exact ok.subStart
  · exact ok.position

/-- The slow queue that takes the converter at a word, or stays as it is with no conversion on. -/
theorem Acquisition.slowResume_eq (a : Acquisition) :
    Acquisition.slowResume { a with conversion := none } =
      if a.queues.slow.state = .pending ∨ a.queues.slow.state = .suspended then
        { a with
          queues := ⟨a.queues.fast, { a.queues.slow with state := .active, position := a.resumeWord }⟩
          conversion := some ⟨.slow, a.resumeWord, conversionTime (a.word a.resumeWord).settle⟩ }
      else { a with conversion := none } := by
  unfold Acquisition.slowResume
  split
  next h => rw [if_pos (.inr h)]; rfl
  next h => rw [if_pos (.inl h)]; rfl
  all_goals
    next h =>
      have rests : a.queues.slow.state = _ := h
      rw [if_neg (by simp [rests])]

/-- The fast queue has converted, and goes to a state at rest with the converter left to the slow one. -/
theorem Acquisition.Inv.leaveFast {a : Acquisition} (h : a.Inv) {x : SampleQueue} (ok : a.QueueOk .fast x)
    (active : a.queues.fast.state = .active) (rests : x.state = .off ∨ x.state = .idle ∨ x.state = .paused) :
    (Acquisition.leave { a with queues := ⟨x, a.queues.slow⟩ } .fast).Inv := by
  have slow := h.queueOk .slow
  have live : a.released = true → False := fun r => by
    simp [h.notReleased (q := .fast) (by simp [queue, PerQueue.get, active])] at r
  have left : Acquisition.leave { a with queues := ⟨x, a.queues.slow⟩ } .fast = _ :=
    Acquisition.slowResume_eq { a with queues := ⟨x, a.queues.slow⟩ }
  rw [left]
  split
  next waits =>
    have runs : a.queues.slow.state ≠ .off := fun off => by simp [off] at waits
    exact h.change ok (slow.moved (Acquisition.Inv.resumeWord (a := { a with queues := ⟨x, a.queues.slow⟩ })
      ⟨slow.position, slow.subStart, slow.armed⟩) (.inr runs))
      (Arbitrated.resumeSlow rests) (by rintro _ ⟨⟩; rfl) fun r => (live r).elim
  next free =>
    exact h.change ok slow (h.arbitrated.leaveFast rests active free) nofun fun r => (live r).elim

theorem Acquisition.Inv.leaveSlow {a : Acquisition} (h : a.Inv) {x : SampleQueue} (ok : a.QueueOk .slow x)
    (active : a.queues.slow.state = .active) (rests : x.state = .off ∨ x.state = .idle ∨ x.state = .paused) :
    (Acquisition.leave { a with queues := ⟨a.queues.fast, x⟩ } .slow).Inv :=
  h.change (h.queueOk .fast) ok (h.arbitrated.leaveSlow rests active) nofun fun r => by
    simp [h.notReleased (q := .slow) (by simp [queue, PerQueue.get, active])] at r

/-- A queue that has converted goes to a state at rest and leaves the converter. -/
theorem Acquisition.Inv.leave {a : Acquisition} (h : a.Inv) {q : QueueId} {f : SampleQueue → SampleQueue}
    (ok : a.QueueOk q (f (a.queues.get q))) (active : (a.queues.get q).state = .active)
    (rests : (f (a.queues.get q)).state = .off ∨ (f (a.queues.get q)).state = .idle ∨
      (f (a.queues.get q)).state = .paused) :
    ((a.setQueue q f).leave q).Inv := by
  cases q
  · exact h.leaveFast ok active rests
  · exact h.leaveSlow ok active rests

theorem endState_rests (m : QueueMode) : endState m = .off ∨ endState m = .idle := by
  cases m <;> simp [endState]

theorem Acquisition.Inv.continueQueue {a : Acquisition} (h : a.Inv) {c : Conversion} (hc : a.conversion = some c) :
    (a.continueQueue c.queue c.word).Inv := by
  have active : (a.queues.get c.queue).state = .active := (h.converts c.queue).2 ⟨c, hc, rfl⟩
  have runs : (a.queues.get c.queue).state ≠ .off := by simp [active]
  have ok := h.queueOk c.queue
  have word : c.word = (a.queues.get c.queue).position := h.word c hc
  unfold Acquisition.continueQueue
  split
  next =>
    have parked : ∀ st, (a.park c.queue st).setQueue c.queue (fun x => { x with complete := true }) =
        a.setQueue c.queue fun x => { x with state := st, position := a.firstWord c.queue, complete := true } := by
      intro st
      cases c.queue <;> rfl
    rw [parked]
    refine h.leave ⟨h.first _, ok.subStart, fun _ => ok.armed runs⟩ active ?_
    exact (endState_rests _).imp_right .inl
  next final =>
    have next : a.holds c.queue (c.word + 1) := by
      have below : c.word ≠ a.highWord c.queue := fun top => final (by simp [isFinal, top])
      have range := ok.position
      rw [← word] at range
      exact ⟨Nat.le_succ_of_le range.1, Nat.lt_of_le_of_ne range.2 below⟩
    split
    next => exact h.leave ⟨next, ok.subStart, fun _ => ok.armed runs⟩ active (.inr (.inr rfl))
    next =>
      have live : a.released = true → False := fun r => by simp [h.notReleased (q := c.queue) runs] at r
      have converts : a.conversion.map Conversion.queue = some c.queue := by rw [hc]; rfl
      cases hq : c.queue with
      | fast =>
        rw [hq] at active next runs converts
        have arb := h.arbitrated.stays converts
        rw [show a.queues.fast.state = .active from active] at arb
        exact h.change ((h.queueOk .fast).moved next (.inr runs)) (h.queueOk .slow) arb (by rintro _ ⟨⟩; rfl)
          fun r => (live r).elim
      | slow =>
        rw [hq] at active next runs converts
        have arb := h.arbitrated.stays converts
        rw [show a.queues.slow.state = .active from active] at arb
        exact h.change (h.queueOk .fast) ((h.queueOk .slow).moved next (.inr runs)) arb (by rintro _ ⟨⟩; rfl)
          fun r => (live r).elim

/-- What the invariant speaks of is the same. -/
theorem Acquisition.Inv.same {a b : Acquisition} (h : a.Inv) (queues : b.queues = a.queues)
    (conversion : b.conversion = a.conversion) (boundary : b.boundary = a.boundary) (words : b.words = a.words)
    (setup : b.setup = a.setup) (released : b.released = a.released) : b.Inv := by
  have moved := h.change (h.queueOk .fast) (h.queueOk .slow) h.arbitrated
    (fun c hc => (h.word c hc).trans (by cases c.queue <;> rfl)) fun r => ⟨h.released r .fast, h.released r .slow⟩
  obtain ⟨bw, bb, br, bs, bq, bc, brel, bf⟩ := b
  cases queues; cases conversion; cases boundary; cases words; cases setup; cases released
  exact ⟨moved.boundary, moved.converts, moved.word, moved.oneActive, moved.fastNeverWaits, moved.slowWaits,
    moved.released, moved.inRange, moved.armed⟩

theorem State.completeConversion_acqInv {s : State} (h : s.acq.Inv) (raw : BitVec 12) :
    (s.completeConversion raw).acq.Inv := by
  unfold State.completeConversion
  split
  next => exact h
  next c hc =>
    split
    next =>
      rw [State.onAcq_acq, State.writeDest_frame, State.referenceCheck_frame]
      exact Acquisition.Inv.continueQueue (a := s.acq.record c.word raw s.time.tag) (h.same rfl rfl rfl rfl rfl rfl) hc
    next => exact h

end Sys2Proof.Machine
end

section
/-!
The invariant of the acquisition unit: commands of the management unit, the tables, COMMIT, and the step.
-/

namespace Sys2Proof.Machine

open Sys2Proof

/-! ### Queues turned off, armed and disarmed (R64 to R70) -/

/-- A queue at rest in its first word. -/
theorem Acquisition.Inv.rest {a : Acquisition} (h : a.Inv) {q : QueueId} {x : SampleQueue} (ok : a.QueueOk q x)
    (idle : (a.queues.get q).state ≠ .active) (rests : x.state = .off ∨ x.state = .idle)
    (live : x.state = .idle → a.released = false) : (a.setQueue q fun _ => x).Inv := by
  have off : a.released = true → x.state = .off := fun r =>
    rests.resolve_right fun i => by simp [live i] at r
  cases q with
  | fast =>
    refine h.change ok (h.queueOk .slow) (h.arbitrated.restFast rests idle) (fun c hc => ?_)
      fun r => ⟨off r, h.released r .slow⟩
    have other : c.queue = .slow := by
      cases hq : c.queue
      · exact absurd (h.arbitrated.fastConverts.2 (by simp [hc, hq])) idle
      · rfl
    rw [h.word c hc, other]
    rfl
  | slow =>
    refine h.change (h.queueOk .fast) ok (h.arbitrated.restSlow rests idle) (fun c hc => ?_)
      fun r => ⟨h.released r .fast, off r⟩
    have other : c.queue = .fast := by
      cases hq : c.queue
      · rfl
      · exact absurd (h.arbitrated.slowConverts.2 (by simp [hc, hq])) idle
    rw [h.word c hc, other]
    rfl

theorem Acquisition.Inv.turnOff {a : Acquisition} (h : a.Inv) {q : QueueId}
    (idle : (a.queues.get q).state ≠ .active) : (a.turnOff q).Inv :=
  h.rest (x := { a.queues.get q with state := .off, position := a.firstWord q, subStart := a.firstWord q })
    ⟨h.first q, h.first q, fun runs => absurd rfl runs⟩ idle (.inl rfl) nofun

theorem Acquisition.Inv.armQueue {a : Acquisition} (h : a.Inv) {q : QueueId} (runs : a.mayRun q)
    (live : a.released = false) : (a.armQueue q).Inv := by
  unfold Acquisition.armQueue
  split
  next off =>
    exact h.rest (x := { a.queues.get q with state := .idle, position := a.firstWord q })
      ⟨h.first q, (h.queueOk q).subStart, fun _ => runs⟩ (by simp [show (a.queues.get q).state = .off from off])
      (.inr rfl) fun _ => live
  next => exact h

theorem Acquisition.Inv.disarmQueue {a : Acquisition} (h : a.Inv) (q : QueueId) : (a.disarmQueue q).Inv := by
  unfold Acquisition.disarmQueue
  split
  · exact h
  · split
    next active => exact h.leave ⟨h.first q, h.first q, fun runs => absurd rfl runs⟩ active (.inl rfl)
    next idle => exact h.turnOff idle

theorem Acquisition.Inv.stopAll {a : Acquisition} (h : a.Inv) : a.stopAll.Inv :=
  h.change ⟨h.first .fast, h.first .fast, fun runs => absurd rfl runs⟩
    ⟨h.first .slow, h.first .slow, fun runs => absurd rfl runs⟩ Arbitrated.stopped nofun fun _ => ⟨rfl, rfl⟩

theorem Acquisition.stopAll_off (a : Acquisition) (q : QueueId) : (a.stopAll.queues.get q).state = .off := by
  cases q <;> rfl

theorem Acquisition.Inv.releaseLine {a : Acquisition} (h : a.Inv) : a.releaseLine.Inv :=
  Acquisition.inv_of h.boundary Arbitrated.stopped nofun (fun _ => a.stopAll_off)
    fun q => ⟨(h.stopAll.queueOk q).position, (h.stopAll.queueOk q).subStart, (h.stopAll.queueOk q).armed⟩

/-- Arming a queue that is OFF. -/
theorem Acquisition.Inv.armAtCommit {a : Acquisition} (h : a.Inv) {q : QueueId} (passes : a.setupFails q = false)
    (off : (a.queues.get q).state = .off) : (a.armAtCommit q).Inv := by
  unfold Acquisition.armAtCommit
  split
  next arms =>
    obtain ⟨live, arm⟩ : a.released = false ∧ (a.setup.get q).arm = true := by simpa using arms
    obtain ⟨used, mode⟩ : ((a.setup.get q).mode ≠ .off → (a.word (a.firstWord q)).channel.isSome) ∧
        (a.setup.get q).mode ≠ .off := by
      simpa [setupFails, arm, Option.isSome_iff_ne_none] using passes
    exact h.rest (x := { a.queues.get q with state := .idle, position := a.firstWord q })
      ⟨h.first q, (h.queueOk q).subStart, fun _ => ⟨mode, used mode⟩⟩ (by simp [off]) (.inr rfl) fun _ => live
  next => exact h

theorem Acquisition.Inv.commit {a : Acquisition} (h : a.Inv) (passes : ∀ q, a.setupFails q = false) : a.commit.Inv := by
  have first : (a.stopAll.armAtCommit .fast).Inv := h.stopAll.armAtCommit (passes .fast) rfl
  have slow : ((a.stopAll.armAtCommit .fast).queues.get .slow).state = .off := by
    unfold Acquisition.armAtCommit
    split <;> rfl
  have setup : (a.stopAll.armAtCommit .fast).setupFails .slow = a.setupFails .slow := by
    unfold Acquisition.armAtCommit
    split <;> rfl
  exact first.armAtCommit (setup.trans (passes .slow)) slow

theorem Acquisition.inv_initial : Acquisition.initial.Inv := by
  refine Acquisition.inv_of ⟨by decide, by decide⟩ Arbitrated.stopped nofun nofun fun q => ?_
  cases q <;> exact ⟨by constructor <;> decide, by constructor <;> decide, fun runs => absurd rfl runs⟩

/-! ### The tables -/

/-- With both queues OFF nothing converts. -/
theorem Acquisition.Inv.idle {a : Acquisition} (h : a.Inv) (off : a.bothOff = true) :
    a.queues.fast.state = .off ∧ a.queues.slow.state = .off ∧ a.conversion = none := by
  obtain ⟨fast, slow⟩ : a.queues.fast.state = .off ∧ a.queues.slow.state = .off := by
    simpa [bothOff, queue, PerQueue.get] using off
  refine ⟨fast, slow, ?_⟩
  cases hc : a.conversion with
  | none => rfl
  | some c =>
    have active := (h.converts c.queue).2 ⟨c, hc, rfl⟩
    cases hq : c.queue <;> simp_all [queue, PerQueue.get]

/-- With both queues OFF, the words and the setup are free. -/
theorem Acquisition.Inv.tables {a : Acquisition} (h : a.Inv) (off : a.bothOff = true) (words : Vector SampleWord 48)
    (setup : PerQueue QueueSetup) : Acquisition.Inv { a with words := words, setup := setup } := by
  obtain ⟨fast, slow, none⟩ := h.idle off
  refine Acquisition.inv_of h.boundary h.arbitrated h.word h.released fun q => ?_
  cases q
  · exact ⟨(h.queueOk .fast).position, (h.queueOk .fast).subStart, fun runs => absurd fast runs⟩
  · exact ⟨(h.queueOk .slow).position, (h.queueOk .slow).subStart, fun runs => absurd slow runs⟩

theorem Acquisition.Inv.setBoundary {a : Acquisition} (h : a.Inv) (off : a.bothOff = true) {b : Nat}
    (range : 1 ≤ b ∧ b ≤ 47) : (a.setBoundary b).Inv := by
  obtain ⟨-, -, idle⟩ := h.idle off
  refine Acquisition.inv_of range ?_ (fun c hc => by simp [Acquisition.setBoundary, Acquisition.turnOff,
    Acquisition.setQueue, idle] at hc)
    (fun _ q => by cases q <;> rfl) fun q => ?_
  · have stopped := Arbitrated.stopped
    simp only [Acquisition.setBoundary, Acquisition.turnOff, Acquisition.setQueue, idle]
    exact stopped
  · cases q
    · exact ⟨⟨Nat.le_refl 0, Nat.zero_le _⟩, ⟨Nat.le_refl 0, Nat.zero_le _⟩, fun runs => absurd rfl runs⟩
    · exact ⟨⟨Nat.le_refl b, range.2⟩, ⟨Nat.le_refl b, range.2⟩, fun runs => absurd rfl runs⟩

theorem natIn_eq_some {lo hi n v : Nat} (h : natIn lo hi n = some v) : v = n ∧ lo ≤ n ∧ n ≤ hi := by
  unfold natIn at h
  split at h
  next range => exact ⟨(Option.some.inj h).symm, range⟩
  next => cases h

theorem readBoundary_range {d : List Byte} {v : Nat} (h : readBoundary d = some v) : 1 ≤ v ∧ v ≤ 47 := by
  obtain ⟨-, -, h⟩ := Option.bind_eq_some_iff.1 h
  obtain ⟨rfl, range⟩ := natIn_eq_some h
  exact range

theorem State.writeTable_acqInv {s t : State} {table index : Nat} {d : List Byte} (h : s.acq.Inv)
    (off : table = 6 ∨ table = 7 → s.acq.bothOff = true) (written : s.writeTable table index d = some t) :
    t.acq.Inv := by
  unfold State.writeTable at written
  split at written
  case h_7 =>
    split at written <;> obtain ⟨v, hv, rfl⟩ := Option.map_eq_some_iff.1 written
    · exact h.setBoundary (off (.inl rfl)) (readBoundary_range hv)
    · exact h.tables (off (.inl rfl)) _ s.acq.setup
  case h_8 =>
    obtain ⟨v, -, rfl⟩ := Option.map_eq_some_iff.1 written
    exact h.tables (off (.inr rfl)) s.acq.words _
  case h_17 => cases written
  all_goals obtain ⟨v, -, rfl⟩ := Option.map_eq_some_iff.1 written; exact h

/-! ### COMMIT -/

theorem firstFailure_eq_none {table n : Nat} {fails : Nat → Bool} :
    firstFailure table n fails = none ↔ ∀ i < n, fails i = false := by
  simp [firstFailure]

/-- No entry fails when COMMIT finds no failure, step by step. -/
theorem State.commitFailure_none {s : State} (h : s.commitFailure = none) :
    (∀ q, s.acq.setupFails q = false) ∧ s.weigh.params.commits s.trk.params.thetaDig s.trk.params.thetaCarry = true ∧
      s.acc.params.commits = true := by
  simp only [State.commitFailure, List.findSome?_eq_none_iff, List.forall_mem_cons, id_eq, firstFailure_eq_none] at h
  obtain ⟨-, -, -, -, -, setup, weigh, -, account, -⟩ := h
  refine ⟨fun q => ?_, by simpa using weigh 0 (by decide), by simpa using account 0 (by decide)⟩
  cases q
  · exact setup 0 (by decide)
  · exact setup 1 (by decide)

theorem State.takeCommit_acq (s : State) : s.takeCommit.acq = s.acq.commit := by
  unfold State.takeCommit
  rw [State.commitAccounts_frame]

theorem State.takeSoftReset_acq (s : State) : s.takeSoftReset.acq = s.acq.softReset := by
  unfold State.takeSoftReset
  rw [State.endRunByConfig_frame]
  rfl

theorem State.takeEnterConfig_acq (s : State) : s.takeEnterConfig.acq = s.acq.stopAll := by
  unfold State.takeEnterConfig
  rw [State.endRunByConfig_frame]
  rfl

/-! ### Commands and steps -/

/-- An ARM leaves the state, or arms a queue whose setup lets it run, on a line that is not released. -/
theorem State.doArm_cases (req : Request) (q : QueueId) (s : State) :
    (s.doArm req q).state = s ∨
      (s.acq.released = false ∧ s.acq.mayRun q ∧ s.doArm req q = accepted q (s.onAcq fun a => a.armQueue q)) := by
  unfold State.doArm
  split
  · exact .inl rfl
  · split
    · exact .inl rfl
    next live =>
      split
      · exact .inl rfl
      next runs =>
        obtain ⟨mode, used⟩ := not_or.1 runs
        exact .inr ⟨eq_false_of_ne_true live, ⟨mode, by simpa [Option.isSome_iff_ne_none] using used⟩, rfl⟩

theorem State.doTrigger_acqInv {s : State} (h : s.acq.Inv) (q : QueueId) : (s.doTrigger q).state.acq.Inv := by
  unfold State.doTrigger
  split
  · exact h
  · exact State.triggerQueue_acqInv h q

theorem bodyOf_acqInv (c : Instr) {s : State} (h : s.acq.Inv) : (bodyOf c s).state.acq.Inv := by
  by_cases changed : Block.acq ∈ bodyChanges c
  case neg => exact (bodyOf_acq changed s).symm ▸ h
  cases c
  case readState req =>
    simp only [bodyOf, State.doReadState]
    split
    · exact h
    · simp only [answerOk]
      split
      · have fast := h.setFlags .fast false false false
        exact (fast.setFlags .slow false false false).same rfl rfl rfl rfl rfl rfl
      · exact h
  case arm req =>
    obtain ⟨q, -, -, hb⟩ | ⟨status, hb⟩ := s.onQueue_cases req (State.doArm req) <;> simp only [bodyOf, hb]
    · obtain same | ⟨live, runs, armed⟩ := s.doArm_cases req q
      · exact same.symm ▸ h
      · simp only [armed]
        exact h.armQueue runs live
    · exact h
  case disarm req =>
    obtain ⟨q, -, -, hb⟩ | ⟨status, hb⟩ := s.onQueue_cases req State.doDisarm <;> simp only [bodyOf, hb]
    · exact h.disarmQueue q
    · exact h
  case trigger req =>
    obtain ⟨q, -, -, hb⟩ | ⟨status, hb⟩ := s.onQueue_cases req State.doTrigger <;> simp only [bodyOf, hb]
    · exact State.doTrigger_acqInv h q
    · exact h
  case enterConfig =>
    simp only [bodyOf, State.doEnterConfig]
    split
    · exact h
    · exact s.takeEnterConfig_acq ▸ h.stopAll
  case writeEntry req =>
    obtain ⟨status, hb⟩ | ⟨t, -, off, -, written, hb⟩ := s.doWriteEntry_cases req <;> simp only [bodyOf, hb]
    · exact h
    · exact State.writeTable_acqInv h off written
  case commit =>
    obtain hb | ⟨-, passes, hb⟩ := s.doCommit_cases <;> simp only [bodyOf, hb]
    · exact h
    · exact s.takeCommit_acq ▸ h.commit (State.commitFailure_none passes).1
  case softReset =>
    have off : ∀ q, (Acquisition.initial.queue q).state = .off := fun q => by cases q <;> rfl
    exact s.takeSoftReset_acq ▸ { Acquisition.inv_initial with released := fun _ => off }
  case bypass =>
    simp only [bodyOf, State.doBypass, answerOk]
    split
    · exact h.releaseLine
    · exact h
  all_goals exact absurd changed (of_decide_eq_false rfl)

theorem run_acqInv (c : Instr) {s : State} (h : s.acq.Inv) : (s.run c).acq.Inv := by
  by_cases changed : Block.acq ∈ changes c
  case neg => exact (run_acq changed s).symm ▸ h
  cases c
  case powerReset straps => exact Acquisition.inv_initial.same rfl rfl rfl rfl rfl rfl
  case conversionComplete raw => exact State.completeConversion_acqInv (s := s.take _) h raw
  case queueTrigger q =>
    rw [run_queueTrigger, State.timerTrigger]
    split
    · exact State.triggerQueue_acqInv (s := s.take _) h q
    · exact h
  case readState | arm | disarm | trigger | enterConfig | writeEntry | commit | softReset | bypass =>
    exact run_request_keeps (P := fun s => s.acq.Inv) (fun _ _ h => h) (fun _ _ h => h) rfl rfl
      (fun _ h _ _ => bodyOf_acqInv _ h) h
  all_goals exact absurd changed (of_decide_eq_false rfl)

theorem Acquisition.Inv.tick {a : Acquisition} (h : a.Inv) : a.tick.Inv := by
  have queues : (a.tick.conversion.map Conversion.queue) = a.conversion.map Conversion.queue := by
    simp only [Acquisition.tick, Option.map_map]
    rfl
  refine Acquisition.inv_of h.boundary (queues ▸ h.arbitrated) (fun c hc => ?_) h.released
    fun q => ⟨(h.queueOk q).position, (h.queueOk q).subStart, (h.queueOk q).armed⟩
  obtain ⟨c', hc', rfl⟩ := Option.map_eq_some_iff.1 hc
  exact h.word c' hc'

theorem step_acqInv {s t : State} (h : s.acq.Inv) (hstep : step s = .next t) : t.acq.Inv :=
  step_keeps (P := fun s => s.acq.Inv) (fun _ _ h => h) (fun _ _ h => h.same rfl rfl rfl rfl rfl rfl)
    (fun c _ h => run_acqInv c h) (fun _ h => h.tick) h hstep

/-- Settles O20: each of the two invariants is kept by every command and by the passing of time. -/
theorem stepKeepsAcquisitionInv : Obligations.StepKeepsAcquisitionInv :=
  ⟨fun _ _ => step_sigInv, fun _ _ => step_acqInv⟩

end Sys2Proof.Machine
end

section
/-!
The invariant of load accounting (R146 to R149, R160, R161) over a step: one slot, the load log, the slots together, and
what each operation of the block makes of them.
-/

namespace Sys2Proof.Machine

open Sys2Proof

/-! ### One slot -/

theorem TargetSlot.inv_free : TargetSlot.free.Inv := by
  constructor <;> simp [TargetSlot.free, listPayload, gradeEntries]

/-- A slot just opened holds nothing but its id, its capacity and its time. -/
theorem TargetSlot.inv_opened (id capacity : Nat) (now : Clock) :
    TargetSlot.Inv { TargetSlot.free with state := .opened, id := id, capacity := capacity, opened := now } := by
  constructor <;> simp [TargetSlot.free, listPayload, gradeEntries]

theorem TargetSlot.evaluate_state (p : AccountRecord) (t : TargetSlot) : (t.evaluate p).state ≠ .free :=
  (t.evaluate_evaluated p).held

/-- The evaluation of a slot that is not FREE keeps what its buckets are. -/
theorem TargetSlot.Inv.evaluate {t : TargetSlot} (h : t.Inv) (p : AccountRecord) : (t.evaluate p).Inv :=
  { h with freeIsEmpty := fun free => absurd free (t.evaluate_state p) }

theorem TargetSlot.Inv.withCapacity {t : TargetSlot} (h : t.Inv) (capacity : Nat) (p : AccountRecord) :
    (TargetSlot.evaluate p { t with capacity := capacity }).Inv :=
  { h with freeIsEmpty := fun free => absurd free (TargetSlot.evaluate_state p _) }

theorem gradeEntries_cons (g : BucketGrade) (e : BucketEntry) (l : List BucketEntry) :
    gradeEntries g (e :: l) = gradeEntries g l + gradeCount g e := by
  by_cases h : e.grade = g <;> simp [gradeEntries, gradeCount, h]

theorem gradeEntries_append (g : BucketGrade) (l : List BucketEntry) (e : BucketEntry) :
    gradeEntries g (l ++ [e]) = gradeEntries g l + gradeCount g e := by
  by_cases h : e.grade = g <;> simp [gradeEntries, gradeCount, h]

theorem listPayload_append (l : List BucketEntry) (e : BucketEntry) :
    listPayload (l ++ [e]) = listPayload l + e.payload := by
  simp [listPayload]

/-- No entry counts for both grades that a slot keeps a count of. -/
theorem gradeCount_add_le (e : BucketEntry) : gradeCount .unweighed e + gradeCount .marginal e ≤ 1 := by
  unfold gradeCount
  cases e.grade <;> decide

/-- The numbers of `TargetSlot.Inv`, which its state has no part in. -/
structure TargetSlot.Sums (t : TargetSlot) : Prop where
  payload : t.accumulated = t.foldedPayload + listPayload t.list
  count : t.buckets = t.folded + t.list.length
  unweighed : gradeEntries .unweighed t.list ≤ t.unweighed
  marginal : gradeEntries .marginal t.list ≤ t.marginal
  foldedGrades : (t.unweighed - gradeEntries .unweighed t.list) +
    (t.marginal - gradeEntries .marginal t.list) ≤ t.folded

theorem TargetSlot.Inv.sums {t : TargetSlot} (h : t.Inv) : t.Sums :=
  ⟨h.payload, h.count, h.unweighed, h.marginal, h.foldedGrades⟩

theorem TargetSlot.Sums.inv {t : TargetSlot} (h : t.Sums) (p : AccountRecord) (limit : t.list.length ≤ 12)
    (count : t.buckets ≤ 65535) : (t.evaluate p).Inv where
  freeIsEmpty := fun free => absurd free (t.evaluate_state p)
  payload := h.payload
  count := h.count
  listLimit := limit
  countLimit := count
  unweighed := h.unweighed
  marginal := h.marginal
  foldedGrades := h.foldedGrades

/-- Folding makes room in a full list, and keeps the sums (R147). -/
theorem TargetSlot.Inv.fold {t : TargetSlot} (h : t.Inv) :
    t.fold.Sums ∧ t.fold.list.length ≤ 11 ∧ t.fold.buckets = t.buckets := by
  have limit := h.listLimit
  unfold TargetSlot.fold
  split
  next none => exact ⟨h.sums, by simp [none], rfl⟩
  next e rest hl =>
    obtain ⟨payload, count, unweighed, marginal, foldedGrades⟩ := h.sums
    have one := gradeCount_add_le e
    simp only [hl, gradeEntries_cons, List.length_cons] at payload count unweighed marginal foldedGrades limit
    split
    next full =>
      refine ⟨⟨?_, ?_, ?_, ?_, ?_⟩, Nat.le_of_succ_le_succ limit, rfl⟩ <;>
        simp only [listPayload, List.map_cons, List.sum_cons] at payload ⊢ <;> omega
    next room =>
      rw [hl] at room
      exact ⟨h.sums, by rw [hl]; omega, rfl⟩

/-- An entry joins the tail of a list. -/
theorem TargetSlot.Sums.append {t : TargetSlot} (h : t.Sums) (e : BucketEntry) (now : Clock) :
    (t.append e now).Sums := by
  obtain ⟨payload, count, unweighed, marginal, foldedGrades⟩ := h
  constructor <;> simp only [TargetSlot.append, listPayload_append, gradeEntries_append, List.length_append,
    List.length_singleton] <;> omega

/-- A credit lands in a slot with room (R151). -/
theorem TargetSlot.Inv.credit {t : TargetSlot} (h : t.Inv) (room : t.buckets < 65535) (e : BucketEntry) (now : Clock)
    (p : AccountRecord) : ((t.fold.append e now).evaluate p).Inv := by
  obtain ⟨sums, short, same⟩ := h.fold
  refine (sums.append e now).inv p ?_ ?_
  · rw [TargetSlot.append, List.length_append]
    exact Nat.succ_le_succ short
  · simp only [TargetSlot.append, same]
    omega

/-- The tail entry leaves a list (R157). -/
theorem TargetSlot.Inv.removeLast {t : TargetSlot} (h : t.Inv) {e : BucketEntry} (tail : t.list.getLast? = some e)
    (p : AccountRecord) : ((t.removeLast e).evaluate p).Inv := by
  obtain ⟨rest, hl⟩ := List.getLast?_eq_some_iff.1 tail
  have limit := h.listLimit
  have bound := h.countLimit
  obtain ⟨payload, count, unweighed, marginal, foldedGrades⟩ := h.sums
  simp only [hl, listPayload_append, gradeEntries_append, List.length_append, List.length_singleton]
    at payload count unweighed marginal foldedGrades limit
  refine TargetSlot.Sums.inv ⟨?_, ?_, ?_, ?_, ?_⟩ p ?_ ?_ <;>
    simp only [TargetSlot.removeLast, hl, List.dropLast_concat] <;> omega

/-! ### The load log -/

theorem LoadLog.Inv.takeSequence {log : LoadLog} (h : log.Inv) : log.takeSequence.Inv := by
  have next := h.next
  unfold LoadLog.takeSequence
  split
  · exact h
  next live =>
    have unspent : log.spent = false := eq_false_of_ne_true live
    split
    next last =>
      exact { h with
        below := fun r hr => ⟨(h.below r hr).1, nofun⟩
        spent := fun _ => last }
    next more =>
      exact { h with
        below := fun r hr => ⟨Nat.le_succ_of_le (h.below r hr).1, fun _ => Nat.lt_succ_of_le (h.below r hr).1⟩
        next := ⟨Nat.le_add_left 1 _, by simp only; omega⟩
        spent := fun hs => absurd hs (by simp [unspent]) }

theorem LoadLog.takeSequence_records (log : LoadLog) : log.takeSequence.records = log.records := by
  unfold LoadLog.takeSequence
  split
  · rfl
  · split <;> rfl

/-- A record with the next sequence joins a log that accepts it (R161). -/
theorem LoadLog.Inv.join {log : LoadLog} (h : log.Inv) (accepts : log.accepts = true) {r : LoadRecord}
    (sequence : r.sequence = log.next) (missed : r.missed = log.missed) :
    LoadLog.Inv { log.takeSequence with records := log.records ++ [r], missed := 0 } := by
  obtain ⟨room, live⟩ : log.records.length < 16 ∧ log.spent = false := by simpa [LoadLog.accepts] using accepts
  have taken := h.takeSequence
  have fits : r.sequence ≤ log.takeSequence.next ∧ (log.takeSequence.spent = false →
    r.sequence < log.takeSequence.next) := by
    unfold LoadLog.takeSequence
    rw [if_neg (by simp [live]), sequence]
    split <;> simp
  have below : ∀ x ∈ log.records, x.sequence ≤ log.takeSequence.next ∧
      (log.takeSequence.spent = false → x.sequence < log.takeSequence.next) :=
    log.takeSequence_records ▸ taken.below
  refine ⟨?_, ?_, ?_, taken.next, taken.spent, ⟨Nat.zero_le 7, ?_⟩⟩
  · rw [List.length_append]
    exact Nat.succ_le_of_lt room
  · rw [List.map_append, List.pairwise_append]
    refine ⟨h.increasing, List.pairwise_singleton _ _, ?_⟩
    simp only [List.mem_map, List.map_cons, List.map_nil, List.mem_singleton]
    rintro _ ⟨x, hx, rfl⟩ _ rfl
    exact sequence ▸ (h.below x hx).2 live
  · simp only [List.mem_append, List.mem_singleton]
    rintro x (hx | rfl)
    · exact below x hx
    · exact fits
  · simp only [List.mem_append, List.mem_singleton]
    rintro x (hx | rfl)
    · exact h.missed.2 x hx
    · exact missed ▸ h.missed.1

/-- A record that does not join is counted (R161). -/
theorem LoadLog.Inv.lose {log : LoadLog} (h : log.Inv) {n : Nat} (missed : n ≤ 7) :
    LoadLog.Inv { log.takeSequence with missed := n } :=
  { h.takeSequence with missed := ⟨missed, h.takeSequence.missed.2⟩ }

/-- Records leave the log from its head. -/
theorem LoadLog.Inv.drop {log : LoadLog} (h : log.Inv) (n : Nat) (inFlight : Bool) :
    LoadLog.Inv { log with records := log.records.drop n, inFlight := inFlight } where
  limit := Nat.le_trans (List.length_drop ▸ Nat.sub_le _ _) h.limit
  increasing := by
    rw [List.map_drop]
    exact h.increasing.sublist (List.drop_sublist _ _)
  below := fun r hr => h.below r (List.mem_of_mem_drop hr)
  next := h.next
  spent := h.spent
  missed := ⟨h.missed.1, fun r hr => h.missed.2 r (List.mem_of_mem_drop hr)⟩

theorem LoadLog.Inv.flight {log : LoadLog} (h : log.Inv) (inFlight : Bool) :
    LoadLog.Inv { log with inFlight := inFlight } :=
  h.drop 0 inFlight

/-! ### The slots together -/

/-- Slots, pointer and log are the same. -/
theorem Accounts.Inv.same {a b : Accounts} (h : a.Inv) (slots : b.slots = a.slots) (pointer : b.pointer = a.pointer)
    (log : b.log = a.log) : b.Inv := by
  have slot : ∀ i, b.slot i = a.slot i := fun i => by rw [Accounts.slot, slots]; rfl
  constructor
  · exact fun i => slot i ▸ h.slots i
  · intro i j hi hj
    rw [slot] at hi hj ⊢
    rw [slot]
    exact h.ids i j hi hj
  · intro i hi
    rw [slot]
    exact h.pointer i (pointer ▸ hi)
  · exact log ▸ h.log

theorem Accounts.Inv.withLog {a : Accounts} (h : a.Inv) {log : LoadLog} (hl : log.Inv) :
    Accounts.Inv { a with log := log } :=
  ⟨h.slots, h.ids, h.pointer, hl⟩

/-- One slot changes, and keeps its id or takes one that no other held slot has. -/
theorem Accounts.Inv.changeSlot {a b : Accounts} (h : a.Inv) (i : Fin 4) (others : ∀ j, j ≠ i → b.slot j = a.slot j)
    (slot : (b.slot i).Inv)
    (id : (b.slot i).held = true → (b.slot i).id ≠ 0 → ∀ j, j ≠ i → (a.slot j).held = true →
      (a.slot j).id ≠ (b.slot i).id)
    (pointer : ∀ j, b.pointer = some j → (b.slot j).held = true) (log : b.log.Inv) : b.Inv where
  slots := by
    intro j
    by_cases same : j = i
    · exact same ▸ slot
    · exact others j same ▸ h.slots j
  ids := by
    intro j k hj hk ids nonzero
    by_cases ji : j = i <;> by_cases ki : k = i
    · exact ji.trans ki.symm
    · subst ji
      rw [others k ki] at hk ids
      exact absurd ids.symm (id hj nonzero k ki hk)
    · subst ki
      rw [others j ji] at hj ids nonzero
      exact absurd ids (id hk (ids ▸ nonzero) j ji hj)
    · rw [others j ji] at hj ids nonzero
      rw [others k ki] at hk ids
      exact h.ids j k hj hk ids nonzero
  pointer := pointer
  log := log

/-- A held slot changes its contents and keeps its id. -/
theorem Accounts.Inv.updateSlot {a : Accounts} (h : a.Inv) {i : Fin 4} {f : TargetSlot → TargetSlot}
    (held : (a.slot i).held = true) (slot : (f (a.slot i)).Inv) (stays : (f (a.slot i)).state ≠ .free)
    (id : (f (a.slot i)).id = (a.slot i).id) : (a.setSlot i f).Inv := by
  refine h.changeSlot i (fun j hj => by rw [Accounts.slot_setSlot, if_neg hj]) ?_ ?_ (fun j hj => ?_) h.log
  · rw [Accounts.slot_setSlot, if_pos rfl]
    exact slot
  · rw [Accounts.slot_setSlot, if_pos rfl, id]
    exact fun _ nonzero j hj hheld same => hj (h.ids j i hheld held same (same ▸ nonzero))
  · rw [Accounts.slot_setSlot]
    split
    · exact (TargetSlot.held_iff _).2 stays
    · exact h.pointer j hj

theorem Accounts.Inv.select {a : Accounts} (h : a.Inv) {i : Fin 4} (held : (a.slot i).held = true) : (a.select i).Inv :=
  ⟨h.slots, h.ids, fun _ hj => Option.some.inj hj ▸ held, h.log⟩

/-- A FREE slot is opened with the id 0, or with one that no held slot has. -/
theorem Accounts.Inv.openSlot {a : Accounts} (h : a.Inv) {i : Fin 4} {id : Nat} (capacity : Nat) (now : Clock)
    (fresh : id = 0 ∨ a.holder id = none) : (a.openSlot i id capacity now).Inv := by
  have opened : (a.openSlot i id capacity now).slot i = _ := (Accounts.slot_setSlot a i i _).trans (if_pos rfl)
  refine h.changeSlot i (fun j hj => (Accounts.slot_setSlot a i j _).trans (if_neg hj)) ?_ ?_ (fun j hj => ?_) h.log
  · rw [opened]
    exact TargetSlot.inv_opened id capacity now
  · rw [opened]
    intro _ nonzero j _ held same
    obtain zero | none := fresh
    · exact nonzero zero
    · exact (Accounts.holder_none a id).1 none j ⟨(TargetSlot.held_iff _).1 held, same⟩
  · by_cases same : j = i
    · rw [same, opened]
      rfl
    · rw [show (a.openSlot i id capacity now).slot j = a.slot j from
        (Accounts.slot_setSlot a i j _).trans (if_neg same)]
      exact h.pointer j hj

theorem Accounts.openSlot_held (a : Accounts) (i : Fin 4) (id capacity : Nat) (now : Clock) :
    ((a.openSlot i id capacity now).slot i).held = true := by
  rw [Accounts.openSlot, Accounts.slot_setSlot, if_pos rfl]
  rfl

/-! ### Opening, selecting, crediting -/

theorem State.setAhead_accInv {s : State} (h : s.acc.Inv) (x : Option Int) :
    (s.setAhead x).acc.Inv := h.same rfl rfl rfl

theorem State.evalAhead_accInv {s : State} (h : s.acc.Inv) : s.evalAhead.acc.Inv := State.setAhead_accInv h _

theorem State.openTarget_accInv {s : State} (h : s.acc.Inv) (i : Fin 4) {id : Nat} (capacity : Nat) (current : Bool)
    (fresh : id = 0 ∨ s.acc.holder id = none) : (s.openTarget i id capacity current).acc.Inv := by
  have opened : (s.acc.openSlot i id capacity s.time.clockValue).Inv := h.openSlot capacity _ fresh
  cases current
  · exact opened
  · exact State.evalAhead_accInv (s := State.hand _ (s.onAcc _)) (opened.select (Accounts.openSlot_held ..))

theorem State.selectTarget_accInv {s : State} (h : s.acc.Inv) {i : Fin 4} (held : (s.acc.slot i).held = true) :
    (s.selectTarget i).acc.Inv := by
  unfold State.selectTarget
  split
  · exact h
  · exact State.evalAhead_accInv (s := State.hand _ (s.onAcc _)) (h.select held)

theorem State.refuseOpen_accInv {s : State} (h : s.acc.Inv) : s.refuseOpen.acc.Inv := by
  rw [State.refuseOpen, State.setFault_acc]
  exact h.same rfl rfl rfl

theorem State.arrive_accInv {s : State} (h : s.acc.Inv) (id capacity : Nat) : (s.arrive id capacity).acc.Inv := by
  unfold State.arrive
  split
  next i hi =>
    have held : (s.acc.slot i).held = true := (TargetSlot.held_iff _).2 ((Accounts.holder_iff _ _ _).1 hi).1.1
    have selected := h.select held
    refine State.evalAhead_accInv (s := State.hand _ (s.onAcc _)) ?_
    rw [State.hand_acc, State.onAcc_acc]
    split
    · exact selected.updateSlot held ((selected.slots i).withCapacity capacity _) (TargetSlot.evaluate_state _ _) rfl
    · exact selected
  next none =>
    split
    · exact State.openTarget_accInv h _ capacity true (.inr none)
    · exact State.refuseOpen_accInv h

theorem State.unallocated_accInv {s : State} (h : s.acc.Inv) (c : Credit) : (s.unallocated c).acc.Inv := by
  unfold State.unallocated
  rw [State.hand_acc, State.setFault_acc]
  exact h.same rfl rfl rfl

/-- A credit that lands in a held slot with room. -/
theorem Accounts.Inv.credit {a : Accounts} (h : a.Inv) {i : Fin 4} (held : (a.slot i).held = true)
    (room : (a.slot i).buckets < 65535) (e : BucketEntry) (now : Clock) :
    (a.setSlot i fun t => (t.fold.append e now).evaluate a.params).Inv := by
  refine h.updateSlot held ((h.slots i).credit room e now _) (TargetSlot.evaluate_state _ _) ?_
  have id : ∀ t : TargetSlot, t.fold.id = t.id := by
    intro t
    unfold TargetSlot.fold
    split
    · rfl
    · split <;> rfl
  exact id _

theorem State.creditSlot_accInv {s : State} (h : s.acc.Inv) (i : Fin 4) (c : Credit)
    (room : s.acc.pointer = some i → (s.acc.slot i).buckets < 65535) :
    (s.acc.pointer = some i → (s.creditSlot i false c).acc.Inv) ∧ (s.creditSlot i true c).acc.Inv := by
  refine ⟨fun current => ?_, ?_⟩
  · exact (h.credit (h.pointer i current) (room current) _ _).same rfl rfl rfl
  · have opened : ((s.acc.openSlot i 0 0 s.time.clockValue).select i).Inv :=
      (h.openSlot 0 s.time.clockValue (.inl rfl)).select (Accounts.openSlot_held ..)
    refine (opened.credit (i := i) (Accounts.openSlot_held ..) ?_ (creditEntry c s.acc.shift) s.time.clockValue).same
      rfl rfl rfl
    have empty : ((s.acc.openSlot i 0 0 s.time.clockValue).slot i).buckets = 0 :=
      congrArg TargetSlot.buckets ((Accounts.slot_setSlot s.acc i i _).trans (if_pos rfl))
    change ((s.acc.openSlot i 0 0 s.time.clockValue).slot i).buckets < 65535
    rw [empty]
    decide

theorem State.credit_accInv {s : State} (h : s.acc.Inv) (c : Credit) : (s.credit c).acc.Inv := by
  unfold State.credit
  split
  next i current =>
    split
    · exact State.unallocated_accInv h c
    next room => exact (State.creditSlot_accInv h i c fun _ => Nat.not_le.1 room).1 current
  next none =>
    split
    next i _ => exact (State.creditSlot_accInv h i c fun current => by simp [none] at current).2
    next => exact State.unallocated_accInv h c

/-! ### Removing and closing -/

theorem Accounts.lastBucket_eq_some {a : Accounts} {i : Fin 4} {e : BucketEntry} (h : a.lastBucket = some (i, e)) :
    a.pointer = some i ∧ (a.slot i).list.getLast? = some e := by
  obtain ⟨j, pointer, h⟩ := Option.bind_eq_some_iff.1 h
  obtain ⟨x, tail, h⟩ := Option.map_eq_some_iff.1 h
  cases h
  exact ⟨pointer, tail⟩

theorem State.removeBucket_accInv {s : State} (h : s.acc.Inv) {i : Fin 4} {e : BucketEntry}
    (last : s.acc.lastBucket = some (i, e)) : (s.removeBucket i e).acc.Inv := by
  obtain ⟨current, tail⟩ := Accounts.lastBucket_eq_some last
  exact (h.updateSlot (f := fun t => (t.removeLast e).evaluate s.acc.params) (h.pointer i current)
    ((h.slots i).removeLast tail s.acc.params) (TargetSlot.evaluate_state _ _) rfl).same rfl rfl rfl

theorem State.offerLoad_accInv {s : State} (h : s.acc.Inv) {r : LoadRecord} (sequence : r.sequence = s.acc.log.next)
    (missed : r.missed = s.acc.log.missed) : (s.offerLoad r).acc.Inv := by
  unfold State.offerLoad
  split
  next accepts => exact h.withLog (h.log.join accepts sequence missed)
  next =>
    rw [State.setFault_acc]
    refine h.withLog (h.log.lose ?_)
    unfold satInc
    split <;> omega

theorem State.recordLoad_accInv {s : State} (h : s.acc.Inv) (i : Fin 4) (cause : CloseCause) :
    (s.recordLoad i cause).acc.Inv := by
  unfold State.recordLoad
  dsimp only
  split
  · exact h
  · exact (State.offerLoad_accInv h rfl rfl).same rfl rfl rfl

theorem Accounts.Inv.freeSlot {a : Accounts} (h : a.Inv) (i : Fin 4) : (a.freeSlot i).Inv := by
  have freed : (a.freeSlot i).slot i = TargetSlot.free := by rw [Accounts.freeSlot_slot, if_pos rfl]
  have log : (a.freeSlot i).log = a.log := by
    unfold Accounts.freeSlot
    dsimp only
    split <;> rfl
  refine h.changeSlot i (fun j hj => by rw [Accounts.freeSlot_slot, if_neg hj]) (freed ▸ TargetSlot.inv_free)
    (fun held => by simp [freed, TargetSlot.free, TargetSlot.held] at held) (fun j hj => ?_) (log ▸ h.log)
  obtain ⟨kept, moved⟩ := a.freeSlot_pointer i
  by_cases current : a.pointer = some i
  · exact (TargetSlot.held_iff _).2 ((moved current j).1 hj).1
  · rw [kept current] at hj
    have other : j ≠ i := fun same => current (same ▸ hj)
    rw [Accounts.freeSlot_slot, if_neg other]
    exact h.pointer j hj

theorem State.closeSlot_accInv {s : State} (h : s.acc.Inv) (i : Fin 4) (cause : CloseCause) :
    (s.closeSlot i cause).acc.Inv :=
  State.evalAhead_accInv (s := State.hand _ (State.onAcc _ (s.recordLoad i cause)))
    ((State.recordLoad_accInv h i cause).freeSlot i)

/-! ### COMMIT and the end of LOAD copies -/

theorem State.commitSlot_accInv {s : State} (h : s.acc.Inv) (i : Fin 4) : (s.commitSlot i).acc.Inv := by
  unfold State.commitSlot
  dsimp only
  split
  next held =>
    have evaluated := h.updateSlot (f := fun t => t.evaluate s.acc.params) held ((h.slots i).evaluate _)
      (TargetSlot.evaluate_state _ _) rfl
    split <;> exact evaluated
  next => exact h

theorem State.commitAccounts_accInv {s : State} (h : s.acc.Inv) : s.commitAccounts.acc.Inv :=
  State.evalAhead_accInv (foldl_keeps (P := fun s : State => s.acc.Inv) (fun _ i hs => State.commitSlot_accInv hs i)
    allSlots h)

theorem State.endCopy_accInv {s : State} (h : s.acc.Inv) (p : Port) (how : CopyState) : (s.endCopy p how).acc.Inv := by
  unfold State.endCopy State.resolveCopies
  dsimp only
  split
  · exact h
  · refine h.withLog ?_
    split
    · exact h.log.flight false
    · exact h.log.drop 1 false

theorem State.closeContacts_accInv {s : State} (h : s.acc.Inv) : s.closeContacts.acc.Inv := by
  have flushed : ∀ (b : Bool) p (u : State), u.acc.Inv → (u.flushCopy b p).acc.Inv := by
    intro b p u hu
    cases b
    · exact hu
    · exact State.endCopy_accInv hu p _
  exact flushed _ _ _ (flushed _ _ (s.onLink _) h)

theorem State.releaseTest_accInv {s : State} (h : s.acc.Inv) : s.releaseTest.acc.Inv := by
  unfold State.releaseTest
  split
  · exact State.closeContacts_accInv h
  · exact h

theorem State.receive_accInv {s : State} (h : s.acc.Inv) (p : Port) (c : Character) : (s.receive p c).acc.Inv := by
  unfold State.receive
  dsimp only
  refine State.releaseTest_accInv ?_
  rw [State.spaceTest_frame, State.acceptClosed_frame, State.advance_frame]
  exact h

theorem State.goDown_accInv {s : State} (h : s.acc.Inv) (p : Port) : (s.goDown p).acc.Inv := by
  unfold State.goDown
  dsimp only
  split
  · refine State.releaseTest_accInv ?_
    rw [State.onLink_acc, State.setFault_acc]
    exact h
  · exact h

theorem State.signalSent_accInv {s : State} (h : s.acc.Inv) (p : Port) (k : Option OrigKind) :
    (s.signalSent p k).acc.Inv := by
  unfold State.signalSent State.sentOriginate
  split
  · rw [State.hand_acc]
    split
    · exact State.endCopy_accInv h p _
    · exact h
  · exact h

theorem State.completeTransmission_accInv {s : State} (h : s.acc.Inv) (p : Port) :
    (s.completeTransmission p).acc.Inv := by
  unfold State.completeTransmission
  split
  · exact h
  · split
    · exact State.releaseTest_accInv (State.signalSent_accInv (s := s.onLink _) h p _)
    · exact h

theorem State.expireLimit_accInv {s : State} (h : s.acc.Inv) : s.expireLimit.acc.Inv := by
  unfold State.expireLimit
  split
  · exact State.releaseTest_accInv (s := s.onLink _) h
  · exact h

theorem State.drain_accInv {s : State} (h : s.acc.Inv) : s.drain.acc.Inv := by
  unfold State.drain
  split
  · split
    · exact h
    · rw [State.foldl_queueCopy_frame]
      exact h.withLog (h.log.flight true)
  · exact h

end Sys2Proof.Machine
end

section
/-!
The invariant of load accounting over every command and over a step: the first part of O60.
-/

namespace Sys2Proof.Machine

open Sys2Proof

theorem Accounts.inv_initial : Accounts.initial.Inv where
  slots i := by
    rw [show Accounts.initial.slot i = TargetSlot.free by revert i; decide]
    exact TargetSlot.inv_free
  ids i j held := by
    rw [show (Accounts.initial.slot i).held = false by revert i; decide] at held
    cases held
  pointer := nofun
  log := by constructor <;> simp [Accounts.initial]

/-! ### The keys and the dispatch frames -/

theorem State.nextTarget_accInv {s : State} (h : s.acc.Inv) : s.nextTarget.acc.Inv := by
  unfold State.nextTarget
  split
  next i found => exact State.selectTarget_accInv h (by simpa using List.find?_some found)
  next => exact h

theorem State.selectKey_accInv {s : State} (h : s.acc.Inv) (i : Fin 4) : (s.selectKey i).acc.Inv := by
  unfold State.selectKey
  split
  next held => exact State.selectTarget_accInv h held
  next => exact h

theorem State.newTarget_accInv {s : State} (h : s.acc.Inv) : s.newTarget.acc.Inv := by
  unfold State.newTarget
  split
  · exact State.openTarget_accInv h _ _ _ (.inl rfl)
  · exact State.refuseOpen_accInv h

theorem State.deleteLast_accInv {s : State} (h : s.acc.Inv) : s.deleteLast.acc.Inv := by
  unfold State.deleteLast
  split
  next last => exact State.removeBucket_accInv h last
  next => exact h

theorem State.closeLoad_accInv {s : State} (h : s.acc.Inv) : s.closeLoad.acc.Inv := by
  unfold State.closeLoad
  split
  · exact State.closeSlot_accInv h _ _
  · exact h

theorem State.depart_accInv {s : State} (h : s.acc.Inv) (id : Nat) : (s.depart id).acc.Inv := by
  unfold State.depart
  split
  · exact State.closeSlot_accInv h _ _
  · exact h.same rfl rfl rfl

/-! ### Management commands -/

theorem State.namedSlot_held {req : Request} {s : State} {i : Fin 4} (h : s.namedSlot req = some i) :
    (s.acc.slot i).held = true :=
  (Option.filter_eq_some_iff.1 h).2

theorem State.doTargetOpen_accInv {s : State} (h : s.acc.Inv) (req : Request) : (s.doTargetOpen req).state.acc.Inv := by
  unfold State.doTargetOpen
  obtain ⟨-, hb⟩ | ⟨-, hb⟩ := s.inRun_cases _ <;> rw [hb]
  · split
    · exact h
    · split
      · exact h
      · split
        · exact h
        next distinct =>
          split
          · exact h
          · refine State.openTarget_accInv h _ _ _ ?_
            simpa [Option.not_isSome_iff_eq_none, Classical.or_iff_not_imp_left] using distinct
  · exact h

theorem State.doTargetSelect_accInv {s : State} (h : s.acc.Inv) (req : Request) :
    (s.doTargetSelect req).state.acc.Inv := by
  unfold State.doTargetSelect
  obtain ⟨-, hb⟩ | ⟨-, hb⟩ := s.inRun_cases _ <;> rw [hb]
  · split
    next named => exact State.evalAhead_accInv (State.selectTarget_accInv h (State.namedSlot_held named))
    next => exact h
  · exact h

theorem State.doTargetClose_accInv {s : State} (h : s.acc.Inv) (req : Request) :
    (s.doTargetClose req).state.acc.Inv := by
  unfold State.doTargetClose
  obtain ⟨-, hb⟩ | ⟨-, hb⟩ := s.inRun_cases _ <;> rw [hb]
  · split
    · exact State.closeSlot_accInv h _ _
    · exact h
  · exact h

theorem State.doDeleteLastBucket_accInv {s : State} (h : s.acc.Inv) : s.doDeleteLastBucket.state.acc.Inv := by
  unfold State.doDeleteLastBucket
  obtain ⟨-, hb⟩ | ⟨-, hb⟩ := s.inRun_cases _ <;> rw [hb]
  · split
    next last => exact State.removeBucket_accInv h last
    next => exact h
  · exact h

theorem State.doReadLoadLog_accInv {s : State} (h : s.acc.Inv) : s.doReadLoadLog.state.acc.Inv := by
  unfold State.doReadLoadLog
  split
  · exact h
  · split
    · exact h
    · split
      · exact h
      next rest records =>
        have log := h.log.drop 1 s.acc.log.inFlight
        rw [records] at log
        exact h.withLog log

theorem State.writeTable_accInv {s t : State} {table index : Nat} {d : List Byte} (h : s.acc.Inv)
    (written : s.writeTable table index d = some t) : t.acc.Inv := by
  unfold State.writeTable at written
  split at written
  case h_7 => split at written <;> obtain ⟨v, -, rfl⟩ := Option.map_eq_some_iff.1 written <;> exact h
  case h_12 =>
    obtain ⟨v, -, rfl⟩ := Option.map_eq_some_iff.1 written
    exact h.same rfl rfl rfl
  case h_17 => cases written
  all_goals obtain ⟨v, -, rfl⟩ := Option.map_eq_some_iff.1 written; exact h

theorem State.takeSoftReset_acc (s : State) : s.takeSoftReset.acc = { s.acc with params := ⟨0, 0⟩ } := by
  unfold State.takeSoftReset
  rw [State.endRunByConfig_frame]
  rfl

theorem bodyOf_accInv (c : Instr) {s : State} (h : s.acc.Inv) : (bodyOf c s).state.acc.Inv := by
  by_cases changed : Block.acc ∈ bodyChanges c
  case neg => exact (bodyOf_acc changed s).symm ▸ h
  cases c
  case readTotals =>
    simp only [bodyOf, State.doReadTotals]
    split
    · exact h.same rfl rfl rfl
    · exact h
  case targetOpen req => exact State.doTargetOpen_accInv h req
  case targetSelect req => exact State.doTargetSelect_accInv h req
  case targetClose req => exact State.doTargetClose_accInv h req
  case deleteLastBucket => exact State.doDeleteLastBucket_accInv h
  case latchTotals =>
    simp only [bodyOf, State.doLatchTotals]
    split
    · exact h
    · exact h.same rfl rfl rfl
  case readLoadLog => exact State.doReadLoadLog_accInv h
  case clearCounters => exact h.same rfl rfl rfl
  case writeEntry req =>
    obtain ⟨status, hb⟩ | ⟨t, -, off, -, written, hb⟩ := s.doWriteEntry_cases req <;> simp only [bodyOf, hb]
    · exact h
    · exact State.writeTable_accInv h written
  case commit =>
    obtain hb | ⟨-, -, hb⟩ := s.doCommit_cases <;> simp only [bodyOf, hb]
    · exact h
    · exact State.commitAccounts_accInv
        (s := { s with link := _, sig := _, acq := _, time := _, weigh := _, rep := _, mgt := _ }) h
  case softReset => exact s.takeSoftReset_acc ▸ h.same rfl rfl rfl
  all_goals exact absurd changed (of_decide_eq_false rfl)

/-! ### Commands and steps -/

theorem run_accInv (c : Instr) {s : State} (h : s.acc.Inv) : (s.run c).acc.Inv := by
  by_cases changed : Block.acc ∈ changes c
  case neg => exact (run_acc changed s).symm ▸ h
  cases c
  case powerReset straps => exact Accounts.inv_initial
  case characterReceived p c => exact State.receive_accInv (s := s.take _) h p c
  case ingressDown p => exact State.goDown_accInv (s := s.take _) h p
  case transmissionComplete p => exact State.completeTransmission_accInv (s := s.take _) h p
  case releaseLimitExpiry => exact State.expireLimit_accInv (s := s.take _) h
  case pendingLiftNotice => exact State.evalAhead_accInv (s := s.take _) h
  case nextTarget => exact State.nextTarget_accInv (s := s.take _) h
  case selectKey i => exact State.selectKey_accInv (s := s.take _) h i
  case newTarget => exact State.newTarget_accInv (s := s.take _) h
  case closeLoad => exact State.closeLoad_accInv (s := s.take _) h
  case deleteLast => exact State.deleteLast_accInv (s := s.take _) h
  case bucketCredit c => exact State.credit_accInv (s := s.take _) h c
  case dispatchArrival id capacity => exact State.arrive_accInv (s := s.take _) h id capacity
  case dispatchDeparture id => exact State.depart_accInv (s := s.take _) h id
  case accountShiftClose => exact h.same rfl rfl rfl
  case loadDrain => exact State.drain_accInv (s := s.take _) h
  case readTotals | targetOpen | targetSelect | targetClose | deleteLastBucket | latchTotals | readLoadLog
      | clearCounters | writeEntry | commit | softReset =>
    exact run_request_keeps (P := fun s => s.acc.Inv) (fun _ _ h => h) (fun _ _ h => h) rfl rfl
      (fun _ h _ _ => bodyOf_accInv _ h) h
  all_goals exact absurd changed (of_decide_eq_false rfl)

theorem step_accInv {s t : State} (h : s.acc.Inv) (hstep : step s = .next t) : t.acc.Inv :=
  step_keeps (P := fun s => s.acc.Inv) (fun _ _ h => h) (fun _ _ h => h) (fun c _ h => run_accInv c h)
    (fun _ h => h) h hstep

end Sys2Proof.Machine
end

section
/-!
What the operations of load accounting leave in line with the rest of the machine: the parameters, whether the head of
the log is in flight, a log that holds records, and held slots with the state of an evaluation (R148, R162).
-/

namespace Sys2Proof.Machine

open Sys2Proof

/-- A held slot has the state and the overloaded flag of an evaluation (R148). -/
def TargetSlot.Settled (p : AccountRecord) (t : TargetSlot) : Prop := t.held = true → t.evaluate p = t

theorem TargetSlot.settled_evaluate (p : AccountRecord) (t : TargetSlot) : (t.evaluate p).Settled p := fun _ => rfl

theorem TargetSlot.settled_free (p : AccountRecord) : TargetSlot.free.Settled p := nofun

/-- With a full figure above 0 a slot just opened is OPEN (R145, R154). -/
theorem TargetSlot.settled_opened {p : AccountRecord} (h : p.commits = true) (id capacity : Nat) (now : Clock) :
    TargetSlot.Settled p { TargetSlot.free with state := .opened, id := id, capacity := capacity, opened := now } := by
  intro _
  have full : 80 ≤ p.full := by
    simp only [AccountRecord.commits, inRange, Bool.and_eq_true, decide_eq_true_eq] at h
    exact Int.ofNat_le.1 h.1.1
  have state : ¬ (capacity ≠ 0 ∧ (capacity * p.full : Int) ≤ 0 * 100) := by
    rintro ⟨nonzero, reached⟩
    have : 0 < capacity * p.full := Nat.mul_pos (Nat.pos_of_ne_zero nonzero) (by omega)
    omega
  have within : ¬ ((capacity * (100 + p.tolerance) : Int) < 0 * 100) := by
    have : (0 : Int) ≤ capacity * (100 + p.tolerance) := 
      Int.mul_nonneg (Int.natCast_nonneg _) (by omega)
    omega
  refine TargetSlot.mk.injEq .. ▸ ⟨if_neg ?_, rfl, rfl, rfl, rfl, rfl, rfl, rfl, rfl, rfl, rfl, rfl, rfl, ?_⟩
  · rw [TargetSlot.atFull, decide_eq_true_eq]
    exact state
  · exact Bool.and_eq_false_iff.2 (.inr (decide_eq_false within))

/-- What every operation of the block makes of it, but for COMMIT, a table write and the drain. -/
structure Accounts.Moves (a b : Accounts) : Prop where
  params : b.params = a.params
  inFlight : b.log.inFlight = a.log.inFlight
  records : a.log.records ≠ [] → b.log.records ≠ []
  settled : a.params.commits = true → ∀ i, (a.slot i).Settled a.params → (b.slot i).Settled a.params

theorem Accounts.Moves.same {a b : Accounts} (params : b.params = a.params) (log : b.log = a.log)
    (slots : b.slots = a.slots) : a.Moves b where
  params := params
  inFlight := by rw [log]
  records := by rw [log]; exact id
  settled _ i h := by
    rw [show b.slot i = a.slot i by rw [Accounts.slot, slots, Accounts.slot]]
    exact h

theorem Accounts.Moves.refl (a : Accounts) : a.Moves a := .same rfl rfl rfl

theorem Accounts.Moves.trans {a b c : Accounts} (h : a.Moves b) (h' : b.Moves c) : a.Moves c where
  params := h'.params.trans h.params
  inFlight := h'.inFlight.trans h.inFlight
  records := h'.records ∘ h.records
  settled ok i hi := by
    have later := h'.settled (h.params ▸ ok) i
    rw [h.params] at later
    exact later (h.settled ok i hi)

/-- One slot changes to one that an evaluation leaves. -/
theorem Accounts.Moves.setSlot {a : Accounts} {i : Fin 4} {f : TargetSlot → TargetSlot}
    (slot : a.params.commits = true → (f (a.slot i)).Settled a.params) : a.Moves (a.setSlot i f) where
  params := rfl
  inFlight := rfl
  records := id
  settled ok j hj := by
    rw [Accounts.slot_setSlot]
    split
    · exact slot ok
    · exact hj

theorem Accounts.Moves.openSlot (a : Accounts) (i : Fin 4) (id capacity : Nat) (now : Clock) :
    a.Moves (a.openSlot i id capacity now) :=
  .setSlot fun ok => TargetSlot.settled_opened ok id capacity now

theorem State.evalAhead_moves (s : State) : s.acc.Moves s.evalAhead.acc := .same rfl rfl rfl

theorem State.openTarget_moves (i : Fin 4) (id capacity : Nat) (current : Bool) (s : State) :
    s.acc.Moves (s.openTarget i id capacity current).acc := by
  have opened := Accounts.Moves.openSlot s.acc i id capacity s.time.clockValue
  cases current
  · exact opened
  · exact opened.trans (.same rfl rfl rfl)

theorem State.selectTarget_moves (i : Fin 4) (s : State) : s.acc.Moves (s.selectTarget i).acc := by
  unfold State.selectTarget
  split
  · exact .refl _
  · exact .same rfl rfl rfl

theorem State.refuseOpen_moves (s : State) : s.acc.Moves s.refuseOpen.acc := by
  rw [State.refuseOpen, State.setFault_acc]
  exact .same rfl rfl rfl

theorem State.arrive_moves (id capacity : Nat) (s : State) : s.acc.Moves (s.arrive id capacity).acc := by
  unfold State.arrive
  split
  next i _ =>
    have changed : s.acc.Moves ((s.acc.select i).setSlot i fun t =>
        TargetSlot.evaluate (s.acc.select i).params { t with capacity := capacity }) :=
      .trans (b := s.acc.select i) (.same rfl rfl rfl) (.setSlot fun _ => TargetSlot.settled_evaluate _ _)
    refine Accounts.Moves.trans (b := if capacityChanges (s.acc.slot i) capacity then
      (s.acc.select i).setSlot i fun t => TargetSlot.evaluate (s.acc.select i).params { t with capacity := capacity }
      else s.acc.select i) ?_ (.same rfl rfl rfl)
    split
    · exact changed
    · exact .same rfl rfl rfl
  · split
    · exact State.openTarget_moves _ _ _ _ s
    · exact State.refuseOpen_moves s

theorem State.unallocated_moves (c : Credit) (s : State) : s.acc.Moves (s.unallocated c).acc := by
  unfold State.unallocated
  rw [State.hand_acc, State.setFault_acc]
  exact .same rfl rfl rfl

theorem State.creditSlot_moves (i : Fin 4) (opening : Bool) (c : Credit) (s : State) :
    s.acc.Moves (s.creditSlot i opening c).acc := by
  have credited : ∀ a : Accounts, a.Moves (a.setSlot i fun t =>
      (t.fold.append (creditEntry c s.acc.shift) s.time.clockValue).evaluate a.params) :=
    fun a => .setSlot fun _ => TargetSlot.settled_evaluate _ _
  cases opening
  · exact (credited s.acc).trans (.same rfl rfl rfl)
  · have opened : s.acc.Moves ((s.acc.openSlot i 0 0 s.time.clockValue).select i) :=
      (Accounts.Moves.openSlot s.acc i 0 0 s.time.clockValue).trans (.same rfl rfl rfl)
    exact opened.trans ((credited _).trans (.same rfl rfl rfl))

theorem State.credit_moves (c : Credit) (s : State) : s.acc.Moves (s.credit c).acc := by
  unfold State.credit
  split
  · split
    · exact State.unallocated_moves c s
    · exact State.creditSlot_moves _ _ c s
  · split
    · exact State.creditSlot_moves _ _ c s
    · exact State.unallocated_moves c s

theorem State.removeBucket_moves (i : Fin 4) (e : BucketEntry) (s : State) : s.acc.Moves (s.removeBucket i e).acc :=
  .trans (b := s.acc.setSlot i fun t => (t.removeLast e).evaluate s.acc.params)
    (.setSlot fun _ => TargetSlot.settled_evaluate _ _) (.same rfl rfl rfl)

theorem LoadLog.takeSequence_inFlight (log : LoadLog) : log.takeSequence.inFlight = log.inFlight := by
  unfold LoadLog.takeSequence
  split
  · rfl
  · split <;> rfl

theorem State.offerLoad_moves (r : LoadRecord) (s : State) : s.acc.Moves (s.offerLoad r).acc := by
  have slots : ∀ log : LoadLog, log.inFlight = s.acc.log.inFlight → (s.acc.log.records ≠ [] → log.records ≠ []) →
      s.acc.Moves { s.acc with log := log } :=
    fun log inFlight records => ⟨rfl, inFlight, records, fun _ _ h => h⟩
  unfold State.offerLoad
  split
  · exact slots _ (LoadLog.takeSequence_inFlight _) (by simp)
  · rw [State.setFault_acc]
    refine slots _ (LoadLog.takeSequence_inFlight _) ?_
    rw [show ∀ n, LoadLog.records { s.acc.log.takeSequence with missed := n } = s.acc.log.takeSequence.records from
      fun _ => rfl, LoadLog.takeSequence_records]
    exact id

theorem State.recordLoad_moves (i : Fin 4) (cause : CloseCause) (s : State) :
    s.acc.Moves (s.recordLoad i cause).acc := by
  unfold State.recordLoad
  dsimp only
  split
  · exact .refl _
  · exact (State.offerLoad_moves _ s).trans (.same rfl rfl rfl)

theorem Accounts.Moves.freeSlot (a : Accounts) (i : Fin 4) : a.Moves (a.freeSlot i) := by
  have freed : a.Moves (a.setSlot i fun _ => TargetSlot.free) := .setSlot fun _ => TargetSlot.settled_free _
  unfold Accounts.freeSlot
  dsimp only
  split
  · exact freed.trans (.same rfl rfl rfl)
  · exact freed

theorem State.closeSlot_moves (i : Fin 4) (cause : CloseCause) (s : State) : s.acc.Moves (s.closeSlot i cause).acc :=
  ((State.recordLoad_moves i cause s).trans (.freeSlot _ i)).trans
    (.same rfl rfl rfl)

theorem State.nextTarget_moves (s : State) : s.acc.Moves s.nextTarget.acc := by
  unfold State.nextTarget
  split
  · exact State.selectTarget_moves _ s
  · exact .refl _

theorem State.selectKey_moves (i : Fin 4) (s : State) : s.acc.Moves (s.selectKey i).acc := by
  unfold State.selectKey
  split
  · exact State.selectTarget_moves _ s
  · exact .refl _

theorem State.newTarget_moves (s : State) : s.acc.Moves s.newTarget.acc := by
  unfold State.newTarget
  split
  · exact State.openTarget_moves _ _ _ _ s
  · exact State.refuseOpen_moves s

theorem State.deleteLast_moves (s : State) : s.acc.Moves s.deleteLast.acc := by
  unfold State.deleteLast
  split
  · exact State.removeBucket_moves _ _ s
  · exact .refl _

theorem State.closeLoad_moves (s : State) : s.acc.Moves s.closeLoad.acc := by
  unfold State.closeLoad
  split
  · exact State.closeSlot_moves _ _ s
  · exact .refl _

theorem State.depart_moves (id : Nat) (s : State) : s.acc.Moves (s.depart id).acc := by
  unfold State.depart
  split
  · exact State.closeSlot_moves _ _ s
  · exact .same rfl rfl rfl

/-! ### COMMIT -/

theorem State.commitSlot_acc (s : State) (i : Fin 4) : (s.commitSlot i).acc =
    if (s.acc.slot i).held then s.acc.setSlot i fun t => t.evaluate s.acc.params else s.acc := by
  unfold State.commitSlot
  dsimp only
  split
  · split <;> rfl
  · rfl

theorem State.commitSlot_params (s : State) (i : Fin 4) : (s.commitSlot i).acc.params = s.acc.params := by
  rw [State.commitSlot_acc]
  split <;> rfl

theorem State.commitSlot_log (s : State) (i : Fin 4) : (s.commitSlot i).acc.log = s.acc.log := by
  rw [State.commitSlot_acc]
  split <;> rfl

/-- The evaluation of one held slot (R167). -/
def Accounts.committed (a : Accounts) (i : Fin 4) : TargetSlot :=
  if (a.slot i).held then (a.slot i).evaluate a.params else a.slot i

theorem State.commitSlot_slot (s : State) (i j : Fin 4) :
    (s.commitSlot i).acc.slot j = if j = i then s.acc.committed i else s.acc.slot j := by
  rw [State.commitSlot_acc, Accounts.committed]
  split
  next => rw [Accounts.slot_setSlot]
  next =>
    split
    next same => rw [same]
    next => rfl

theorem State.foldl_commitSlot (is : List (Fin 4)) (distinct : is.Nodup) (s : State) :
    (is.foldl State.commitSlot s).acc.params = s.acc.params ∧ (is.foldl State.commitSlot s).acc.log = s.acc.log ∧
      ∀ j, (is.foldl State.commitSlot s).acc.slot j = if j ∈ is then s.acc.committed j else s.acc.slot j := by
  induction is generalizing s with
  | nil => exact ⟨rfl, rfl, fun j => rfl⟩
  | cons i is ih =>
    obtain ⟨fresh, distinct⟩ := List.nodup_cons.1 distinct
    obtain ⟨params, log, slots⟩ := ih distinct (s.commitSlot i)
    refine ⟨params.trans (s.commitSlot_params i), log.trans (s.commitSlot_log i), fun j => ?_⟩
    rw [List.foldl_cons, slots, Accounts.committed, s.commitSlot_params, State.commitSlot_slot]
    by_cases same : j = i
    · simp [same, fresh]
    · simp [same, Accounts.committed]

/-- A successful COMMIT keeps the parameters and the log, and evaluates every held slot (R167). -/
theorem State.commitAccounts_evaluates (s : State) :
    s.commitAccounts.acc.params = s.acc.params ∧ s.commitAccounts.acc.log = s.acc.log ∧
      ∀ i, s.commitAccounts.acc.slot i = s.acc.committed i := by
  obtain ⟨params, log, slots⟩ := State.foldl_commitSlot allSlots (by decide) s
  have ahead : ∀ u : State, u.evalAhead.acc.params = u.acc.params ∧ u.evalAhead.acc.log = u.acc.log ∧
      ∀ i, u.evalAhead.acc.slot i = u.acc.slot i := fun _ => ⟨rfl, rfl, fun _ => rfl⟩
  obtain ⟨params', log', slots'⟩ := ahead (allSlots.foldl State.commitSlot s)
  refine ⟨params'.trans params, log'.trans log, fun i => (slots' i).trans ((slots i).trans (if_pos ?_))⟩
  revert i
  decide

end Sys2Proof.Machine
end

section
/-!
The drain record (R162, R179, R180): what the end of a LOAD copy makes of it, what RELEASE's end makes of it, and what a
drain attempt queues.
-/

namespace Sys2Proof.Machine

open Sys2Proof

/-! ### LOAD reports in an originate queue -/

theorem loadReports_append (q : List OrigEntry) (e : OrigEntry) :
    loadReports (q ++ [e]) = loadReports q + if e.kind = .loadReport then 1 else 0 := by
  by_cases h : e.kind = .loadReport <;> simp [loadReports, h]

theorem loadReports_eraseIdx {q : List OrigEntry} {i : Nat} {e : OrigEntry} (h : q[i]? = some e) :
    loadReports q = loadReports (q.eraseIdx i) + if e.kind = .loadReport then 1 else 0 := by
  obtain ⟨within, rfl⟩ := List.getElem?_eq_some_iff.1 h
  have cut : q = q.take i ++ q[i] :: q.drop (i + 1) := by
    rw [← List.drop_eq_getElem_cons within, List.take_append_drop]
  rw [List.eraseIdx_eq_take_drop_succ]
  calc loadReports q = loadReports (q.take i ++ q[i] :: q.drop (i + 1)) := congrArg loadReports cut
    _ = loadReports (q.take i ++ q.drop (i + 1)) + if q[i].kind = .loadReport then 1 else 0 := by
      simp only [loadReports, List.countP_append, List.countP_cons, beq_iff_eq]
      omega

theorem holdsLoad_iff (q : List OrigEntry) : holdsLoad q = true ↔ loadReports q ≠ 0 := by
  simp [holdsLoad, loadReports, List.countP_eq_zero]

/-! ### What leaves the drain record as it was -/

/-- Nothing that `State.DrainInv` speaks of changed. -/
structure State.DrainKept (s t : State) : Prop where
  loads : ∀ p, loadReports (t.link.origQ.get p) = loadReports (s.link.origQ.get p)
  drain : t.rep.drain = s.rep.drain
  inFlight : t.acc.log.inFlight = s.acc.log.inFlight
  records : s.acc.log.inFlight = true → s.acc.log.records ≠ [] → t.acc.log.records ≠ []

theorem State.DrainKept.of_same {s t : State} (origQ : t.link.origQ = s.link.origQ) (drain : t.rep.drain = s.rep.drain)
    (log : t.acc.log = s.acc.log) : s.DrainKept t where
  loads _ := by rw [origQ]
  drain := drain
  inFlight := by rw [log]
  records _ := by rw [log]; exact id

theorem State.DrainKept.trans {s t u : State} (h : s.DrainKept t) (h' : t.DrainKept u) : s.DrainKept u where
  loads p := (h'.loads p).trans (h.loads p)
  drain := h'.drain.trans h.drain
  inFlight := h'.inFlight.trans h.inFlight
  records flying := h'.records (h.inFlight.trans flying) ∘ h.records flying

theorem State.DrainInv.kept {s t : State} (h : s.DrainInv) (k : s.DrainKept t) : t.DrainInv where
  copies p := by
    unfold State.copyStands
    rw [k.loads, k.drain]
    exact h.copies p
  inFlight := by
    rw [k.inFlight, k.drain]
    exact h.inFlight
  ended := by
    rw [k.drain]
    exact h.ended
  head flying := k.records (k.inFlight ▸ flying) (h.head (k.inFlight ▸ flying))

theorem State.DrainInv.queued_iff {s : State} (h : s.DrainInv) (p : Port) :
    s.rep.drain.get p = .queued ↔ loadReports (s.link.origQ.get p) ≠ 0 := by
  rw [h.copies p]
  split
  next queued => simp [queued]
  next other => simp [other]

/-- No copy is queued: no port's record says anything. -/
theorem State.DrainInv.absent {s : State} (h : s.DrainInv) (none : ∀ p, s.rep.drain.get p ≠ .queued) :
    s.rep.drain = ⟨.absent, .absent⟩ := by
  refine PerPort.ext_get fun p => ?_
  have ended := mt (h.ended p) (none _)
  have queued := none p
  rw [show PerPort.get ⟨CopyState.absent, .absent⟩ p = .absent by cases p <;> rfl]
  cases hd : s.rep.drain.get p <;> simp_all

/-! ### The end of a copy (R180) -/

theorem State.endCopy_waits {p : Port} {how : CopyState} {s : State} (other : s.rep.drain.get (otherPort p) = .queued) :
    s.endCopy p how = { s with rep := { s.rep with drain := s.rep.drain.set p how } } := by
  cases p <;> exact if_pos (by first | exact .inr other | exact .inl other)

theorem State.endCopy_resolves {p : Port} {how : CopyState} {s : State} (ended : how ≠ .queued)
    (other : s.rep.drain.get (otherPort p) ≠ .queued) :
    s.endCopy p how =
      { s with
        rep := { s.rep with drain := ⟨.absent, .absent⟩ }
        acc := { s.acc with log := { s.acc.log with
          records := if how = .discarded ∨ s.rep.drain.get (otherPort p) = .discarded then s.acc.log.records
            else s.acc.log.records.tail
          inFlight := false } }
        handed := s.handed ++ [.loadDrain] } := by
  have resolves : s.endCopy p how =
      (s.onRep fun r => { r with drain := r.drain.set p how }).resolveCopies := by
    cases p
    · exact if_neg (not_or.2 ⟨ended, other⟩)
    · exact if_neg (not_or.2 ⟨other, ended⟩)
  have lost : ((s.rep.drain.set p how).mp == .discarded || (s.rep.drain.set p how).dp == .discarded) = true ↔
      how = .discarded ∨ s.rep.drain.get (otherPort p) = .discarded := by
    cases p
    · simp [PerPort.set, PerPort.get, otherPort]
    · simp [PerPort.set, PerPort.get, otherPort, or_comm]
  rw [resolves]
  unfold State.resolveCopies
  by_cases h : how = .discarded ∨ s.rep.drain.get (otherPort p) = .discarded
  · simp only [State.onRep, State.onAcc, State.hand, lost.2 h, h, if_true]
    rfl
  · simp only [State.onRep, State.onAcc, State.hand, eq_false_of_ne_true (mt lost.1 h), h, if_false]
    rw [← List.drop_one]
    rfl

/-- The copy at a port ends once its report has left the queue. -/
theorem State.endCopy_drainInv {p : Port} {how : CopyState} {s : State} (ended : how ≠ .queued)
    (left : loadReports (s.link.origQ.get p) = 0) (other : s.copyStands (otherPort p))
    (flying : s.acc.log.inFlight = true) (head : s.acc.log.records ≠ []) : (s.endCopy p how).DrainInv := by
  by_cases queued : s.rep.drain.get (otherPort p) = .queued
  · rw [State.endCopy_waits queued]
    unfold State.copyStands at other
    refine ⟨fun q => ?_, ?_, fun q => ?_, fun _ => head⟩
    · unfold State.copyStands
      cases p <;> cases q <;> simp_all [PerPort.set, PerPort.get, otherPort]
    · refine ⟨fun _ => ⟨otherPort p, ?_⟩, fun _ => flying⟩
      cases p <;> exact queued
    · cases p <;> cases q <;> simp_all [PerPort.set, PerPort.get, otherPort]
  · rw [State.endCopy_resolves ended queued]
    rw [State.copyStands, if_neg queued] at other
    refine ⟨fun q => ?_, ⟨nofun, fun ⟨q, hq⟩ => ?_⟩, fun q hq => ?_, nofun⟩
    · unfold State.copyStands
      cases p <;> cases q <;> first | exact left | exact other
    · cases q <;> cases hq
    · cases q <;> obtain hq | hq := hq <;> cases hq

/-! ### The end of RELEASE (R21, R22) -/

/-- RELEASE's end leaves no copy, takes no record out of the log, and nothing is in flight. -/
theorem State.closeContacts_clears {s : State} (h : s.DrainInv) :
    s.closeContacts.rep = { s.rep with drain := ⟨.absent, .absent⟩ } ∧
      s.closeContacts.acc = { s.acc with log := { s.acc.log with inFlight := false } } := by
  have holds : ∀ p, holdsLoad (s.link.origQ.get p) = true ↔ s.rep.drain.get p = .queued := fun p =>
    (holdsLoad_iff _).trans (h.queued_iff p).symm
  have mp := holds .mp
  have dp := holds .dp
  simp only [PerPort.get] at mp dp
  unfold State.closeContacts State.flushCopy
  dsimp only
  by_cases qm : s.rep.drain.mp = .queued <;> by_cases qd : s.rep.drain.dp = .queued
  · rw [if_pos (mp.2 qm), if_pos (dp.2 qd), State.endCopy_waits (p := .mp) (s := s.onLink Link.close) qd,
      State.endCopy_resolves (by decide) (p := .dp) (by simp [PerPort.set, PerPort.get, otherPort])]
    simp [State.onLink]
  · rw [if_pos (mp.2 qm), if_neg (mt dp.1 qd), State.endCopy_resolves (by decide) (p := .mp)
      (s := s.onLink Link.close) qd]
    simp [State.onLink]
  · rw [if_neg (mt mp.1 qm), if_pos (dp.2 qd), State.endCopy_resolves (by decide) (p := .dp)
      (s := s.onLink Link.close) qm]
    simp [State.onLink]
  · rw [if_neg (mt mp.1 qm), if_neg (mt dp.1 qd)]
    have none : ∀ p, s.rep.drain.get p ≠ .queued := fun p => by cases p <;> assumption
    have landed : s.acc.log.inFlight = false :=
      eq_false_of_ne_true fun flying => (h.inFlight.1 flying).elim fun p hp => none p hp
    exact ⟨by rw [← h.absent none]; rfl, by rw [← landed]; rfl⟩

theorem State.closeContacts_drainInv {s : State} (h : s.DrainInv) : s.closeContacts.DrainInv := by
  obtain ⟨rep, acc⟩ := State.closeContacts_clears h
  refine ⟨fun p => ?_, ?_, fun p hp => ?_, fun flying => ?_⟩
  · unfold State.copyStands
    rw [State.closeContacts_link, rep]
    cases p <;> rfl
  · rw [acc, rep]
    exact ⟨nofun, fun ⟨p, hp⟩ => by cases p <;> cases hp⟩
  · rw [rep] at hp
    cases p <;> obtain hp | hp := hp <;> cases hp
  · rw [acc] at flying
    cases flying

theorem State.releaseTest_drainInv {s : State} (h : s.DrainInv) : s.releaseTest.DrainInv := by
  unfold State.releaseTest
  split
  · exact State.closeContacts_drainInv h
  · exact h

/-! ### The link unit -/

theorem Link.count_origQ (l : Link) (p : Port) (f : LinkCounters → LinkCounters) : (l.count p f).origQ = l.origQ := rfl

theorem Link.takeoverTest_origQ (l : Link) : l.takeoverTest.origQ = l.origQ := by
  unfold Link.takeoverTest
  split <;> rfl

theorem State.offerRelay_origQ (p : Port) (e : RelayEntry) (s : State) :
    (s.offerRelay p e).link.origQ = s.link.origQ := by
  unfold State.offerRelay
  dsimp only
  split
  · rfl
  · rw [State.setFault_link]
    rfl

theorem State.dispose_origQ (p : Port) (frame : List Byte) (s : State) :
    (s.dispose p frame).link.origQ = s.link.origQ := by
  unfold State.dispose State.divert
  split
  · split <;> rfl
  · split
    · exact State.offerRelay_origQ ..
    · split
      · dsimp only
        split
        · rw [State.matchFrame_link]
        · rw [State.offerRelay_origQ, State.matchFrame_link]
      · exact State.offerRelay_origQ ..

theorem State.acceptClosed_origQ (p : Port) (c : Option ClosedFrame) (s : State) :
    (s.acceptClosed p c).link.origQ = s.link.origQ := by
  cases c with
  | none => rfl
  | some c =>
    simp only [State.acceptClosed, State.accept]
    split
    · split
      · exact State.dispose_origQ ..
      · exact State.offerRelay_origQ ..
    · rfl

theorem State.advance_origQ (p : Port) (x : IngressStep) (run : Nat) (s : State) :
    (s.advance p x run).link.origQ = s.link.origQ := by
  unfold State.advance State.countHunt
  split <;> rfl

theorem State.spaceTest_origQ (c : Character) (s : State) : (s.spaceTest c).link.origQ = s.link.origQ := by
  unfold State.spaceTest
  split
  · exact Link.takeoverTest_origQ _
  · rfl

theorem State.receive_drainInv {s : State} (h : s.DrainInv) (p : Port) (c : Character) : (s.receive p c).DrainInv := by
  unfold State.receive
  dsimp only
  refine State.releaseTest_drainInv (h.kept (.of_same ?_ ?_ ?_))
  · rw [State.spaceTest_origQ, State.acceptClosed_origQ, State.advance_origQ]
  · rw [State.spaceTest_frame, State.acceptClosed_frame, State.advance_frame]
  · rw [State.spaceTest_frame, State.acceptClosed_frame, State.advance_frame]

theorem State.goDown_drainInv {s : State} (h : s.DrainInv) (p : Port) : (s.goDown p).DrainInv := by
  unfold State.goDown
  dsimp only
  split
  · refine State.releaseTest_drainInv (h.kept (.of_same ?_ ?_ ?_))
    · rw [State.onLink_link, Link.takeoverTest_origQ, State.setFault_link]
      rfl
    · rw [State.onLink_rep, State.setFault_frame]
      rfl
    · rw [State.onLink_acc, State.setFault_frame]
      rfl
  · exact h

theorem State.expireLimit_drainInv {s : State} (h : s.DrainInv) : s.expireLimit.DrainInv := by
  unfold State.expireLimit
  split
  · exact State.releaseTest_drainInv (h.kept (.of_same rfl rfl rfl))
  · exact h

theorem Link.arbiterStart_origQ (l : Link) (p : Port) : (l.arbiterStart p).origQ = l.origQ := by
  unfold Link.arbiterStart
  split
  · split
    · rfl
    · split <;> rfl
  · rfl

/-- An entry that leaves an originate queue ends its copy if it is a LOAD report (R14, R180). -/
theorem State.signalSent_drainInv {s : State} (h : s.DrainInv) (p : Port) (src : TxSource) :
    ((s.onLink fun l => (l.removeSent p src).freeTransmitter p).signalSent p (s.link.sentKind p src)).DrainInv := by
  cases src with
  | relay => exact h.kept (.of_same rfl rfl rfl)
  | originate i =>
    simp only [Link.sentKind]
    cases entry : (s.link.origQ.get p)[i]? with
    | none =>
      refine h.kept (.of_same ?_ rfl rfl)
      change s.link.origQ.set p ((s.link.origQ.get p).eraseIdx i) = _
      rw [List.eraseIdx_of_length_le (List.getElem?_eq_none_iff.1 entry), PerPort.set_get]
    | some e =>
      have count := loadReports_eraseIdx entry
      have origQ : ∀ q, (s.link.origQ.set p ((s.link.origQ.get p).eraseIdx i)).get q =
          if q = p then (s.link.origQ.get p).eraseIdx i else s.link.origQ.get q := fun q => PerPort.get_set ..
      simp only [Option.map_some, State.signalSent, State.sentOriginate]
      split
      next load =>
        rw [if_pos load] at count
        have queued : s.rep.drain.get p = .queued := (h.queued_iff p).2 (by omega)
        have one : loadReports (s.link.origQ.get p) = 1 := (h.copies p).trans (if_pos queued)
        have flying : s.acc.log.inFlight = true := h.inFlight.2 ⟨p, queued⟩
        refine State.DrainInv.kept
          (s := (s.onLink fun l => (l.removeSent p (.originate i)).freeTransmitter p).endCopy p .completed)
          (State.endCopy_drainInv (by decide) ?_ ?_ flying (h.head flying)) (.of_same rfl rfl rfl)
        · change loadReports ((s.link.origQ.set p _).get p) = 0
          rw [origQ, if_pos rfl]
          omega
        · change loadReports ((s.link.origQ.set p _).get (otherPort p)) = _
          rw [origQ, if_neg (by cases p <;> decide)]
          exact h.copies (otherPort p)
      next other =>
        refine h.kept ⟨fun q => ?_, rfl, rfl, fun _ => id⟩
        change loadReports ((s.link.origQ.set p _).get q) = _
        rw [origQ]
        split
        next same =>
          rw [if_neg other] at count
          exact same ▸ count.symm
        next => rfl

theorem State.completeTransmission_drainInv {s : State} (h : s.DrainInv) (p : Port) :
    (s.completeTransmission p).DrainInv := by
  unfold State.completeTransmission
  split
  · exact h
  · split
    · exact State.releaseTest_drainInv (State.signalSent_drainInv h p _)
    · exact h

/-! ### Reports -/

theorem State.joinReport_kept {kind : OrigKind} (report : kind ≠ .loadReport) (p : Port) (k : ReportKind)
    (contents : List Byte) (s : State) : s.DrainKept (s.joinReport p kind k contents) := by
  refine ⟨fun q => ?_, rfl, rfl, fun _ => id⟩
  rw [State.joinReport_eq, PerPort.get_set]
  split
  next same => rw [loadReports_append, if_neg report, same]; rfl
  next => rfl

theorem State.setFault_kept (x : FaultFlag) (s : State) : s.DrainKept (s.setFault x) := by
  rw [State.setFault_frame]
  exact .of_same rfl rfl rfl

theorem State.offerReport_kept (k : ReportKind) (contents : List Byte) (s : State) (p : Port) :
    s.DrainKept (s.offerReport k contents p) := by
  unfold State.offerReport
  split
  · exact State.joinReport_kept (by decide) p k contents s
  · exact State.setFault_kept _ s

theorem State.sendReport_kept (k : ReportKind) (contents : List Byte) (s : State) :
    s.DrainKept (s.sendReport k contents) :=
  foldl_keeps (P := s.DrainKept) (fun u p hu => hu.trans (State.offerReport_kept k contents u p)) _
    (.of_same rfl rfl rfl)

theorem State.offerStatus_kept (fields : Vector (Option Int) 8) (s : State) (p : Port) :
    s.DrainKept (s.offerStatus fields p) := by
  unfold State.offerStatus
  dsimp only
  split
  · exact (State.joinReport_kept (by decide) p _ _ s).trans (.of_same rfl rfl rfl)
  · exact State.setFault_kept _ s

theorem State.sendStatus_kept (s : State) : s.DrainKept s.sendStatus :=
  foldl_keeps (P := s.DrainKept) (fun u p hu => hu.trans (State.offerStatus_kept _ u p)) _ (.of_same rfl rfl rfl)

theorem State.raiseShift_kept (a : Assembly) (s : State) : s.DrainKept (s.raiseShift a) :=
  (State.sendReport_kept _ _ s).trans (.of_same rfl rfl rfl)

theorem State.arriveShift_kept (n : Word16) (part : ShiftPart) (s : State) : s.DrainKept (s.arriveShift n part) := by
  have same : ∀ u : State, u.DrainKept u := fun _ => .of_same rfl rfl rfl
  have flushed : s.DrainKept (s.flushAssembly n) := by
    unfold State.flushAssembly
    split
    · split
      · exact same s
      · exact State.raiseShift_kept _ s
    · exact same s
  unfold State.arriveShift
  split
  · exact same s
  · dsimp only
    split
    · exact flushed.trans (State.raiseShift_kept _ _)
    · exact flushed.trans (.of_same rfl rfl rfl)

/-! ### The drain attempt (R179) -/

/-- What the copies of one LOAD report make of the ports they join. -/
theorem foldl_queueCopy_port (r : LoadRecord) (ps : List Port) (distinct : ps.Nodup) (s : State) (p : Port) :
    let t := ps.foldl (State.queueCopy r) s
    t.link.origQ.get p =
      (if p ∈ ps then s.link.origQ.get p ++ [⟨.loadReport, s.reportFrame p .load (loadRecord r)⟩]
        else s.link.origQ.get p) ∧
      t.rep.drain.get p = (if p ∈ ps then .queued else s.rep.drain.get p) ∧
      t.rep.tags.get p = (if p ∈ ps then s.rep.tags.get p + 1 else s.rep.tags.get p) := by
  induction ps generalizing s with
  | nil => exact ⟨rfl, rfl, rfl⟩
  | cons q ps ih =>
    obtain ⟨fresh, distinct⟩ := List.nodup_cons.1 distinct
    obtain ⟨queue, drain, tags⟩ := ih distinct (s.queueCopy r q)
    have queue' : (s.queueCopy r q).link.origQ.get p =
        if p = q then s.link.origQ.get q ++ [⟨.loadReport, s.reportFrame q .load (loadRecord r)⟩]
        else s.link.origQ.get p := PerPort.get_set ..
    have drain' : (s.queueCopy r q).rep.drain.get p = if p = q then .queued else s.rep.drain.get p := PerPort.get_set ..
    have tags' : (s.queueCopy r q).rep.tags.get p = if p = q then s.rep.tags.get q + 1 else s.rep.tags.get p :=
      PerPort.get_set ..
    simp only [List.foldl_cons, queue, drain, tags, queue', drain', tags', State.reportFrame]
    by_cases same : p = q
    · subst same
      simp [fresh]
    · simp only [List.mem_cons, same, false_or, if_false, and_true]
      rfl

theorem State.canDrain_iff (s : State) : s.canDrain = true ↔
    s.rep.route .load ≠ .off ∧ s.rep.drain = ⟨.absent, .absent⟩ ∧ s.acc.log.records ≠ [] ∧
      s.acc.log.inFlight = false ∧ ∀ p, s.routes .load p → s.roomFor p := by
  have drain : s.rep.drain.mp = .absent ∧ s.rep.drain.dp = .absent ↔ s.rep.drain = ⟨.absent, .absent⟩ := by
    cases s.rep.drain
    simp
  simp only [State.canDrain, Bool.and_eq_true, bne_iff_ne, beq_iff_eq, Bool.not_eq_true', List.all_eq_true,
    State.routes_iff, State.hasRoom_iff, List.isEmpty_eq_false_iff, ← drain, and_assoc, ne_eq]

theorem State.drain_drainInv {s : State} (h : s.DrainInv) : s.drain.DrainInv := by
  unfold State.drain
  split
  next can =>
    obtain ⟨routed, absent, records, landed, -⟩ := s.canDrain_iff.1 can
    have none : ∀ p, s.rep.drain.get p = .absent := by
      rw [absent]
      exact fun p => by cases p <;> rfl
    have empty : ∀ p, loadReports (s.link.origQ.get p) = 0 := fun p => by
      have := h.copies p
      rwa [State.copyStands, none p] at this
    split
    next => exact h
    next r _ _ =>
      obtain ⟨p₀, hp₀⟩ : ∃ p, p ∈ routePorts (s.rep.route .load) := by
        cases hr : s.rep.route .load
        · exact absurd hr routed
        all_goals simp [routePorts]
      have ports := foldl_queueCopy_port r _ (routePorts_nodup (s.rep.route .load))
        (s.onAcc fun a => { a with log := { a.log with inFlight := true } })
      have acc := congrArg State.acc (State.foldl_queueCopy_frame r (routePorts (s.rep.route .load))
        (s.onAcc fun a => { a with log := { a.log with inFlight := true } }))
      refine ⟨fun p => ?_, ?_, fun p hp => ?_, fun _ => acc ▸ records⟩
      · obtain ⟨queue, drain, -⟩ := ports p
        unfold State.copyStands
        rw [queue, drain]
        split
        · rw [loadReports_append]
          exact congrArg (· + 1) (empty p)
        · rw [State.onAcc_rep, none p]
          exact empty p
      · obtain ⟨-, drain, -⟩ := ports p₀
        rw [if_pos hp₀] at drain
        exact ⟨fun _ => ⟨p₀, drain⟩, fun _ => acc ▸ rfl⟩
      · obtain ⟨-, drain, -⟩ := ports p
        rw [drain, State.onAcc_rep, none p] at hp
        split at hp <;> obtain hp | hp := hp <;> cases hp
  next => exact h

end Sys2Proof.Machine
end

section
/-!
The management block under the ordinary commands: fault flags are set and never cleared, and nothing else of the block
changes (R177, R191). Settles O19.
-/

namespace Sys2Proof.Machine

open Sys2Proof

theorem faultIndex_lt (f : FaultFlag) : faultIndex f < 13 := by cases f <;> decide

theorem faultIndex_inj {f g : FaultFlag} : faultIndex f = faultIndex g ↔ f = g := by
  refine ⟨fun h => ?_, congrArg _⟩
  cases f <;> cases g <;> first | rfl | exact absurd h (by decide)

theorem hasFault_addFault (set : FaultSet) (f g : FaultFlag) :
    hasFault (addFault set f) g = true ↔ g = f ∨ hasFault set g = true := by
  have bit : (addFault set f).getLsbD (faultIndex g) = (set.getLsbD (faultIndex g) || decide
    (faultIndex g = faultIndex f)) := by
    simp [addFault, faultIndex_lt]
  rw [hasFault, bit, Bool.or_eq_true, decide_eq_true_eq, faultIndex_inj, or_comm]
  rfl

/-- Fault flags were set, none cleared, and nothing else of the management block changed. -/
structure State.Raises (s t : State) : Prop where
  frame : t.mgt = { s.mgt with faults := t.mgt.faults }
  faults : ∀ f, hasFault s.mgt.faults f = true → hasFault t.mgt.faults f = true

theorem State.Raises.of_eq {s t : State} (h : t.mgt = s.mgt) : s.Raises t :=
  ⟨by rw [h], fun _ hf => by rw [h]; exact hf⟩

theorem State.Raises.trans {s t u : State} (h : s.Raises t) (h' : t.Raises u) : s.Raises u where
  frame := by rw [h'.frame, h.frame]
  faults f := h'.faults f ∘ h.faults f

/-- What came before touched nothing of the block. -/
theorem State.Raises.after {s t u : State} (h : t.Raises u) (same : t.mgt = s.mgt) : s.Raises u :=
  .trans (.of_eq same) h

/-- What comes after touches nothing of the block. -/
theorem State.Raises.before {s t u : State} (h : s.Raises t) (same : u.mgt = t.mgt) : s.Raises u :=
  h.trans (.of_eq same)

theorem State.Raises.hand {s t : State} (h : s.Raises t) (cs : List Instr) : s.Raises (t.hand cs) := h.before rfl

theorem State.Raises.config {s t : State} (h : s.Raises t) : t.mgt.config = s.mgt.config := by rw [h.frame]

theorem State.setFault_raises (x : FaultFlag) (s : State) : s.Raises (s.setFault x) := by
  unfold State.setFault
  split
  · exact .of_eq rfl
  · exact ⟨rfl, fun f hf => (hasFault_addFault ..).2 (.inr hf)⟩

/-- A list of operations that each raise flags. -/
theorem foldl_raises {α : Type} {f : State → α → State} (raises : ∀ (s : State) a, s.Raises (f s a)) (as : List α)
    (s : State) :
    s.Raises (as.foldl f s) :=
  foldl_keeps (P := s.Raises) (fun u a hu => hu.trans (raises u a)) as (.of_eq rfl)

/-! ### Link and signals -/

theorem State.offerRelay_raises (p : Port) (e : RelayEntry) (s : State) : s.Raises (s.offerRelay p e) := by
  unfold State.offerRelay
  dsimp only
  split
  · exact .of_eq rfl
  · exact Raises.after (State.setFault_raises _ _) rfl

theorem applyOverlay_raises (e : OverlayEntry) (x : State × List Byte) : x.1.Raises (applyOverlay e x).1 := by
  unfold applyOverlay
  split
  · exact State.setFault_raises _ _
  · split <;> exact .of_eq rfl

theorem overlayPage_raises (set : Nat) (frame : List Byte) (s : State) : s.Raises (overlayPage set frame s).1 :=
  foldl_keeps (P := fun x : State × List Byte => s.Raises x.1) (fun x e hx => hx.trans (applyOverlay_raises e x)) _
    (.of_eq rfl)

theorem State.matchFrame_raises (p : Port) (frame : List Byte) (s : State) : s.Raises (s.matchFrame p frame).1 := by
  have written : ∀ (c : Signals → MatcherCounters) ws,
      ((s.onSig fun g => { g with counters := c g }).writeSlots ws).mgt = s.mgt :=
    fun c ws => by rw [State.writeSlots_frame]; rfl
  unfold State.matchFrame
  dsimp only
  split
  · split
    · exact .of_eq (written _ _)
    · exact Raises.hand (Raises.after (overlayPage_raises _ _ _) (written _ _)) _
  · exact .of_eq (written _ _)

theorem State.dispose_raises (p : Port) (frame : List Byte) (s : State) : s.Raises (s.dispose p frame) := by
  unfold State.dispose State.divert
  split
  · split <;> exact .of_eq rfl
  · split
    · exact State.offerRelay_raises ..
    · split
      · dsimp only
        split
        · exact State.matchFrame_raises ..
        · exact (State.matchFrame_raises ..).trans (State.offerRelay_raises ..)
      · exact State.offerRelay_raises ..

theorem State.acceptClosed_raises (p : Port) (c : Option ClosedFrame) (s : State) : s.Raises (s.acceptClosed p c) := by
  cases c with
  | none => exact .of_eq rfl
  | some c =>
    simp only [State.acceptClosed, State.accept]
    split
    · split
      · exact Raises.after (State.dispose_raises ..) rfl
      · exact Raises.after (State.offerRelay_raises ..) rfl
    · exact .of_eq rfl

theorem State.releaseTest_mgt (s : State) : s.releaseTest.mgt = s.mgt :=
  (congrArg State.mgt s.releaseTest_frame).trans rfl

theorem State.receive_raises (p : Port) (c : Character) (s : State) : s.Raises (s.receive p c) := by
  unfold State.receive
  dsimp only
  have advanced : ∀ x run, (s.advance p x run).mgt = s.mgt := fun x run => by rw [State.advance_frame]
  have tested : ∀ u : State, (u.spaceTest c).releaseTest.mgt = u.mgt := fun u => by
    rw [State.releaseTest_mgt, State.spaceTest_frame]
  exact Raises.before (Raises.after (State.acceptClosed_raises p _ _) (advanced _ _)) (tested _)

theorem State.goDown_raises (p : Port) (s : State) : s.Raises (s.goDown p) := by
  unfold State.goDown
  dsimp only
  split
  · exact Raises.after ((State.setFault_raises _ _).before (State.releaseTest_mgt _)) rfl
  · exact .of_eq rfl

theorem State.raiseStale_raises (s : State) (r : Role) : s.Raises (s.raiseStale r) := by
  cases r
  case headP | rodP | boom | tilt => exact (State.setFault_raises _ s).before rfl
  all_goals exact .of_eq rfl

theorem State.expireSlot_raises (i : Fin 32) (s : State) : s.Raises (s.expireSlot i) := by
  unfold State.expireSlot
  split
  · dsimp only
    split
    · exact Raises.after (foldl_raises State.raiseStale_raises _ _) rfl
    · exact .of_eq rfl
  · exact .of_eq rfl

/-! ### Acquisition, calibration, accounting -/

theorem State.triggerQueue_raises (q : QueueId) (s : State) : s.Raises (s.triggerQueue q) := by
  unfold State.triggerQueue
  split
  case h_4 | h_5 | h_6 => exact Raises.after (State.setFault_raises _ _) rfl
  all_goals exact .of_eq rfl

theorem State.completeConversion_raises (raw : BitVec 12) (s : State) : s.Raises (s.completeConversion raw) := by
  have checked : ∀ (u : State) ch raw, u.Raises (u.referenceCheck ch raw) := by
    intro u ch raw
    unfold State.referenceCheck
    split
    · exact State.setFault_raises _ u
    · exact .of_eq rfl
  unfold State.completeConversion
  split
  · exact .of_eq rfl
  · dsimp only
    split
    · have written : ∀ (u : State) f d raw w, ((u.writeDest d raw w).onAcq f).mgt = u.mgt := fun u f d raw w => by
        rw [State.onAcq_mgt, State.writeDest_frame]
      exact Raises.before (Raises.after (checked _ _ _) (State.onAcq_mgt ..)) (written ..)
    · exact .of_eq rfl

theorem State.takeDeadline_raises (start : Nat) (s : State) : s.Raises (s.takeDeadline start) := by
  unfold State.takeDeadline
  split
  · dsimp only
    split
    · exact Raises.after ((State.setFault_raises _ _).before rfl) rfl
    · exact .of_eq rfl
  · exact .of_eq rfl

theorem State.refuseOpen_raises (s : State) : s.Raises s.refuseOpen :=
  Raises.after (State.setFault_raises _ _) rfl

theorem State.openTarget_mgt (i : Fin 4) (id c : Nat) (b : Bool) (s : State) : (s.openTarget i id c b).mgt = s.mgt :=
  (congrArg State.mgt (s.openTarget_frame i id c b)).trans rfl

theorem State.arrive_raises (id c : Nat) (s : State) : s.Raises (s.arrive id c) := by
  unfold State.arrive
  split
  · exact .of_eq rfl
  · split
    · exact .of_eq (State.openTarget_mgt ..)
    · exact s.refuseOpen_raises

theorem State.newTarget_raises (s : State) : s.Raises s.newTarget := by
  unfold State.newTarget
  split
  · exact .of_eq (State.openTarget_mgt ..)
  · exact s.refuseOpen_raises

theorem State.unallocated_raises (c : Credit) (s : State) : s.Raises (s.unallocated c) :=
  Raises.after ((State.setFault_raises .unallocated _).before rfl) rfl

theorem State.credit_raises (c : Credit) (s : State) : s.Raises (s.credit c) := by
  have lands : ∀ i b, s.Raises (s.creditSlot i b c) := fun i b =>
    .of_eq ((congrArg State.mgt (s.creditSlot_frame i b c)).trans rfl)
  unfold State.credit
  split
  · split
    · exact s.unallocated_raises c
    · exact lands _ _
  · split
    · exact lands _ _
    · exact s.unallocated_raises c

theorem State.closeSlot_raises (i : Fin 4) (cause : CloseCause) (s : State) : s.Raises (s.closeSlot i cause) := by
  have offered : ∀ r, s.Raises (s.offerLoad r) := by
    intro r
    unfold State.offerLoad
    split
    · exact .of_eq rfl
    · exact Raises.after (State.setFault_raises _ _) rfl
  have recorded : s.Raises (s.recordLoad i cause) := by
    unfold State.recordLoad
    dsimp only
    split
    · exact .of_eq rfl
    · exact (offered _).before rfl
  exact recorded.trans (.of_eq rfl)

theorem State.closeLoad_raises (s : State) : s.Raises s.closeLoad := by
  unfold State.closeLoad
  split
  · exact State.closeSlot_raises _ _ s
  · exact .of_eq rfl

theorem State.depart_raises (id : Nat) (s : State) : s.Raises (s.depart id) := by
  unfold State.depart
  split
  · exact State.closeSlot_raises _ _ s
  · exact .of_eq rfl

/-! ### Reports -/

theorem State.offerReport_raises (k : ReportKind) (contents : List Byte) (s : State) (p : Port) :
    s.Raises (s.offerReport k contents p) := by
  unfold State.offerReport
  split
  · exact .of_eq rfl
  · exact State.setFault_raises _ s

theorem State.sendReport_raises (k : ReportKind) (contents : List Byte) (s : State) :
    s.Raises (s.sendReport k contents) :=
  foldl_raises (State.offerReport_raises k contents) _ s

theorem State.sendStatus_raises (s : State) : s.Raises s.sendStatus := by
  refine foldl_raises (fun u p => ?_) _ s
  unfold State.offerStatus
  dsimp only
  split
  · exact .of_eq rfl
  · exact State.setFault_raises _ u

theorem State.arriveShift_raises (n : Word16) (part : ShiftPart) (s : State) : s.Raises (s.arriveShift n part) := by
  have raised : ∀ (a : Assembly) (u : State), u.Raises (u.raiseShift a) := fun a u =>
    (State.sendReport_raises _ _ u).before rfl
  have flushed : s.Raises (s.flushAssembly n) := by
    unfold State.flushAssembly
    split
    · split
      · exact .of_eq rfl
      · exact raised _ s
    · exact .of_eq rfl
  unfold State.arriveShift
  split
  · exact .of_eq rfl
  · dsimp only
    split
    · exact flushed.trans (raised _ _)
    · exact flushed.trans (.of_eq rfl)

/-! ### Commands -/

/-- The commands that do more to the management block than set fault flags. -/
def governs : Instr → Bool
  | .powerReset _ | .clearFaults _ | .enterConfig _ | .writeEntry _ | .commit _ | .softReset _ => true
  | _ => false

theorem bodyOf_raises {c : Instr} (ordinary : governs c = false) (s : State) : s.Raises (bodyOf c s).state := by
  by_cases changed : Block.mgt ∈ bodyChanges c
  case neg => exact .of_eq (bodyOf_mgt changed s)
  cases c
  case trigger req =>
    obtain ⟨q, -, -, hb⟩ | ⟨status, hb⟩ := s.onQueue_cases req State.doTrigger <;> simp only [bodyOf, hb]
    · unfold State.doTrigger
      split
      · exact .of_eq rfl
      · exact State.triggerQueue_raises q s
    · exact .of_eq rfl
  case targetClose req =>
    simp only [bodyOf, State.doTargetClose]
    obtain ⟨-, hb⟩ | ⟨-, hb⟩ := s.inRun_cases _ <;> rw [hb]
    · split
      · exact State.closeSlot_raises _ _ s
      · exact .of_eq rfl
    · exact .of_eq rfl
  case clearFaults | enterConfig | writeEntry | commit | softReset => cases ordinary
  all_goals exact absurd changed (of_decide_eq_false rfl)

/-- What holds of `run` for a management command holds once it holds of its body. -/
theorem run_request_mgt {P : Management → Prop} {c : Instr} {req : Request} {g : Group} (hr : requestOf c = some req)
    (hg : commandGroup c = some g) {s : State} (h : P s.mgt) (body : P (bodyOf c (s.take c)).state.mgt) :
    P (s.run c).mgt := by
  rw [run_request hr hg]
  exact State.serve_keeps (P := fun t => P t.mgt) (s := s.take c) h h (fun _ _ => h) fun _ _ => body

theorem run_raises {c : Instr} (ordinary : governs c = false) (s : State) : s.Raises (s.run c) := by
  by_cases changed : Block.mgt ∈ changes c
  case neg => exact .of_eq (run_mgt changed s)
  have taken : s.Raises (s.take c) := .of_eq rfl
  cases c
  case characterReceived p c => exact taken.trans (State.receive_raises p c _)
  case ingressDown p => exact taken.trans (State.goDown_raises p _)
  case stalenessExpiry i => exact taken.trans (State.expireSlot_raises i _)
  case faultSet f => exact taken.trans (State.setFault_raises f _)
  case calDeadline n => exact taken.trans (State.takeDeadline_raises n _)
  case bucketCredit c => exact taken.trans (State.credit_raises c _)
  case newTarget => exact taken.trans (State.newTarget_raises _)
  case closeLoad => exact taken.trans (State.closeLoad_raises _)
  case dispatchArrival id c => exact taken.trans (State.arrive_raises id c _)
  case dispatchDeparture id => exact taken.trans (State.depart_raises id _)
  case conversionComplete raw => exact taken.trans (State.completeConversion_raises raw _)
  case queueTrigger q =>
    refine taken.trans ?_
    rw [run_queueTrigger, State.timerTrigger]
    split
    · exact State.triggerQueue_raises q _
    · exact .of_eq rfl
  case shiftAssemblyArrival n part => exact taken.trans (State.arriveShift_raises n part _)
  case statusReport => exact taken.trans (State.sendStatus_raises _)
  case liftResultReport r => rw [run_liftResultReport]; exact taken.trans (State.sendReport_raises _ _ _)
  case bucketReport b => rw [run_bucketReport]; exact taken.trans (State.sendReport_raises _ _ _)
  case targetReport t => rw [run_targetReport]; exact taken.trans (State.sendReport_raises _ _ _)
  case calReport c => rw [run_calReport]; exact taken.trans (State.sendReport_raises _ _ _)
  case faultReport set => rw [run_faultReport]; exact taken.trans (State.sendReport_raises _ _ _)
  case trigger | targetClose =>
    rw [run_request rfl rfl]
    exact State.serve_keeps (P := s.Raises) taken (taken.trans (.of_eq rfl)) (fun _ _ => taken.trans (.of_eq rfl))
      fun _ _ => taken.trans ((bodyOf_raises rfl _).before rfl)
  case powerReset | clearFaults | enterConfig | writeEntry | commit | softReset => cases ordinary
  all_goals exact absurd changed (of_decide_eq_false rfl)

theorem State.writeTable_faults {s t : State} {table index : Nat} {d : List Byte}
    (written : s.writeTable table index d = some t) : t.mgt.faults = s.mgt.faults ∧ t.mgt.config = s.mgt.config := by
  unfold State.writeTable at written
  split at written
  case h_7 => split at written <;> obtain ⟨v, -, rfl⟩ := Option.map_eq_some_iff.1 written <;> exact ⟨rfl, rfl⟩
  case h_17 => cases written
  all_goals obtain ⟨v, -, rfl⟩ := Option.map_eq_some_iff.1 written; exact ⟨rfl, rfl⟩

theorem State.takeCommit_mgt (s : State) : s.takeCommit.mgt = s.mgt.commit := by
  unfold State.takeCommit
  rw [State.commitAccounts_frame]

theorem State.takeEnterConfig_mgt (s : State) : s.takeEnterConfig.mgt = { s.mgt with config := .config } := by
  unfold State.takeEnterConfig
  rw [State.endRunByConfig_frame]
  rfl

theorem State.takeSoftReset_mgt (s : State) : s.takeSoftReset.mgt = { s.mgt with config := .unconfigured } := by
  unfold State.takeSoftReset
  rw [State.endRunByConfig_frame]
  rfl

/-- ENTER_CONFIG, WRITE_ENTRY, COMMIT and SOFT_RESET leave every fault flag. -/
theorem bodyOf_faults {c : Instr} (notClear : ∀ req, c ≠ .clearFaults req) (s : State) (f : FaultFlag)
    (h : hasFault s.mgt.faults f = true) : hasFault (bodyOf c s).state.mgt.faults f = true := by
  cases ordinary : governs c
  · exact (bodyOf_raises ordinary s).faults f h
  cases c
  case clearFaults req => exact absurd rfl (notClear req)
  case enterConfig =>
    simp only [bodyOf, State.doEnterConfig]
    split
    · exact h
    · rw [answerOk, State.takeEnterConfig_mgt]
      exact h
  case writeEntry req =>
    obtain ⟨status, hb⟩ | ⟨t, -, -, -, written, hb⟩ := s.doWriteEntry_cases req <;> simp only [bodyOf, hb]
    · exact h
    · exact (State.writeTable_faults written).1 ▸ h
  case commit =>
    obtain hb | ⟨-, -, hb⟩ := s.doCommit_cases <;> simp only [bodyOf, hb]
    · exact h
    · rw [answerOk, State.takeCommit_mgt]
      exact h
  case softReset =>
    simp only [bodyOf]
    rw [answerOk, State.takeSoftReset_mgt]
    exact h
  case powerReset => exact h
  all_goals cases ordinary

/-- Settles O19: a FAULT_SET by its two cases, and no command but CLEAR_FAULTS and a power reset clears a flag. -/
theorem faultFlags : Obligations.FaultFlags := by
  refine ⟨fun f s => ⟨fun set => ?_, fun clear => ⟨addFault s.mgt.faults f, ?_, hasFault_addFault _ f⟩⟩,
    fun c s t f notReset notClear hrun h => ?_⟩
  · exact exec_eq_next_iff.2 (if_pos set)
  · exact exec_eq_next_iff.2 (if_neg (Bool.eq_false_iff.1 clear))
  · obtain rfl := eq_run_of_exec hrun
    cases ordinary : governs c
    · exact (run_raises ordinary s).faults f h
    cases c
    case powerReset straps => exact absurd rfl (notReset straps)
    case clearFaults req => exact absurd rfl (notClear req)
    case enterConfig | writeEntry | commit | softReset =>
      exact run_request_mgt (P := fun m => hasFault m.faults f = true) rfl rfl h (bodyOf_faults notClear _ f h)
    all_goals cases ordinary

end Sys2Proof.Machine
end

section
/-!
The drain record over every command (R179, R180).
-/

namespace Sys2Proof.Machine

open Sys2Proof

/-! ### Management commands -/

theorem State.writeTable_drain {s t : State} {table index : Nat} {d : List Byte}
    (written : s.writeTable table index d = some t) : t.rep.drain = s.rep.drain ∧ t.acc.log = s.acc.log := by
  unfold State.writeTable at written
  split at written
  case h_7 => split at written <;> obtain ⟨v, -, rfl⟩ := Option.map_eq_some_iff.1 written <;> exact ⟨rfl, rfl⟩
  case h_15 =>
    obtain ⟨v, hv, rfl⟩ := Option.map_eq_some_iff.1 written
    refine ⟨?_, rfl⟩
    unfold Reports.write at hv
    split at hv <;> obtain ⟨x, -, rfl⟩ := Option.map_eq_some_iff.1 hv <;> rfl
  case h_17 => cases written
  all_goals obtain ⟨v, -, rfl⟩ := Option.map_eq_some_iff.1 written; exact ⟨rfl, rfl⟩

theorem State.takeCommit_rep (s : State) : s.takeCommit.rep = s.rep.commit := by
  unfold State.takeCommit
  rw [State.commitAccounts_frame]

theorem State.takeCommit_log (s : State) : s.takeCommit.acc.log = s.acc.log :=
  (State.commitAccounts_evaluates _).2.1

theorem State.takeSoftReset_rep (s : State) : s.takeSoftReset.rep = s.rep.softReset := by
  unfold State.takeSoftReset
  rw [State.endRunByConfig_frame]
  rfl

/-- The commands that write parameters of load accounting, or take records out of its log by their body. -/
def reworks : Instr → Bool
  | .readLoadLog _ | .writeEntry _ | .commit _ | .softReset _ => true
  | _ => false

theorem bodyOf_moves {c : Instr} (ordinary : reworks c = false) (s : State) : s.acc.Moves (bodyOf c s).state.acc := by
  by_cases changed : Block.acc ∈ bodyChanges c
  case neg => exact (bodyOf_acc changed s).symm ▸ .refl _
  cases c
  case readTotals =>
    simp only [bodyOf, State.doReadTotals]
    split
    · exact .same rfl rfl rfl
    · exact .refl _
  case targetOpen req =>
    simp only [bodyOf, State.doTargetOpen]
    obtain ⟨-, hb⟩ | ⟨-, hb⟩ := s.inRun_cases _ <;> rw [hb]
    · split
      · exact .refl _
      · split
        · exact .refl _
        · split
          · exact .refl _
          · split
            · exact .refl _
            · exact State.openTarget_moves _ _ _ _ s
    · exact .refl _
  case targetSelect req =>
    simp only [bodyOf, State.doTargetSelect]
    obtain ⟨-, hb⟩ | ⟨-, hb⟩ := s.inRun_cases _ <;> rw [hb]
    · split
      · exact (State.selectTarget_moves _ s).trans (State.evalAhead_moves _)
      · exact .refl _
    · exact .refl _
  case targetClose req =>
    simp only [bodyOf, State.doTargetClose]
    obtain ⟨-, hb⟩ | ⟨-, hb⟩ := s.inRun_cases _ <;> rw [hb]
    · split
      · exact State.closeSlot_moves _ _ s
      · exact .refl _
    · exact .refl _
  case deleteLastBucket =>
    simp only [bodyOf, State.doDeleteLastBucket]
    obtain ⟨-, hb⟩ | ⟨-, hb⟩ := s.inRun_cases _ <;> rw [hb]
    · split
      · exact State.removeBucket_moves _ _ s
      · exact .refl _
    · exact .refl _
  case latchTotals =>
    simp only [bodyOf, State.doLatchTotals]
    split
    · exact .refl _
    · exact .same rfl rfl rfl
  case clearCounters => exact .same rfl rfl rfl
  case readLoadLog | writeEntry | commit | softReset => cases ordinary
  all_goals exact absurd changed (of_decide_eq_false rfl)

theorem bodyOf_drainKept (c : Instr) (s : State) : s.DrainKept (bodyOf c s).state := by
  have origQ := (bodyOf_retunes c s).origQ
  cases ordinary : reworks c
  · have moves := bodyOf_moves ordinary s
    refine ⟨fun p => by rw [origQ], ?_, moves.inFlight, fun _ => moves.records⟩
    by_cases changed : Block.rep ∈ bodyChanges c
    · cases c
      case writeEntry | softReset | commit => cases ordinary
      all_goals exact absurd changed (of_decide_eq_false rfl)
    · rw [bodyOf_rep changed s]
  cases c
  case readLoadLog =>
    refine ⟨fun p => by rw [origQ], by rw [bodyOf_rep (of_decide_eq_false rfl) s], ?_, fun flying => ?_⟩ <;>
      simp only [bodyOf, State.doReadLoadLog]
    · split
      · rfl
      · split
        · rfl
        · split <;> rfl
    · split
      · exact id
      · exact id
  case writeEntry req =>
    obtain ⟨status, hb⟩ | ⟨t, -, -, -, written, hb⟩ := s.doWriteEntry_cases req
    · exact .of_same origQ (by rw [bodyOf, hb]; rfl) (by rw [bodyOf, hb]; rfl)
    · obtain ⟨drain, log⟩ := State.writeTable_drain written
      exact .of_same origQ (by rw [bodyOf, hb]; exact drain) (by rw [bodyOf, hb]; exact log)
  case commit =>
    obtain hb | ⟨-, -, hb⟩ := s.doCommit_cases
    · exact .of_same origQ (by rw [bodyOf, hb]) (by rw [bodyOf, hb])
    · refine .of_same origQ ?_ ?_ <;> rw [bodyOf, hb]
      · rw [answerOk, State.takeCommit_rep]
        rfl
      · exact State.takeCommit_log s
  case softReset =>
    exact .of_same origQ ((congrArg Reports.drain s.takeSoftReset_rep).trans rfl)
      ((congrArg Accounts.log s.takeSoftReset_acc).trans rfl)
  all_goals cases ordinary

theorem State.respond_kept (req : Request) (status : Status) (data : List Byte) (s : State) :
    s.DrainKept (s.respond req status data) := by
  refine ⟨fun q => ?_, rfl, rfl, fun _ => id⟩
  change loadReports ((s.link.origQ.set req.port _).get q) = _
  rw [PerPort.get_set]
  split
  next same => rw [loadReports_append, same]; rfl
  next => rfl

theorem run_request_drainInv {c : Instr} {req : Request} {g : Group} (hr : requestOf c = some req)
    (hg : commandGroup c = some g) {s : State} (h : s.DrainInv) : (s.run c).DrainInv := by
  have taken : (s.take c).DrainInv := h.kept (.of_same rfl rfl rfl)
  rw [run_request hr hg]
  exact State.serve_keeps taken (taken.kept (.of_same rfl rfl rfl)) (fun _ _ => taken.kept (State.respond_kept ..))
    fun _ _ => (taken.kept (bodyOf_drainKept c _)).kept (State.respond_kept ..)

/-! ### Every command -/

theorem State.drainInv_initial (straps : BitVec 4) (s : State) : (s.powerReset straps).DrainInv where
  copies p := by cases p <;> rfl
  inFlight := ⟨nofun, fun ⟨p, hp⟩ => by cases p <;> cases hp⟩
  ended p hp := by cases p <;> obtain hp | hp := hp <;> cases hp
  head := nofun

/-- A key, a credit or a dispatch frame: nothing but load accounting matters to the drain record. -/
theorem run_accounts_drainInv {c : Instr} {s : State} (h : s.DrainInv) (link : Block.link ∉ changes c)
    (rep : Block.rep ∉ changes c) (moves : s.acc.Moves (s.run c).acc) : (s.run c).DrainInv :=
  h.kept ⟨fun p => by rw [run_link link], by rw [run_rep rep], moves.inFlight, fun _ => moves.records⟩

theorem run_drainInv (c : Instr) {s : State} (h : s.DrainInv) : (s.run c).DrainInv := by
  have taken : (s.take c).DrainInv := h.kept (.of_same rfl rfl rfl)
  cases c
  case powerReset straps => exact State.drainInv_initial straps s
  case characterReceived p c => exact State.receive_drainInv taken p c
  case ingressDown p => exact State.goDown_drainInv taken p
  case arbiterStart p => exact taken.kept (.of_same (Link.arbiterStart_origQ ..) rfl rfl)
  case transmissionComplete p => exact State.completeTransmission_drainInv taken p
  case releaseLimitExpiry => exact State.expireLimit_drainInv taken
  case shiftAssemblyArrival n part => exact taken.kept (State.arriveShift_kept ..)
  case statusReport => exact taken.kept (State.sendStatus_kept _)
  case liftResultReport r => rw [run_liftResultReport]; exact taken.kept (State.sendReport_kept ..)
  case bucketReport b => rw [run_bucketReport]; exact taken.kept (State.sendReport_kept ..)
  case targetReport t => rw [run_targetReport]; exact taken.kept (State.sendReport_kept ..)
  case calReport c => rw [run_calReport]; exact taken.kept (State.sendReport_kept ..)
  case faultReport set => rw [run_faultReport]; exact taken.kept (State.sendReport_kept ..)
  case loadDrain => rw [run_loadDrain]; exact State.drain_drainInv taken
  case unknownCommand req =>
    exact State.whenTaken_keeps (s := s.take _) taken (taken.kept (.of_same rfl rfl rfl))
      fun _ => taken.kept (State.respond_kept ..)
  case pendingLiftNotice => exact taken.kept (.of_same rfl rfl rfl)
  case nextTarget =>
    exact run_accounts_drainInv h (of_decide_eq_false rfl) (of_decide_eq_false rfl) (State.nextTarget_moves (s.take _))
  case selectKey i =>
    exact run_accounts_drainInv h (of_decide_eq_false rfl) (of_decide_eq_false rfl) (State.selectKey_moves i (s.take _))
  case newTarget =>
    exact run_accounts_drainInv h (of_decide_eq_false rfl) (of_decide_eq_false rfl) (State.newTarget_moves (s.take _))
  case closeLoad =>
    exact run_accounts_drainInv h (of_decide_eq_false rfl) (of_decide_eq_false rfl) (State.closeLoad_moves (s.take _))
  case deleteLast =>
    exact run_accounts_drainInv h (of_decide_eq_false rfl) (of_decide_eq_false rfl) (State.deleteLast_moves (s.take _))
  case bucketCredit c =>
    exact run_accounts_drainInv h (of_decide_eq_false rfl) (of_decide_eq_false rfl) (State.credit_moves c (s.take _))
  case dispatchArrival id n =>
    exact run_accounts_drainInv h (of_decide_eq_false rfl) (of_decide_eq_false rfl) (State.arrive_moves id n (s.take _))
  case dispatchDeparture id =>
    exact run_accounts_drainInv h (of_decide_eq_false rfl) (of_decide_eq_false rfl) (State.depart_moves id (s.take _))
  case accountShiftClose => exact taken.kept (.of_same rfl rfl rfl)
  case identify | readEntry | readState | readClock | readCounters | readFaults | readTotals | calStatus | targetOpen
      | targetSelect | targetClose | deleteLastBucket | latchTotals | readLoadLog | clearFaults | clearCounters
      | enterConfig | writeEntry | commit | setClock | calStart | calAccept | calDiscard | arm | disarm | trigger
      | softReset | bypass =>
    exact run_request_drainInv rfl rfl h
  all_goals
    refine h.kept (.of_same ?_ ?_ ?_)
    · rw [run_link (of_decide_eq_false rfl)]
    · rw [run_rep (of_decide_eq_false rfl)]
    · rw [run_acc (of_decide_eq_false rfl)]

end Sys2Proof.Machine
end

section
/-!
The engines under the ordinary commands: what of them the configuration state ties down (R88, R92, R112, R123, R132,
R144, R182) stays in line with it.
-/

namespace Sys2Proof.Machine

open Sys2Proof

/-- The commands that change the configuration state or a table. -/
def configures : Instr → Bool
  | .powerReset _ | .enterConfig _ | .writeEntry _ | .commit _ | .softReset _ => true
  | _ => false

/-! ### Weighing -/

/-- The weigh record stayed, and the engine stayed DISABLED or stayed not DISABLED (R92). -/
structure Weighing.Runs (w w' : Weighing) : Prop where
  params : w'.params = w.params
  disabled : w'.state = .disabled ↔ w.state = .disabled

theorem Weighing.Runs.of_same {w w' : Weighing} (params : w'.params = w.params) (state : w'.state = w.state) :
    w.Runs w' :=
  ⟨params, by rw [state]⟩

theorem Weighing.Runs.of_enabled {w w' : Weighing} (params : w'.params = w.params) (before : w.state ≠ .disabled)
    (after : w'.state ≠ .disabled) : w.Runs w' :=
  ⟨params, iff_of_false after before⟩

theorem State.windowSample_runs {s : State} (enabled : s.weigh.state ≠ .disabled) (theta : Int) (tag : TimeTag) :
    s.weigh.Runs (s.windowSample theta tag).weigh := by
  unfold State.windowSample
  dsimp only
  split
  · exact .of_enabled rfl enabled nofun
  · split
    · exact .of_enabled rfl enabled nofun
    · split
      · exact .of_enabled rfl enabled nofun
      · split
        · exact .of_enabled rfl enabled nofun
        · exact .of_same rfl rfl

theorem State.weighSample_runs (theta : Int) (tag : TimeTag) (s : State) :
    s.weigh.Runs (s.weighSample theta tag).weigh := by
  unfold State.weighSample
  dsimp only
  split
  next => exact .of_same rfl rfl
  next armed =>
    split
    · exact .of_same rfl rfl
    · obtain ⟨params, disabled⟩ := State.windowSample_runs (s := s.openWindow theta tag) nofun theta tag
      exact ⟨params, disabled.trans (iff_of_false nofun (armed ▸ nofun))⟩
  next window => exact State.windowSample_runs (window ▸ nofun) theta tag
  next spent =>
    split
    · exact .of_enabled rfl (spent ▸ nofun) nofun
    · exact .of_same rfl rfl

theorem State.weighStale_runs (r : Role) (s : State) : s.weigh.Runs (s.weighStale r).weigh := by
  unfold State.weighStale
  dsimp only
  split
  next window =>
    simp only [Bool.and_eq_true, beq_iff_eq] at window
    exact .of_enabled rfl (window.2 ▸ nofun) nofun
  next => exact .of_same rfl rfl

theorem State.expireSlot_runs (i : Fin 32) (s : State) : s.weigh.Runs (s.expireSlot i).weigh := by
  unfold State.expireSlot
  split
  · dsimp only
    split
    · rw [State.foldl_raiseStale_frame]
      exact .of_same rfl rfl
    · exact .of_same rfl rfl
  · exact .of_same rfl rfl

theorem run_weighs {c : Instr} (ordinary : configures c = false) (s : State) : s.weigh.Runs (s.run c).weigh := by
  by_cases changed : Block.weigh ∈ changes c
  case neg => exact (run_weigh changed s).symm ▸ .of_same rfl rfl
  cases c
  case stalenessExpiry i => exact State.expireSlot_runs i (s.take _)
  case weighSample theta tag => exact State.weighSample_runs theta tag (s.take _)
  case weighStaleNotice r => exact State.weighStale_runs r (s.take _)
  case speedSample speed tag =>
    rw [run_speedSample, State.onWeigh_weigh, Weighing.takeSpeed]
    split <;> exact .of_same rfl rfl
  case clearCounters req =>
    rw [run_request rfl rfl]
    exact State.serve_keeps (P := fun t => s.weigh.Runs t.weigh) (s := s.take _) (.of_same rfl rfl) (.of_same rfl rfl)
      (fun _ _ => .of_same rfl rfl) fun _ _ => .of_same rfl rfl
  case powerReset | enterConfig | writeEntry | commit | softReset => cases ordinary
  all_goals exact absurd changed (of_decide_eq_false rfl)

/-! ### Calibration -/

/-- Outside RUN no run is on, and TC's last start is open only while one collects (R112, R122, R123). -/
structure Calibration.Calm (m : ConfigState) (c : Calibration) : Prop where
  off : m ≠ .run → c.run = .off
  deadline : c.run ≠ .collecting → c.startOpen = false

/-- A run that is on shows that the configuration state is RUN. -/
theorem Calibration.Calm.isRun {m : ConfigState} {c : Calibration} (h : c.Calm m) (on : c.run ≠ .off) : m = .run :=
  Decidable.not_not.1 fun other => on (h.off other)

theorem Calibration.Calm.inRun {m : ConfigState} {c : Calibration} (isRun : m = .run)
    (deadline : c.run ≠ .collecting → c.startOpen = false) : c.Calm m :=
  ⟨fun other => absurd isRun other, deadline⟩

theorem Calibration.Calm.same {m : ConfigState} {c c' : Calibration} (h : c.Calm m) (run : c'.run = c.run)
    (startOpen : c'.startOpen = c.startOpen) : c'.Calm m :=
  ⟨run ▸ h.off, run ▸ startOpen ▸ h.deadline⟩

theorem Calibration.Calm.ended {m : ConfigState} {c : Calibration} (run : c.run = .off)
    (startOpen : c.startOpen = false) :
    c.Calm m :=
  ⟨fun _ => run, fun _ => startOpen⟩

theorem State.decideRun_run (s : State) :
    s.decideRun.cal.run = .off ∧ s.decideRun.cal.startOpen = s.cal.startOpen := by
  unfold State.decideRun
  split <;> exact ⟨rfl, rfl⟩

theorem State.endCollection_calm {s : State} {m : ConfigState} (isRun : m = .run) (r : LiftResult) :
    (s.endCollection r).cal.Calm m := by
  unfold State.endCollection
  dsimp only
  split
  · obtain ⟨run, startOpen⟩ := State.decideRun_run ((s.onCal fun c => { c with candidate := c.finish r }).stopDeadline)
    exact .ended run startOpen
  · exact .inRun isRun fun _ => rfl

theorem State.takeCalLift_calm {s : State} {m : ConfigState} (h : s.cal.Calm m) (r : LiftResult) (forces : BinForces) :
    (s.takeCalLift r forces).cal.Calm m := by
  unfold State.takeCalLift
  split
  next collecting =>
    split
    · dsimp only
      split
      · exact State.endCollection_calm (h.isRun (collecting ▸ nofun)) r
      · exact h.same rfl rfl
    · exact h.same rfl rfl
  next => exact h

theorem State.takeDeadline_calm {s : State} {m : ConfigState} (h : s.cal.Calm m) (start : Nat) :
    (s.takeDeadline start).cal.Calm m := by
  unfold State.takeDeadline
  split
  · dsimp only
    split
    · refine .ended rfl ?_
      simp only [State.changeRun, State.hand_cal, State.onCal_cal, State.setFault_cal]
    · exact ⟨h.off, fun _ => rfl⟩
  · exact h

theorem State.discardRun_calm {s : State} {m : ConfigState} (h : s.cal.Calm m) : s.discardRun.cal.Calm m := by
  unfold State.discardRun
  split
  · exact .ended rfl rfl
  next other => exact .ended rfl (h.deadline other)

theorem State.zeroKey_calm {s : State} (h : s.cal.Calm s.mgt.config) : s.zeroKey.cal.Calm s.mgt.config := by
  unfold State.zeroKey
  split
  next starts => exact .inRun starts.1 fun other => absurd rfl other
  next => exact h

theorem bodyOf_calm {c : Instr} (ordinary : configures c = false) {s : State} (h : s.cal.Calm s.mgt.config) :
    (bodyOf c s).state.cal.Calm s.mgt.config := by
  by_cases changed : Block.cal ∈ bodyChanges c
  case neg => exact (bodyOf_cal changed s).symm ▸ h
  cases c
  case calStart req =>
    simp only [bodyOf, State.doCalStart]
    obtain ⟨isRun, hb⟩ | ⟨-, hb⟩ := s.inRun_cases _ <;> rw [hb]
    · split
      · exact h
      · split
        · exact h
        · split
          · exact h
          · split
            · exact h
            · exact .inRun isRun fun other => absurd rfl other
    · exact h
  case calAccept =>
    simp only [bodyOf, State.doCalAccept]
    split
    · exact h
    next review =>
      split
      · exact .ended rfl (h.deadline (by rw [Decidable.not_not.1 review]; nofun))
      · exact h
  case calDiscard =>
    simp only [bodyOf, State.doCalDiscard]
    split
    · exact h
    · exact State.discardRun_calm h
  case enterConfig | writeEntry | softReset => cases ordinary
  all_goals exact absurd changed (of_decide_eq_false rfl)

theorem run_calm {c : Instr} (ordinary : configures c = false) {s : State} (h : s.cal.Calm s.mgt.config) :
    (s.run c).cal.Calm s.mgt.config := by
  by_cases changed : Block.cal ∈ changes c
  case neg => exact (run_cal changed s).symm ▸ h
  cases c
  case calLift r forces => exact State.takeCalLift_calm (s := s.take _) h r forces
  case zero => exact State.zeroKey_calm (s := s.take _) h
  case calDeadline n => exact State.takeDeadline_calm (s := s.take _) h n
  case calStart | calAccept | calDiscard =>
    rw [run_request rfl rfl]
    exact State.serve_keeps (P := fun t => t.cal.Calm s.mgt.config) (s := s.take _) h h (fun _ _ => h)
      fun _ _ => bodyOf_calm (s := s.take _) ordinary h
  case powerReset | enterConfig | writeEntry | commit | softReset => cases ordinary
  all_goals exact absurd changed (of_decide_eq_false rfl)

/-! ### Tracker -/

/-- Outside RUN the tracker holds nothing, and TD's last start is open exactly while a candidate dwells (R132, R144). -/
structure Tracker.Calm (m : ConfigState) (t : Tracker) : Prop where
  idle : m ≠ .run → t.phase = .unknown ∧ t.pending = none ∧ t.cycleStart = none ∧ t.dumped = false ∧ t.candidate = none
  dwell : t.startOpen = t.candidate.isSome

/-- The parameters stayed, and so did the dwell. -/
structure Tracker.Dwells (t t' : Tracker) : Prop where
  params : t'.params = t.params
  startOpen : t'.startOpen = t.startOpen
  candidate : t'.candidate = t.candidate

theorem Tracker.Dwells.refl (t : Tracker) : t.Dwells t := ⟨rfl, rfl, rfl⟩

theorem Tracker.Dwells.trans {a b c : Tracker} (h : a.Dwells b) (h' : b.Dwells c) : a.Dwells c :=
  ⟨h'.params.trans h.params, h'.startOpen.trans h.startOpen, h'.candidate.trans h.candidate⟩

theorem Tracker.Dwells.dwell {t t' : Tracker} (h : t.Dwells t') (dwell : t.startOpen = t.candidate.isSome) :
    t'.startOpen = t'.candidate.isSome := by
  rw [h.startOpen, h.candidate, dwell]

theorem State.ageTest_dwells (s : State) : s.trk.Dwells s.ageTest.trk := by
  unfold State.ageTest
  split
  · split
    · exact ⟨rfl, rfl, rfl⟩
    · exact .refl _
  · exact .refl _

theorem State.completeCycle_dwells (s : State) : s.trk.Dwells s.completeCycle.trk := by
  unfold State.completeCycle
  split
  · split
    · exact ⟨rfl, rfl, rfl⟩
    · exact .refl _
  · exact .refl _

theorem State.returnToPile_dwells (s : State) : s.trk.Dwells s.returnToPile.trk := by
  unfold State.returnToPile
  split
  · exact .refl _
  · exact ⟨rfl, rfl, rfl⟩

theorem State.dumpBucket_dwells (left : Phase) (s : State) : s.trk.Dwells (s.dumpBucket left).trk := by
  unfold State.dumpBucket
  dsimp only
  split <;> exact ⟨rfl, rfl, rfl⟩

theorem State.transitionActions_dwells (left q : Phase) (s : State) :
    s.trk.Dwells (s.transitionActions left q).trk := by
  have starts : ∀ u : State, u.trk.Dwells u.startCycle.trk := fun _ => ⟨rfl, rfl, rfl⟩
  have returned : s.trk.Dwells s.returnToPile.dropPending.startCycle.trk :=
    s.returnToPile_dwells.trans ⟨rfl, rfl, rfl⟩
  cases q
  case dig =>
    cases left
    case ret => exact s.completeCycle_dwells.trans (starts _)
    case lift | carry => exact returned
    case unknown => exact starts s
    all_goals exact .refl _
  case dump => exact s.dumpBucket_dwells left
  case parked => exact ⟨rfl, rfl, rfl⟩
  all_goals exact .refl _

/-- A transition leaves no candidate that dwells (R133). -/
theorem State.transition_stops (q : Phase) (s : State) :
    (s.transition q).trk.params = s.trk.params ∧ (s.transition q).trk.startOpen = false ∧
      (s.transition q).trk.candidate = none := by
  obtain ⟨params, startOpen, candidate⟩ :=
    State.transitionActions_dwells s.trk.phase q (s.stopDwell.onTrk fun t => { t with phase := q })
  exact ⟨params, startOpen, candidate⟩

theorem State.settle_params (n : Nat) (s : State) : (State.settle n s).trk.params = s.trk.params := by
  induction n generalizing s with
  | zero => rfl
  | succ n ih =>
    simp only [State.settle]
    split
    · rfl
    · split
      · exact (ih _).trans (s.transition_stops s.candidate).1
      · split <;> rfl

theorem State.settle_dwell (n : Nat) {s : State} (dwell : s.trk.startOpen = s.trk.candidate.isSome) :
    (State.settle n s).trk.startOpen = (State.settle n s).trk.candidate.isSome := by
  induction n generalizing s with
  | zero => exact dwell
  | succ n ih =>
    simp only [State.settle]
    split
    · rfl
    · split
      · obtain ⟨-, startOpen, candidate⟩ := s.transition_stops s.candidate
        exact ih (by rw [startOpen, candidate]; rfl)
      · split
        · exact dwell
        · rfl

/-- What a step of the tracker keeps. -/
structure Tracker.Steady (m : ConfigState) (t t' : Tracker) : Prop where
  params : t'.params = t.params
  calm : t.Calm m → t'.Calm m

theorem Tracker.Steady.inRun {m : ConfigState} {t t' : Tracker} (isRun : m = .run) (params : t'.params = t.params)
    (dwell : t.startOpen = t.candidate.isSome → t'.startOpen = t'.candidate.isSome) : t.Steady m t' :=
  ⟨params, fun h => ⟨fun other => absurd isRun other, dwell h.dwell⟩⟩

theorem Tracker.Steady.refl (m : ConfigState) (t : Tracker) : t.Steady m t := ⟨rfl, id⟩

theorem State.trackNotice_steady (n : Notice) (s : State) : s.trk.Steady s.mgt.config (s.trackNotice n).trk := by
  have aged := s.ageTest_dwells
  unfold State.trackNotice
  split
  next isRun =>
    dsimp only
    split
    · exact .inRun isRun ((State.settle_params _ _).trans aged.params) fun dwell =>
        State.settle_dwell _ (aged.dwell dwell)
    · exact .inRun isRun aged.params aged.dwell
  next => exact .refl _ _

theorem State.takeDwellEnd_steady (start : Nat) (s : State) : s.trk.Steady s.mgt.config (s.takeDwellEnd start).trk := by
  have aged := s.ageTest_dwells
  unfold State.takeDwellEnd
  split
  next answers =>
    have isRun : s.trk.Calm s.mgt.config → s.mgt.config = .run := fun h => Decidable.not_not.1 fun other => by
      have closed := h.dwell
      rw [(h.idle other).2.2.2.2, answers.1] at closed
      cases closed
    dsimp only
    split
    next q _ =>
      obtain ⟨params, startOpen, candidate⟩ := State.transition_stops q
        (s.ageTest.onTrk fun t => { t with startOpen := false })
      exact ⟨(State.settle_params _ _).trans (params.trans aged.params), fun h =>
        ⟨fun other => absurd (isRun h) other, State.settle_dwell _ (by rw [startOpen, candidate]; rfl)⟩⟩
    next gone =>
      refine ⟨aged.params, fun h => ⟨fun other => absurd (isRun h) other, ?_⟩⟩
      exact (congrArg Option.isSome gone).symm
  next => exact .refl _ _

theorem State.takeLift_steady (r : LiftResult) (s : State) : s.trk.Steady s.mgt.config (s.takeLift r).trk := by
  have aged := s.ageTest_dwells
  unfold State.takeLift
  split
  next isRun =>
    dsimp only
    split <;> exact .inRun isRun aged.params aged.dwell
  next => exact .refl _ _

theorem State.takeReversal_steady (s : State) : s.trk.Steady s.mgt.config s.takeReversal.trk := by
  have aged := s.ageTest_dwells
  unfold State.takeReversal
  split
  next isRun => exact .inRun isRun aged.params aged.dwell
  next => exact .refl _ _

theorem State.closeTrackerShift_steady (n : Word16) (s : State) :
    s.trk.Steady s.mgt.config (s.closeTrackerShift n).trk := by
  have aged := s.ageTest_dwells
  refine ⟨aged.params, fun h => ⟨fun other => ?_, aged.dwell h.dwell⟩⟩
  obtain ⟨phase, pending, cycleStart, dumped, candidate⟩ := h.idle other
  have same : s.ageTest = s := by rw [State.ageTest, cycleStart]
  change s.ageTest.trk.phase = _ ∧ s.ageTest.trk.pending = _ ∧ s.ageTest.trk.cycleStart = _ ∧ s.ageTest.trk.dumped = _ ∧
    s.ageTest.trk.candidate = _
  rw [same]
  exact ⟨phase, pending, cycleStart, dumped, candidate⟩

theorem run_tracks {c : Instr} (ordinary : configures c = false) (s : State) :
    s.trk.Steady s.mgt.config (s.run c).trk := by
  by_cases changed : Block.trk ∈ changes c
  case neg => exact (run_trk changed s).symm ▸ .refl _ _
  cases c
  case candidateEvaluation n => exact State.trackNotice_steady n (s.take _)
  case dwellEnd n => exact State.takeDwellEnd_steady n (s.take _)
  case pendingLift r => exact State.takeLift_steady r (s.take _)
  case reversalNotice => exact State.takeReversal_steady (s.take _)
  case trackerShiftClose closing new => exact State.closeTrackerShift_steady closing (s.take _)
  case powerReset | enterConfig | writeEntry | commit | softReset => cases ordinary
  all_goals exact absurd changed (of_decide_eq_false rfl)

/-! ### Acquisition -/

theorem Acquisition.Inv.conversion_none {a : Acquisition} (h : a.Inv) (off : ∀ q, (a.queue q).state = .off) :
    a.conversion = none := by
  cases hc : a.conversion with
  | none => rfl
  | some c =>
    have active := (h.converts c.queue).2 ⟨c, hc, rfl⟩
    rw [off] at active
    cases active

theorem State.onQueue_unconfigured {s : State} (h : s.mgt.config = .unconfigured) (req : Request)
    (body : QueueId → State → Answer) : s.onQueue req body = refuse s .wrongMode :=
  if_pos h

theorem bodyOf_queuesOff {c : Instr} (ordinary : configures c = false) {s : State}
    (unconfigured : s.mgt.config = .unconfigured) (off : ∀ q, (s.acq.queue q).state = .off) (q : QueueId) :
    ((bodyOf c s).state.acq.queue q).state = .off := by
  by_cases changed : Block.acq ∈ bodyChanges c
  case neg => exact (bodyOf_acq changed s).symm ▸ off q
  cases c
  case readState req =>
    simp only [bodyOf, State.doReadState]
    split
    · exact off q
    · simp only [answerOk]
      split
      · cases q
        · exact off .fast
        · exact off .slow
      · exact off q
  case arm | disarm | trigger =>
    simp only [bodyOf, State.onQueue_unconfigured unconfigured]
    exact off q
  case bypass req =>
    simp only [bodyOf, State.doBypass, answerOk]
    split
    · exact Acquisition.stopAll_off s.acq q
    · exact off q
  case enterConfig | writeEntry | commit | softReset => cases ordinary
  all_goals exact absurd changed (of_decide_eq_false rfl)

/-- Queues that are OFF stay so in UNCONFIGURED, where nothing arms one (R63, R182). -/
theorem run_queuesOff {c : Instr} (ordinary : configures c = false) {s : State} (h : s.acq.Inv)
    (unconfigured : s.mgt.config = .unconfigured) (off : ∀ q, (s.acq.queue q).state = .off) (q : QueueId) :
    ((s.run c).acq.queue q).state = .off := by
  by_cases changed : Block.acq ∈ changes c
  case neg => exact (run_acq changed s).symm ▸ off q
  cases c
  case conversionComplete raw =>
    rw [run_conversionComplete, State.completeConversion, State.take_acq, h.conversion_none off]
    exact off q
  case queueTrigger p =>
    rw [run_queueTrigger, State.timerTrigger]
    split
    · rw [State.triggerQueue, State.take_acq, off p]
      exact off q
    · exact off q
  case readState | arm | disarm | trigger | bypass =>
    rw [run_request rfl rfl]
    exact State.serve_keeps (P := fun t => (t.acq.queue q).state = .off) (s := s.take _) (off q) (off q)
      (fun _ _ => off q) fun _ _ => bodyOf_queuesOff (s := s.take _) ordinary unconfigured off q
  case powerReset | enterConfig | writeEntry | commit | softReset => cases ordinary
  all_goals exact absurd changed (of_decide_eq_false rfl)

end Sys2Proof.Machine
end

section
/-!
The configuration state and the engines over a step (R88, R92, R123, R132, R144, R148, R168, R182). Settles O60.
-/

namespace Sys2Proof.Machine

open Sys2Proof

/-! ### Load accounting and the overlay -/

/-- The account record stayed, and held slots keep the state of an evaluation (R148). -/
structure Accounts.Steady (a b : Accounts) : Prop where
  params : b.params = a.params
  settled : a.params.commits = true → ∀ i, (a.slot i).Settled a.params → (b.slot i).Settled a.params

theorem Accounts.Moves.steady {a b : Accounts} (h : a.Moves b) : a.Steady b := ⟨h.params, h.settled⟩

theorem Accounts.Steady.withLog {a b : Accounts} {log : LoadLog} (h : b = { a with log := log }) : a.Steady b := by
  rw [h]
  exact ⟨rfl, fun _ _ hi => hi⟩

/-- Of load accounting the log alone changed, and the overlay entries stayed. -/
structure State.Reported (s t : State) : Prop where
  acc : t.acc = { s.acc with log := t.acc.log }
  overlay : t.rep.overlay = s.rep.overlay

theorem State.Reported.of_same {s t : State} (acc : t.acc = s.acc) (overlay : t.rep.overlay = s.rep.overlay) :
    s.Reported t :=
  ⟨by rw [acc], overlay⟩

theorem State.Reported.trans {s t u : State} (h : s.Reported t) (h' : t.Reported u) : s.Reported u :=
  ⟨by rw [h'.acc, h.acc], h'.overlay.trans h.overlay⟩

/-- What came before touched neither block. -/
theorem State.Reported.after {s t u : State} (h : t.Reported u) (acc : t.acc = s.acc) (rep : t.rep = s.rep) :
    s.Reported u :=
  .trans (.of_same acc (by rw [rep])) h

theorem State.endCopy_reported (p : Port) (how : CopyState) (s : State) : s.Reported (s.endCopy p how) := by
  unfold State.endCopy State.resolveCopies
  dsimp only
  split <;> exact ⟨rfl, rfl⟩

theorem State.flushCopy_reported (b : Bool) (p : Port) (s : State) : s.Reported (s.flushCopy b p) := by
  cases b
  · exact ⟨rfl, rfl⟩
  · exact s.endCopy_reported p _

theorem State.closeContacts_reported (s : State) : s.Reported s.closeContacts := by
  have closed : s.Reported (s.onLink Link.close) := ⟨rfl, rfl⟩
  exact (closed.trans (State.flushCopy_reported _ _ _)).trans (State.flushCopy_reported _ _ _)

theorem State.releaseTest_reported (s : State) : s.Reported s.releaseTest := by
  unfold State.releaseTest
  split
  · exact s.closeContacts_reported
  · exact ⟨rfl, rfl⟩

theorem State.receive_reported (p : Port) (c : Character) (s : State) : s.Reported (s.receive p c) := by
  unfold State.receive
  dsimp only
  refine State.Reported.trans (.of_same ?_ ?_) (State.releaseTest_reported _) <;>
    rw [State.spaceTest_frame, State.acceptClosed_frame, State.advance_frame]

theorem State.goDown_reported (p : Port) (s : State) : s.Reported (s.goDown p) := by
  unfold State.goDown
  dsimp only
  split
  · refine State.Reported.trans (.of_same ?_ ?_) (State.releaseTest_reported _) <;>
      simp only [State.onLink_acc, State.onLink_rep, State.setFault_acc, State.setFault_rep]
  · exact ⟨rfl, rfl⟩

theorem State.completeTransmission_reported (p : Port) (s : State) : s.Reported (s.completeTransmission p) := by
  have signalled : ∀ (k : Option OrigKind) (u : State), u.Reported (u.signalSent p k) := by
    intro k u
    unfold State.signalSent State.sentOriginate
    split
    · split
      · exact (u.endCopy_reported p _).trans ⟨rfl, rfl⟩
      · exact ⟨rfl, rfl⟩
    · exact ⟨rfl, rfl⟩
  unfold State.completeTransmission
  split
  · exact ⟨rfl, rfl⟩
  · split
    · exact State.Reported.after ((signalled _ _).trans (State.releaseTest_reported _)) (State.onLink_acc ..)
        (State.onLink_rep ..)
    · exact ⟨rfl, rfl⟩

theorem State.expireLimit_reported (s : State) : s.Reported s.expireLimit := by
  unfold State.expireLimit
  split
  · exact State.Reported.after (State.releaseTest_reported _) (State.onLink_acc ..) (State.onLink_rep ..)
  · exact ⟨rfl, rfl⟩

theorem State.drain_reported (s : State) : s.Reported s.drain := by
  have copied : ∀ r (ps : List Port) (u : State), u.Reported (ps.foldl (State.queueCopy r) u) := fun r ps u =>
    foldl_keeps (P := u.Reported) (f := State.queueCopy r) (fun v p hv => hv.trans ⟨rfl, rfl⟩) ps ⟨rfl, rfl⟩
  unfold State.drain
  split
  · split
    · exact ⟨rfl, rfl⟩
    · refine State.Reported.trans ?_ (copied _ _ _)
      exact ⟨rfl, rfl⟩
  · exact ⟨rfl, rfl⟩

theorem State.setFault_reported (x : FaultFlag) (s : State) : s.Reported (s.setFault x) :=
  .of_same (by rw [State.setFault_acc]) (by rw [State.setFault_rep])

theorem State.sendReport_reported (k : ReportKind) (contents : List Byte) (s : State) :
    s.Reported (s.sendReport k contents) := by
  refine foldl_keeps (P := s.Reported) (fun u p hu => hu.trans ?_) _ ⟨rfl, rfl⟩
  unfold State.offerReport
  split
  · exact ⟨rfl, rfl⟩
  · exact State.setFault_reported _ u

theorem State.sendStatus_reported (s : State) : s.Reported s.sendStatus := by
  refine foldl_keeps (P := s.Reported) (fun u p hu => hu.trans ?_) _ ⟨rfl, rfl⟩
  unfold State.offerStatus
  dsimp only
  split
  · exact ⟨rfl, rfl⟩
  · exact State.setFault_reported _ u

theorem State.arriveShift_reported (n : Word16) (part : ShiftPart) (s : State) : s.Reported (s.arriveShift n part) := by
  have raised : ∀ (a : Assembly) (u : State), u.Reported (u.raiseShift a) := fun a u =>
    (u.sendReport_reported _ _).trans ⟨rfl, rfl⟩
  have flushed : s.Reported (s.flushAssembly n) := by
    unfold State.flushAssembly
    split
    · split
      · exact ⟨rfl, rfl⟩
      · exact raised _ s
    · exact ⟨rfl, rfl⟩
  unfold State.arriveShift
  split
  · exact ⟨rfl, rfl⟩
  · dsimp only
    split
    · exact flushed.trans (raised _ _)
    · exact flushed.trans ⟨rfl, rfl⟩

/-- What an ordinary command keeps of load accounting and of the overlay. -/
structure State.Displays (s t : State) : Prop where
  acc : s.acc.Steady t.acc
  overlay : t.rep.overlay = s.rep.overlay

theorem State.Reported.taken {s t : State} {c : Instr} (h : (s.take c).Reported t) : s.Displays t :=
  ⟨.withLog h.acc, h.overlay⟩

theorem State.Reported.displays {s t : State} (h : s.Reported t) : s.Displays t := ⟨.withLog h.acc, h.overlay⟩

theorem bodyOf_displays {c : Instr} (ordinary : configures c = false) (s : State) : s.Displays (bodyOf c s).state := by
  have rep : (bodyOf c s).state.rep = s.rep := by
    by_cases changed : Block.rep ∈ bodyChanges c
    · cases c
      case writeEntry | commit | softReset => cases ordinary
      all_goals exact absurd changed (of_decide_eq_false rfl)
    · exact bodyOf_rep changed s
  refine ⟨?_, by rw [rep]⟩
  cases work : reworks c
  · exact (bodyOf_moves work s).steady
  cases c
  case readLoadLog =>
    simp only [bodyOf, State.doReadLoadLog]
    split
    · exact (Accounts.Moves.refl _).steady
    · split
      · exact (Accounts.Moves.refl _).steady
      · split
        · exact (Accounts.Moves.refl _).steady
        · exact .withLog rfl
  case writeEntry | commit | softReset => cases ordinary
  all_goals cases work

/-- A command that leaves the reports alone. -/
theorem run_accounts_displays {c : Instr} {s : State} (rep : Block.rep ∉ changes c)
    (moves : s.acc.Moves (s.run c).acc) :
    s.Displays (s.run c) :=
  ⟨moves.steady, by rw [run_rep rep]⟩

theorem run_displays {c : Instr} (ordinary : configures c = false) (s : State) : s.Displays (s.run c) := by
  cases c
  case characterReceived p c => exact State.Reported.taken (State.receive_reported p c
    (s.take (.characterReceived p c)))
  case ingressDown p => exact State.Reported.taken (State.goDown_reported p (s.take (.ingressDown p)))
  case transmissionComplete p =>
    exact State.Reported.taken (State.completeTransmission_reported p (s.take (.transmissionComplete p)))
  case releaseLimitExpiry => exact State.Reported.taken (State.expireLimit_reported (s.take .releaseLimitExpiry))
  case shiftAssemblyArrival n part =>
    exact State.Reported.taken (State.arriveShift_reported n part (s.take (.shiftAssemblyArrival n part)))
  case statusReport => exact State.Reported.taken (State.sendStatus_reported (s.take .statusReport))
  case liftResultReport r => exact State.Reported.taken (State.sendReport_reported _ _ (s.take (.liftResultReport r)))
  case bucketReport b => exact State.Reported.taken (State.sendReport_reported _ _ (s.take (.bucketReport b)))
  case targetReport t => exact State.Reported.taken (State.sendReport_reported _ _ (s.take (.targetReport t)))
  case calReport c => exact State.Reported.taken (State.sendReport_reported _ _ (s.take (.calReport c)))
  case faultReport set => exact State.Reported.taken (State.sendReport_reported _ _ (s.take (.faultReport set)))
  case loadDrain => rw [run_loadDrain]; exact State.Reported.taken (State.drain_reported (s.take .loadDrain))
  case pendingLiftNotice => exact run_accounts_displays (of_decide_eq_false rfl) (State.evalAhead_moves (s.take _))
  case nextTarget => exact run_accounts_displays (of_decide_eq_false rfl) (State.nextTarget_moves (s.take _))
  case selectKey i => exact run_accounts_displays (of_decide_eq_false rfl) (State.selectKey_moves i (s.take _))
  case newTarget => exact run_accounts_displays (of_decide_eq_false rfl) (State.newTarget_moves (s.take _))
  case closeLoad => exact run_accounts_displays (of_decide_eq_false rfl) (State.closeLoad_moves (s.take _))
  case deleteLast => exact run_accounts_displays (of_decide_eq_false rfl) (State.deleteLast_moves (s.take _))
  case bucketCredit c => exact run_accounts_displays (of_decide_eq_false rfl) (State.credit_moves c (s.take _))
  case dispatchArrival id n => exact run_accounts_displays (of_decide_eq_false rfl) (State.arrive_moves id n (s.take _))
  case dispatchDeparture id => exact run_accounts_displays (of_decide_eq_false rfl) (State.depart_moves id (s.take _))
  case accountShiftClose => exact ⟨⟨rfl, fun _ _ h => h⟩, rfl⟩
  case powerReset | enterConfig | writeEntry | commit | softReset => cases ordinary
  case readTotals | targetOpen | targetSelect | targetClose | deleteLastBucket | latchTotals | readLoadLog
      | clearCounters =>
    rw [run_request rfl rfl]
    have same : ∀ t : State, t.acc = s.acc → t.rep = s.rep → s.Displays t := fun t acc rep =>
      (State.Reported.of_same acc (by rw [rep])).displays
    refine State.serve_keeps (P := s.Displays) (s := s.take _) (same _ rfl rfl) (same _ rfl rfl)
      (fun _ _ => same _ rfl rfl) fun _ _ => ?_
    obtain ⟨acc, overlay⟩ := bodyOf_displays ordinary (s.take _)
    exact ⟨acc, overlay⟩
  all_goals
    exact (State.Reported.of_same (run_acc (of_decide_eq_false rfl) s)
      (congrArg Reports.overlay (run_rep (of_decide_eq_false rfl) s))).displays

/-! ### The ordinary commands -/

theorem State.ConfigInv.calm {s : State} (h : s.ConfigInv) : s.cal.Calm s.mgt.config := ⟨h.calibration, h.deadline⟩

theorem State.ConfigInv.tracks {s : State} (h : s.ConfigInv) : s.trk.Calm s.mgt.config := ⟨h.tracker, h.dwell⟩

theorem run_config {c : Instr} (ordinary : configures c = false) (s : State) :
    (s.run c).mgt.config = s.mgt.config := by
  cases governed : governs c
  · exact (run_raises governed s).config
  cases c
  case clearFaults req =>
    exact run_request_mgt (P := fun m => m.config = s.mgt.config) rfl rfl rfl rfl
  case powerReset | enterConfig | writeEntry | commit | softReset => cases ordinary
  all_goals cases governed

theorem run_ordinary_configInv {c : Instr} (ordinary : configures c = false) {s : State} (acq : s.acq.Inv)
    (h : s.ConfigInv) : (s.run c).ConfigInv := by
  have config := run_config ordinary s
  have weighs := run_weighs ordinary s
  have calm := run_calm ordinary h.calm
  have tracks := run_tracks ordinary s
  have displays := run_displays ordinary s
  exact
    { weighing := by
        rw [config]
        exact weighs.disabled.trans h.weighing
      calibration := by
        rw [config]
        exact calm.off
      deadline := calm.deadline
      tracker := by
        rw [config]
        exact (tracks.calm h.tracks).idle
      dwell := (tracks.calm h.tracks).dwell
      queues := fun unconfigured => by
        rw [config] at unconfigured
        exact run_queuesOff ordinary acq unconfigured (h.queues unconfigured)
      record := fun running => by
        rw [config] at running
        rw [displays.acc.params]
        exact h.record running
      weighs := fun running => by
        rw [config] at running
        rw [weighs.params, tracks.params]
        exact h.weighs running
      divisors := by
        rw [displays.overlay]
        exact h.divisors
      evaluated := fun running i => by
        rw [config] at running
        rw [displays.acc.params]
        exact displays.acc.settled (h.record running) i (h.evaluated running i) }

/-! ### The commands that change the configuration state -/

theorem State.endRunByConfig_ends {s : State} {m : ConfigState} (h : s.cal.Calm m) :
    s.endRunByConfig.cal.run = .off ∧ s.endRunByConfig.cal.startOpen = false := by
  unfold State.endRunByConfig
  split
  next off => exact ⟨off, h.deadline (by rw [off]; nofun)⟩
  next => exact ⟨rfl, rfl⟩
  next => exact ⟨rfl, rfl⟩

theorem State.takeEnterConfig_configInv {s : State} (h : s.ConfigInv) : s.takeEnterConfig.ConfigInv := by
  obtain ⟨run, startOpen⟩ := State.endRunByConfig_ends h.calm
  have frame : s.endRunByConfig = _ := s.endRunByConfig_frame
  have rep : s.endRunByConfig.rep = s.rep := by rw [frame]
  exact
    { weighing := iff_of_true rfl nofun
      calibration := fun _ => run
      deadline := fun _ => startOpen
      tracker := fun _ => ⟨rfl, rfl, rfl, rfl, rfl⟩
      dwell := rfl
      queues := nofun
      record := nofun
      weighs := nofun
      divisors := by
        change ∀ e ∈ s.endRunByConfig.rep.overlay.toList, _
        rw [rep]
        exact h.divisors
      evaluated := nofun }

theorem Reports.initial_divisors : ∀ e ∈ Reports.initial.overlay.toList, e.divisor ∈ [1, 10, 100, 1000] := by
  decide

theorem State.takeSoftReset_configInv {s : State} (h : s.ConfigInv) : s.takeSoftReset.ConfigInv := by
  obtain ⟨-, startOpen⟩ := State.endRunByConfig_ends h.calm
  exact
    { weighing := iff_of_true rfl nofun
      calibration := fun _ => rfl
      deadline := fun _ => startOpen
      tracker := fun _ => ⟨rfl, rfl, rfl, rfl, rfl⟩
      dwell := rfl
      queues := fun _ q => by cases q <;> rfl
      record := nofun
      weighs := nofun
      divisors := Reports.initial_divisors
      evaluated := nofun }

theorem State.powerReset_configInv (straps : BitVec 4) (s : State) : (s.powerReset straps).ConfigInv where
  weighing := iff_of_true rfl nofun
  calibration _ := rfl
  deadline _ := rfl
  tracker _ := ⟨rfl, rfl, rfl, rfl, rfl⟩
  dwell := rfl
  queues _ q := by cases q <;> rfl
  record := nofun
  weighs := nofun
  divisors := Reports.initial_divisors
  evaluated := nofun

/-- The WEIGH step passes exactly the records of R88. -/
theorem WeighRecord.commits_iff (p : WeighRecord) (k : CycleRecord) :
    p.commits k.thetaDig k.thetaCarry = true ↔ p.works k := by
  simp only [WeighRecord.commits, WeighRecord.works, inRange, Bool.and_eq_true, decide_eq_true_eq]
  omega

/-- Every block but load accounting takes the COMMIT (R184). -/
def State.committing (s : State) : State :=
  { s with
    link := s.link.commit, sig := s.sig.commit, acq := s.acq.commit, time := s.time.commit
    weigh := s.weigh.commit (s.sig.valueOf .boom), rep := s.rep.commit, mgt := s.mgt.commit }

theorem State.takeCommit_eq (s : State) : s.takeCommit = s.committing.commitAccounts := rfl

theorem State.takeCommit_committing (s : State) :
    s.takeCommit = { s.committing with acc := s.takeCommit.acc, handed := s.takeCommit.handed } := by
  rw [State.takeCommit_eq]
  exact State.commitAccounts_frame s.committing

theorem State.takeCommit_evaluates (s : State) :
    s.takeCommit.acc.params = s.acc.params ∧ s.takeCommit.acc.log = s.acc.log ∧
      ∀ i, s.takeCommit.acc.slot i = s.acc.committed i := by
  rw [State.takeCommit_eq]
  exact State.commitAccounts_evaluates s.committing

theorem State.takeCommit_configInv {s : State} (h : s.ConfigInv) (passes : s.commitFailure = none) :
    s.takeCommit.ConfigInv := by
  obtain ⟨-, weigh, account⟩ := State.commitFailure_none passes
  obtain ⟨params, -, slots⟩ := s.takeCommit_evaluates
  have weighs : s.takeCommit.weigh = s.weigh.commit (s.sig.valueOf .boom) := by rw [s.takeCommit_committing]; rfl
  have cal : s.takeCommit.cal = s.cal := by rw [s.takeCommit_committing]; rfl
  have trk : s.takeCommit.trk = s.trk := by rw [s.takeCommit_committing]; rfl
  have running : s.takeCommit.mgt.config = .run := by rw [s.takeCommit_mgt]; rfl
  exact
    { weighing := by
        rw [weighs, running]
        refine iff_of_false ?_ (Classical.not_not.2 rfl)
        simp only [Weighing.commit]
        split <;> nofun
      calibration := fun other => absurd running other
      deadline := by
        rw [cal]
        exact h.deadline
      tracker := fun other => absurd running other
      dwell := by
        rw [trk]
        exact h.dwell
      queues := fun other => by rw [running] at other; cases other
      record := fun _ => (congrArg AccountRecord.commits params).trans account
      weighs := fun _ => by
        rw [weighs, trk]
        exact (WeighRecord.commits_iff _ _).1 weigh
      divisors := by
        rw [State.takeCommit_rep]
        exact h.divisors
      evaluated := fun _ i => by
        rw [slots, params, Accounts.committed]
        split
        · exact fun _ => rfl
        next free => exact fun held => absurd held free }

/-! ### Table writes -/

theorem readOverlay_divisor {d : List Byte} {e : OverlayEntry} (h : readOverlay d = some e) :
    e.divisor ∈ [1, 10, 100, 1000] := by
  simp only [readOverlay, Option.bind_eq_bind, Option.bind_eq_some_iff] at h
  obtain ⟨-, -, enable, -, set, -, offset, -, wide, -, item, -, divisor, hd, fill, -, h⟩ := h
  cases h
  exact List.mem_of_getElem? hd

/-- A table write outside RUN and UNCONFIGURED. -/
theorem State.writeTable_configInv {s t : State} {table index : Nat} {d : List Byte} (h : s.ConfigInv)
    (config : s.mgt.config = .config) (written : s.writeTable table index d = some t) : t.ConfigInv := by
  have idle : s.mgt.config ≠ .run := by rw [config]; nofun
  have set : s.mgt.config ≠ .unconfigured := by rw [config]; nofun
  have same : ∀ u : State, u.mgt.config = s.mgt.config → u.weigh.state = s.weigh.state → u.cal.run = s.cal.run →
      u.cal.startOpen = s.cal.startOpen → (u.trk.phase = s.trk.phase ∧ u.trk.pending = s.trk.pending ∧
        u.trk.cycleStart = s.trk.cycleStart ∧ u.trk.dumped = s.trk.dumped ∧ u.trk.candidate = s.trk.candidate ∧
        u.trk.startOpen = s.trk.startOpen) →
      (∀ e ∈ u.rep.overlay.toList, e.divisor ∈ [1, 10, 100, 1000]) → u.ConfigInv := by
    rintro u config' state run startOpen ⟨phase, pending, cycleStart, dumped, candidate, open'⟩ divisors
    exact
      { weighing := by rw [config', state]; exact h.weighing
        calibration := by rw [config', run]; exact h.calibration
        deadline := by rw [run, startOpen]; exact h.deadline
        tracker := by rw [config', phase, pending, cycleStart, dumped, candidate]; exact h.tracker
        dwell := by rw [open', candidate]; exact h.dwell
        queues := fun other => absurd (config' ▸ other) set
        record := fun other => absurd (config' ▸ other) idle
        weighs := fun other => absurd (config' ▸ other) idle
        divisors := divisors
        evaluated := fun other => absurd (config' ▸ other) idle }
  have tracks : s.trk.phase = s.trk.phase ∧ s.trk.pending = s.trk.pending ∧ s.trk.cycleStart = s.trk.cycleStart ∧
      s.trk.dumped = s.trk.dumped ∧ s.trk.candidate = s.trk.candidate ∧ s.trk.startOpen = s.trk.startOpen :=
    ⟨rfl, rfl, rfl, rfl, rfl, rfl⟩
  unfold State.writeTable at written
  split at written
  case h_7 =>
    split at written <;> obtain ⟨v, -, rfl⟩ := Option.map_eq_some_iff.1 written <;>
      exact same _ rfl rfl rfl rfl tracks h.divisors
  case h_13 =>
    obtain ⟨v, hv, rfl⟩ := Option.map_eq_some_iff.1 written
    unfold Calibration.write at hv
    split at hv
    · obtain ⟨x, -, rfl⟩ := Option.map_eq_some_iff.1 hv
      exact same _ rfl rfl rfl rfl tracks h.divisors
    · split at hv <;> obtain ⟨x, -, rfl⟩ := Option.map_eq_some_iff.1 hv <;>
        exact same _ rfl rfl rfl rfl tracks h.divisors
  case h_14 =>
    obtain ⟨v, hv, rfl⟩ := Option.map_eq_some_iff.1 written
    refine same _ rfl rfl rfl rfl tracks fun e he => ?_
    change e ∈ (s.rep.overlay.setIfInBounds index v).toList at he
    rw [Vector.toList_setIfInBounds] at he
    obtain old | new := List.mem_or_eq_of_mem_set he
    · exact h.divisors e old
    · exact new ▸ readOverlay_divisor hv
  case h_15 =>
    obtain ⟨v, hv, rfl⟩ := Option.map_eq_some_iff.1 written
    unfold Reports.write at hv
    split at hv <;> obtain ⟨x, -, rfl⟩ := Option.map_eq_some_iff.1 hv <;>
      exact same _ rfl rfl rfl rfl tracks h.divisors
  case h_17 => cases written
  all_goals
    obtain ⟨v, -, rfl⟩ := Option.map_eq_some_iff.1 written
    exact same _ rfl rfl rfl rfl tracks h.divisors

/-! ### Commands and steps -/

theorem bodyOf_configInv {c : Instr} (configuring : configures c = true) {s : State} (h : s.ConfigInv) :
    (bodyOf c s).state.ConfigInv := by
  cases c
  case enterConfig =>
    simp only [bodyOf, State.doEnterConfig]
    split
    · exact h
    · exact State.takeEnterConfig_configInv h
  case writeEntry req =>
    obtain ⟨status, hb⟩ | ⟨t, config, -, -, written, hb⟩ := s.doWriteEntry_cases req <;> simp only [bodyOf, hb]
    · exact h
    · exact State.writeTable_configInv h config written
  case commit =>
    obtain hb | ⟨-, passes, hb⟩ := s.doCommit_cases <;> simp only [bodyOf, hb]
    · exact h
    · exact State.takeCommit_configInv h passes
  case softReset => exact State.takeSoftReset_configInv h
  case powerReset => exact h
  all_goals cases configuring

theorem State.ConfigInv.withLink {s : State} (h : s.ConfigInv) (l : Link) : State.ConfigInv { s with link := l } :=
  { h with }

theorem State.ConfigInv.withHanded {s : State} (h : s.ConfigInv) (cs : List Instr) :
    State.ConfigInv { s with handed := cs } :=
  { h with }

theorem run_configInv (c : Instr) {s : State} (acq : s.acq.Inv) (h : s.ConfigInv) : (s.run c).ConfigInv := by
  cases configuring : configures c
  · exact run_ordinary_configInv configuring acq h
  cases c
  case powerReset straps => exact State.powerReset_configInv straps s
  case enterConfig | writeEntry | commit | softReset =>
    rw [run_request rfl rfl]
    refine State.serve_keeps (h.withHanded _) ((h.withHanded _).withLink _) (fun _ _ => (h.withHanded _).withLink _)
      fun _ _ => ?_
    exact (bodyOf_configInv configuring (h.withHanded _)).withLink _
  all_goals cases configuring

/-- The drain record and the configuration state, with the acquisition unit's invariant that they rest on. -/
structure State.Ordered (s : State) : Prop where
  acq : s.acq.Inv
  drain : s.DrainInv
  config : s.ConfigInv

theorem step_ordered {s t : State} (h : s.Ordered) (hstep : step s = .next t) : t.Ordered := by
  refine step_keeps (P := State.Ordered) ?_ ?_ ?_ ?_ h hstep
  · exact fun u rest hu => ⟨hu.acq, hu.drain.kept (.of_same rfl rfl rfl), { hu.config with }⟩
  · exact fun u n hu => ⟨hu.acq.same rfl rfl rfl rfl rfl rfl, hu.drain.kept (.of_same rfl rfl rfl), { hu.config with }⟩
  · exact fun c u hu => ⟨run_acqInv c hu.acq, run_drainInv c hu.drain, run_configInv c hu.acq hu.config⟩
  · exact fun u hu => ⟨hu.acq.tick, hu.drain.kept (.of_same rfl rfl rfl), { hu.config with }⟩

/-- Settles O60: load accounting's invariant is kept by every command and by the passing of time; the drain record and
the configuration state are kept in line together with the acquisition unit. -/
theorem stepKeepsAccountsAndConfigInv : Obligations.StepKeepsAccountsAndConfigInv := by
  refine ⟨fun _ _ => step_accInv, fun s t h hstep => ?_⟩
  obtain ⟨-, drain, config⟩ := step_ordered ⟨h.acquisition, h.drain, h.config⟩ hstep
  exact ⟨drain, config⟩

end Sys2Proof.Machine
end

section
/-!
The state after a power reset: O4, and every invariant of it, O5.
-/

namespace Sys2Proof.Machine

open Sys2Proof

theorem State.inv_afterPowerReset (straps : BitVec 4) (s : State) : (s.powerReset straps).Inv where
  link := Link.inv_initial straps
  signals := Signals.inv_initial
  acquisition := Acquisition.inv_initial.same rfl rfl rfl rfl rfl rfl
  accounts := Accounts.inv_initial
  drain := State.drainInv_initial straps s
  config := State.powerReset_configInv straps s

/-- Settles O5: the reset state is the power reset of itself. -/
theorem invariantsAtReset : Obligations.InvariantsAtReset := by
  refine ⟨State.inv_afterPowerReset 0 State.reset, fun straps s t hrun => ?_⟩
  obtain rfl := eq_run_of_exec hrun
  exact State.inv_afterPowerReset straps s

/-! ### The reset tables -/

theorem hasGroup_all (g : Group) : hasGroup 15 g = true := by cases g <;> rfl

theorem hasGroup_infoOperate (g : Group) : hasGroup 3 g = true ↔ g = .info ∨ g = .operate := by
  cases g <;> decide

theorem eq_of_mem_replicate {α : Type} {n : Nat} {a x : α} (h : x ∈ (Vector.replicate n a).toList) : x = a := by
  rw [Vector.toList_replicate] at h
  exact List.eq_of_mem_replicate h

theorem Signals.slotOf_initial (r : Role) : Signals.initial.slotOf r = none := by cases r <;> rfl

theorem Signals.entry_initial (i : Fin 32) :
    Signals.initial.config[i] = ⟨1, 0, 0, 0⟩ ∧ Signals.initial.slots[i] = ⟨0, 0, .never, 0, .unset, none⟩ :=
  ⟨Vector.getElem_replicate .., Vector.getElem_replicate ..⟩

theorem CalRecord.valid_initial : CalRecord.initial.valid = false := by decide

theorem CalRecord.force_initial {f : Option Int}
    (h : f ∈ CalRecord.initial.empty.toList ++ CalRecord.initial.reference.toList) : f = none := by
  obtain h | h := List.mem_append.1 h <;> exact eq_of_mem_replicate h

theorem Reports.route_initial (k : ReportKind) : Reports.initial.route k = .off := by cases k <;> rfl

/-- Settles O4, block by block: the lists of entries are replicated entries, the rest is as the reset state writes it.
-/
theorem powerResetState : Obligations.PowerResetState := by
  intro straps s
  refine ⟨s.powerReset straps, exec_eq_next_iff.2 rfl, ?_, ?_, ?_, ?_, ?_, ?_, ?_, ?_, ?_, ?_, rfl, rfl⟩
  case _ => -- the link unit
    exact ⟨rfl, rfl, rfl, fun p => by cases p <;> exact ⟨rfl, rfl, rfl, rfl, rfl⟩, rfl, rfl, rfl⟩
  case _ => -- the signal table
    exact ⟨fun e he => eq_of_mem_replicate he, fun e he => eq_of_mem_replicate he ▸ rfl, Signals.slotOf_initial,
      Signals.entry_initial, rfl⟩
  case _ => -- the acquisition unit
    exact ⟨fun w hw => eq_of_mem_replicate hw, fun r hr => eq_of_mem_replicate hr, rfl, rfl, rfl, rfl, rfl⟩
  case _ => -- the time base
    exact ⟨rfl, fun i => by cases i <;> exact ⟨rfl, rfl, rfl⟩, fun v hv => eq_of_mem_replicate hv,
      fun e he => eq_of_mem_replicate he, rfl, rfl, rfl, rfl, rfl⟩
  case _ => -- the weighing engine
    exact ⟨rfl, rfl, rfl, rfl, rfl, rfl, rfl, rfl⟩
  case _ => -- the calibration unit
    refine ⟨fun c hc => ?_, rfl, rfl, rfl, rfl, rfl, rfl, rfl, rfl, fun x hx => eq_of_mem_replicate hx,
      fun x hx => eq_of_mem_replicate hx, rfl, rfl⟩
    obtain rfl : c = CalRecord.initial := hc.elim id id
    exact ⟨fun f => CalRecord.force_initial, rfl, rfl, rfl, rfl, CalRecord.valid_initial⟩
  case _ => -- the cycle tracker
    exact ⟨rfl, rfl, rfl, rfl, rfl, rfl, rfl⟩
  case _ => -- load accounting
    exact ⟨fun i => Vector.getElem_replicate .., rfl, rfl, rfl, rfl, rfl, rfl, rfl, rfl, rfl, rfl⟩
  case _ => -- the report engine
    exact ⟨fun e he => eq_of_mem_replicate he, Reports.route_initial,
      fun p => by cases p <;> exact ⟨rfl, rfl, rfl, rfl, rfl⟩, rfl, rfl⟩
  case _ => -- the management unit
    exact ⟨rfl, rfl, rfl, hasGroup_all, hasGroup_infoOperate⟩

end Sys2Proof.Machine
end

section
/-!
A step with no command waiting: which event comes next, and what one microsecond changes. Settles O2.
-/

namespace Sys2Proof.Machine

open Sys2Proof

/-! ### What comes next -/

theorem mem_bothPorts (p : Port) : p ∈ bothPorts := by cases p <;> decide

theorem Ingress.downDue_iff (i : Ingress) : i.downDue = true ↔ i.mode ≠ .down ∧ 2000 ≤ i.silence := by
  simp [Ingress.downDue]

theorem SlotLive.staleDue_iff (v : SlotLive) :
    v.staleDue = true ↔ ∃ x, v.timer = some x ∧ x.limit * 1000 ≤ x.elapsed := by
  unfold SlotLive.staleDue
  cases v.timer <;> simp

theorem timerDue_iff (t : Timer) : timerDue t = true ↔ t.running = true ∧ t.left = 0 := by
  simp [timerDue]

/-- The events in the model's list are those that are due. -/
theorem State.mem_dueEvents (s : State) (c : Instr) : c ∈ s.dueEvents ↔ s.Due c := by
  simp only [State.dueEvents, List.mem_append, List.mem_map, List.mem_filter, or_assoc]
  constructor
  · rintro (⟨p, ⟨-, h⟩, rfl⟩ | ⟨p, ⟨-, h⟩, rfl⟩ | ⟨t, ⟨ht, h⟩, rfl⟩ | h | ⟨i, ⟨-, h⟩, rfl⟩ | h)
    · obtain ⟨mode, silence⟩ := (Ingress.downDue_iff _).1 h
      exact .silence p mode silence
    · obtain ⟨x, tx, left⟩ := (Option.any_eq_true _ _).1 h
      exact .sent p x tx (by simpa using left)
    · obtain ⟨running, left⟩ := (timerDue_iff _).1 h
      exact .timer t.1 t.2 ht running left
    · split at h
      next now => exact List.mem_singleton.1 h ▸ .second now
      next => cases h
    · obtain ⟨x, timer, elapsed⟩ := (SlotLive.staleDue_iff _).1 h
      exact .stale i x timer elapsed
    · split at h
      next now => exact List.mem_singleton.1 h ▸ .limit now.1 now.2
      next => cases h
  · rintro (⟨p, mode, silence⟩ | ⟨p, x, tx, left⟩ | ⟨i, c, ht, running, left⟩ | now | ⟨i, x, timer, elapsed⟩ | ⟨relay,
      limit⟩)
    · exact .inl ⟨p, ⟨mem_bothPorts p, (Ingress.downDue_iff _).2 ⟨mode, silence⟩⟩, rfl⟩
    · exact .inr (.inl ⟨p, ⟨mem_bothPorts p, by simp [Link.transmissionDue, tx, left]⟩, rfl⟩)
    · exact .inr (.inr (.inl ⟨(i, c), ⟨ht, (timerDue_iff _).2 ⟨running, left⟩⟩, rfl⟩))
    · exact .inr (.inr (.inr (.inl (by rw [if_pos now]; exact List.mem_singleton_self _))))
    · exact .inr (.inr (.inr (.inr (.inl
        ⟨i, ⟨List.mem_ofFn.2 ⟨i, rfl⟩, (SlotLive.staleDue_iff _).2 ⟨x, timer, elapsed⟩⟩, rfl⟩))))
    · exact .inr (.inr (.inr (.inr (.inr (by rw [if_pos ⟨relay, limit⟩]; exact List.mem_singleton_self _)))))

theorem step_event {s t : State} {c : Instr} (empty : s.pending = []) (next : s.nextEvent = some (c, t)) :
    step s = exec c t := by
  simp only [step, empty, next]

theorem step_tick {s : State} (empty : s.pending = []) (next : s.nextEvent = none) : step s = .next s.tick := by
  simp only [step, empty, next]

theorem State.noArbiter {s : State} (idle : ∀ p, s.link.arbiterDue p = false) :
    bothPorts.find? s.link.arbiterDue = none := by
  simp [idle]

/-! ### One microsecond -/

theorem Egress.tick_sends {e : Egress} {x : Transmission} (h : e.tx = some x) :
    e.tick = { e with tx := some { x with left := x.left - 1 } } := by
  rw [Egress.tick, h]

theorem Egress.tick_spaces {e : Egress} (h : e.tx = none) :
    e.tick = if e.spaceUs = 9 then { e with spaceUs := 0, gap := satInc 15 e.gap }
      else { e with spaceUs := e.spaceUs + 1 } := by
  rw [Egress.tick, h]

theorem Link.tick_egress {l : Link} (h : carries l.relay = true) (p : Port) :
    l.tick.egress.get p = (l.egress.get p).tick := by
  rw [Link.tick, if_pos h]
  cases p <;> rfl

theorem State.tick_ticked (s : State) : s.Ticked s.tick where
  tag := rfl
  second := rfl
  timers i := by cases i <;> rfl
  silence p := by cases p <;> rfl
  limit := by
    change s.link.limit.tick = _
    cases s.link.limit <;> rfl
  cutOff h := by
    change (if carries s.link.relay = true then _ else s.link.egress) = _
    rw [h]
    rfl
  sends p x h tx := (Link.tick_egress h p).trans (Egress.tick_sends tx)
  spaces p h tx := (Link.tick_egress h p).trans (Egress.tick_spaces tx)
  staleness i := by
    change (s.sig.slots.map SlotLive.tick)[i] = _
    rw [Fin.getElem_fin, Vector.getElem_map]
    rfl
  conversion := rfl
  rest := rfl

/-- Settles O2, along the order of `State.nextEvent`. -/
theorem emptyQueueStep : Obligations.EmptyQueueStep := by
  intro s empty
  refine ⟨fun p due => ?_, fun idle => ?_⟩
  · cases found : bothPorts.find? s.link.arbiterDue with
    | none => exact absurd due (List.find?_eq_none.1 found p (mem_bothPorts p))
    | some q => exact ⟨q, List.find?_some found, step_event empty (by rw [State.nextEvent, found])⟩
  have none := State.noArbiter idle
  refine ⟨fun c rest handed => step_event empty (by rw [State.nextEvent, none, handed]), fun handed => ?_⟩
  have later : s.nextEvent = if s.acq.conversionDue then some s.freeConversion else match s.dueEvents with
      | c :: _ => some (c, s)
      | [] => Option.none := by
    rw [State.nextEvent, none, handed] <;> rfl
  refine ⟨fun c conversion left => ⟨Config.converterResult s.acq.freeReads, step_event empty ?_⟩, fun busy => ?_⟩
  · rw [later, if_pos (by simp [Acquisition.conversionDue, conversion, left])]
    rfl
  · have running : s.acq.conversionDue = false := by
      cases hc : s.acq.conversion with
      | none => simp [Acquisition.conversionDue, hc]
      | some c => simp [Acquisition.conversionDue, hc, busy c hc]
    rw [running] at later
    cases events : s.dueEvents with
    | nil =>
      refine ⟨fun ⟨c, due⟩ => ?_, fun _ => ⟨s.tick, step_tick empty (by rw [later, events]; rfl), s.tick_ticked⟩⟩
      rw [← State.mem_dueEvents, events] at due
      cases due
    | cons c rest =>
      have due : s.Due c := (s.mem_dueEvents c).1 (events ▸ List.mem_cons_self)
      exact ⟨fun _ => ⟨c, due, step_event empty (by rw [later, events]; rfl)⟩, fun h => absurd due (h c)⟩

end Sys2Proof.Machine
end

section
/-!
The frame check (R3): a register that is fed its own bits shifts out to 0. Settles O6.
-/

namespace Sys2Proof.Machine

open Sys2Proof

/-- A register that is fed its own top bit only shifts. -/
theorem crcBit_shift (r : BitVec 16) {k : Nat} (hk : k < 16) {bit : Bool} (h : bit = r.getLsbD (15 - k)) :
    crcBit (r <<< k) bit = r <<< (k + 1) := by
  have top : (r <<< k).msb = bit := by
    rw [h, BitVec.msb_eq_getLsbD_last, BitVec.getLsbD_shiftLeft]
    simp [show ¬ 15 < k by omega]
  rw [crcBit, if_pos top, BitVec.shiftLeft_add]

theorem crcByte_eq_foldl (r : BitVec 16) (b : Byte) :
    crcByte r b = (List.range 8).foldl (fun r j => crcBit r (b.getLsbD (7 - j))) r := rfl

/-- A byte of its own top bits shifts the register by a byte. -/
theorem crcByte_shift (r : BitVec 16) {k : Nat} (hk : k ≤ 8) {b : Byte}
    (h : ∀ j < 8, b.getLsbD (7 - j) = r.getLsbD (15 - (k + j))) : crcByte (r <<< k) b = r <<< (k + 8) := by
  have bits : ∀ n ≤ 8, (List.range n).foldl (fun r j => crcBit r (b.getLsbD (7 - j))) (r <<< k) = r <<< (k + n) := by
    intro n hn
    induction n with
    | zero => rfl
    | succ n ih =>
      rw [List.range_succ, List.foldl_append, ih (by omega)]
      exact crcBit_shift r (by omega) (h n (by omega))
  rw [crcByte_eq_foldl]
  exact bits 8 (Nat.le_refl _)

theorem crc_append (bytes more : List Byte) : crc (bytes ++ more) = more.foldl crcByte (crc bytes) :=
  List.foldl_append

theorem crc_withCheck (bytes : List Byte) : crc (withCheck bytes) = 0 := by
  have high : crcByte (crc bytes <<< 0) ((crc bytes).extractLsb' 8 8) = crc bytes <<< 8 :=
    crcByte_shift _ (by decide) fun j hj => by
      rw [BitVec.getLsbD_extractLsb', decide_eq_true (by omega), Bool.true_and]
      congr 1
      omega
  have low : crcByte (crc bytes <<< 8) ((crc bytes).extractLsb' 0 8) = crc bytes <<< 16 :=
    crcByte_shift _ (Nat.le_refl _) fun j hj => by
      rw [BitVec.getLsbD_extractLsb', decide_eq_true (by omega), Bool.true_and]
      congr 1
      omega
  rw [BitVec.shiftLeft_zero] at high
  rw [withCheck, crc_append, List.foldl_cons, List.foldl_cons, List.foldl_nil, high, low]
  exact BitVec.shiftLeft_eq_zero (Nat.le_refl _)

theorem crc_checkValue : crc [0x31, 0x32, 0x33, 0x34, 0x35, 0x36, 0x37, 0x38, 0x39] = 0x29B1 := by decide +kernel

theorem withCheck_length (bytes : List Byte) : (withCheck bytes).length = bytes.length + 2 := by
  simp [withCheck]

/-- Settles O6. -/
theorem checkOfFrame : Obligations.CheckOfFrame := by
  refine ⟨fun bytes => ⟨crc_withCheck bytes, ?_⟩, fun bytes hi lo h => ?_, crc_checkValue, rfl⟩
  · have body : (withCheck bytes).take ((withCheck bytes).length - 2) = bytes := by
      rw [withCheck_length]
      exact List.take_left' rfl
    rw [checkHolds, body]
    exact beq_self_eq_true _
  · have body : (bytes ++ [hi, lo]).take ((bytes ++ [hi, lo]).length - 2) = bytes := by
      simp
    rw [checkHolds, body] at h
    exact (beq_iff_eq.1 h).symm

end Sys2Proof.Machine
end

section
/-!
The characters of an ingress side: the step without a closing frame (O7) and what becomes of a frame that closes (O8).
-/

namespace Sys2Proof.Machine

open Sys2Proof

/-! ### The relay state while a character is taken -/

theorem State.offerRelay_relay (p : Port) (e : RelayEntry) (s : State) :
    (s.offerRelay p e).link.relay = s.link.relay := by
  unfold State.offerRelay
  dsimp only
  split
  · rfl
  · rw [State.setFault_link]
    rfl

theorem State.dispose_relay (p : Port) (frame : List Byte) (s : State) :
    (s.dispose p frame).link.relay = s.link.relay := by
  unfold State.dispose State.divert
  split
  · split <;> rfl
  · split
    · exact State.offerRelay_relay ..
    · split
      · dsimp only
        split
        · rw [State.matchFrame_link]
        · rw [State.offerRelay_relay, State.matchFrame_link]
      · exact State.offerRelay_relay ..

theorem State.accept_relay (p : Port) (c : ClosedFrame) (s : State) : (s.accept p c).link.relay = s.link.relay := by
  unfold State.accept
  split
  · dsimp only
    split
    · exact State.dispose_relay ..
    · exact State.offerRelay_relay ..
  · rfl

theorem State.spaceTest_not_takeover {s : State} (h : s.link.relay ≠ .takeover) (c : Character) :
    s.spaceTest c = s := by
  unfold State.spaceTest State.onLink
  rw [Link.takeoverTest_not_takeover h]
  exact ite_self _

theorem not_takeover_of_carries {r : RelayState} (h : carries r = true) : r ≠ .takeover := by
  rintro rfl
  cases h

/-! ### Reception -/

/-- What a character does, from the state whose ingress side has taken it. -/
theorem exec_characterReceived (p : Port) (c : Character) (s : State) :
    let i := s.link.ingress.get p
    let x := ingressStep i.mode (nextRun i.spaces c) c
    exec (.characterReceived p c) s = .next
      (((((s.hears p c x.mode (nextRun i.spaces c)).countHunt p x.discard).acceptClosed p x.closed).spaceTest
        c).releaseTest) :=
  rfl

theorem State.accept_cut_off {s : State} (h : carries s.link.relay = false) (p : Port) (c : ClosedFrame) :
    s.accept p c = s := by
  rw [State.accept, h]
  rfl

theorem State.countHunt_keeps {s : State} {d : Bool} (h : ¬ (d = true ∧ carries s.link.relay = true)) (p : Port) :
    s.countHunt p d = s :=
  if_neg (by rwa [Bool.and_eq_true])

theorem State.countHunt_counts {s : State} {d : Bool} (h : d = true ∧ carries s.link.relay = true) (p : Port) :
    s.countHunt p d =
      { s with link := s.link.count p fun k => { k with huntDiscards := satInc 65535 k.huntDiscards } } :=
  if_pos (by rwa [Bool.and_eq_true])

/-- No character leaves an ingress side DOWN. -/
theorem ingressStep_not_down (m : IngressMode) (n : Nat) (c : Character) : (ingressStep m n c).mode ≠ .down := by
  rcases m with _ | m | _ | f <;> cases c <;> simp [ingressStep, huntStep, betweenStep, frameStep]
  all_goals split <;> nofun

/-- Only a SPACE character makes the segments quiet (R17). -/
theorem State.hears_not_quiet {s : State} {p : Port} {c : Character} {mode : IngressMode} {run : Nat}
    (h : (s.link.ingress.get p).Takes c mode run) (other : c ≠ .space) : ¬ (s.hears p c mode run).link.quiet := by
  obtain ⟨rfl, rfl⟩ := h.step
  intro quiet
  have here := quiet p
  rw [State.hears, Link.setIngress, PerPort.get_set_same] at here
  obtain spaces | down := here
  · cases c
    case space => exact other rfl
    all_goals exact absurd (show 16 ≤ 0 from spaces) (by decide)
  · exact ingressStep_not_down _ _ _ down

/-- Settles O7: the ingress step is the one R6 to R8 allow, its hunt discard is counted or not, and the two tests
follow. -/
theorem characterTaken : Obligations.CharacterTaken := by
  refine ⟨fun i c => ⟨_, _, ingressStep_takes i c⟩, ?_⟩
  intro p c mode run s
  dsimp only
  intro takes unclosed
  obtain ⟨hm, hr⟩ := takes.step
  have hx := exec_characterReceived p c s
  dsimp only at hx
  rw [← hm, ← hr] at hx
  have unaccepted : ∀ v : State, v.link.relay = s.link.relay →
      v.acceptClosed p (ingressStep (s.link.ingress.get p).mode run c).closed = v := by
    intro v relay
    by_cases cut : carries s.link.relay = false
    · cases (ingressStep (s.link.ingress.get p).mode run c).closed with
      | none => rfl
      | some f => exact State.accept_cut_off (relay ▸ cut) p f
    · rw [ingressStep_closed run fun f hf => (unclosed f hf).resolve_right cut]
      rfl
  have discard : (ingressStep (s.link.ingress.get p).mode run c).discard = true ↔
      (s.link.ingress.get p).mode = .hunt true ∧ mode = .aligned none := by
    rw [ingressStep_discard, hm, hr]
  refine ⟨_, hx, fun kept => ?_, fun counted => ?_⟩
  · rw [State.countHunt_keeps (by rw [discard, and_assoc]; exact kept), unaccepted]
    · exact State.settles c _ (State.hears_not_quiet takes)
    · rfl
  · rw [State.countHunt_counts (by rw [discard, and_assoc]; exact counted), unaccepted]
    · exact State.settles c _ fun other quiet => State.hears_not_quiet takes other quiet
    · rfl

/-! ### A frame that closes -/

/-- Offering a frame to the relay queue, as the statements spell it (R12). -/
theorem State.offerRelay_eq (p : Port) (e : RelayEntry) (s : State) : s.offerRelay p e = s.relays p e := by
  unfold State.offerRelay State.relays
  dsimp only
  by_cases fits : (s.link.relayQ.get (otherPort p)).length + 1 ≤ 8 ∧
      relayBytes (s.link.relayQ.get (otherPort p)) + e.bytes.length ≤ 512
  · rw [if_pos fits, relayFits, if_pos (decide_eq_true fits)]
    rfl
  · rw [if_neg fits, relayFits, if_neg (by rw [decide_eq_false fits]; nofun)]
    rfl

theorem frameStep_mode (f : FrameIn) {c : Character} (h : ∀ b, c ≠ .data b) :
    (frameStep f c).mode = modeAfterClose c := by
  cases c with
  | data b => exact absurd rfl (h b)
  | _ => rfl

theorem frameStep_closed (f : FrameIn) {c : Character} (h : ∀ b, c ≠ .data b) :
    (frameStep f c).closed = some ⟨f, decide (c = .endMark)⟩ := by
  cases c with
  | data b => exact absurd rfl (h b)
  | _ => rfl

theorem nextRun_close (n : Nat) {c : Character} (h : ∀ b, c ≠ .data b) :
    nextRun n c = if c = .space then satInc 16 n else 0 := by
  cases c with
  | data b => exact absurd rfl (h b)
  | _ => rfl

/-- A frame that closes while the part carries the line is accepted; the test of R21 and R22 follows. -/
theorem exec_closes {s : State} {p : Port} {c : Character} {f : FrameIn} (carried : carries s.link.relay = true)
    (mode : (s.link.ingress.get p).mode = .aligned (some f)) (closes : ∀ b, c ≠ .data b) :
    exec (.characterReceived p c) s = .next
      ((s.hears p c (modeAfterClose c) (if c = .space then satInc 16 (s.link.ingress.get p).spaces else 0)).accept p
        ⟨f, decide (c = .endMark)⟩).releaseTest := by
  have hx := exec_characterReceived p c s
  have stays : (frameStep f c).discard = false := by cases c <;> rfl
  simp only [mode, ingressStep, frameStep_mode f closes, frameStep_closed f closes, nextRun_close _ closes, stays] at hx
  rw [hx, State.countHunt_keeps (by simp), State.acceptClosed, State.spaceTest_not_takeover]
  rw [State.accept_relay]
  exact not_takeover_of_carries carried

theorem PerPort.set_set {α : Type} (x : PerPort α) (p : Port) (a b : α) : (x.set p a).set p b = x.set p b := by
  cases p <;> rfl

/-- The class counter of a frame that is not good (R9). -/
def classCounter (c : Character) (f : FrameIn) (k : LinkCounters) : LinkCounters :=
  if c ≠ .endMark then { k with aborts := satInc 65535 k.aborts }
  else if f.count < 6 then { k with runts := satInc 65535 k.runts }
  else if 66 < f.count ∨ f.count ≠ 6 + (f.stored.getD 3 0).toNat then { k with giants := satInc 65535 k.giants }
  else { k with checkErrors := satInc 65535 k.checkErrors }

theorem checkHolds_iff (bytes : List Byte) :
    checkHolds bytes = true ↔ bytes = withCheck (bytes.take (bytes.length - 2)) := by
  rw [checkHolds, beq_iff_eq, eq_comm]

theorem classify_good {f : FrameIn} (h : f.good) : ClosedFrame.classify ⟨f, true⟩ = .good := by
  obtain ⟨count, low, high, length, check⟩ := h
  have holds : checkHolds f.stored = true := by
    rw [checkHolds_iff, ← count]
    exact check
  simp only [ClosedFrame.classify, Bool.not_true, Bool.false_eq_true, if_false, if_neg (Nat.not_lt.2 low),
    if_neg (not_or.2 ⟨Nat.not_lt.2 high, Classical.not_not.2 length⟩), if_pos holds]

/-- A frame that does not close as good is counted in its class. -/
theorem countClass_bad {c : Character} {f : FrameIn} (bad : ¬ (c = .endMark ∧ f.good))
    (stored : f.count ≤ 66 → f.count = f.stored.length) (k : LinkCounters) :
    ClosedFrame.classify ⟨f, decide (c = .endMark)⟩ ≠ .good ∧
      countClass (ClosedFrame.classify ⟨f, decide (c = .endMark)⟩) k = classCounter c f k := by
  unfold ClosedFrame.classify classCounter
  by_cases ended : c = .endMark
  · simp only [ended, decide_true, Bool.not_true, Bool.false_eq_true, if_false, ne_eq, not_true_eq_false]
    split
    · exact ⟨nofun, rfl⟩
    next low =>
      split
      · exact ⟨nofun, rfl⟩
      next within =>
        obtain ⟨high, length⟩ := not_or.1 within
        have fails : checkHolds f.stored ≠ true := by
          rw [ne_eq, checkHolds_iff]
          intro check
          have count := stored (Nat.not_lt.1 high)
          exact bad ⟨ended, count, Nat.not_lt.1 low, Nat.not_lt.1 high, Classical.not_not.1 length, count ▸ check⟩
        rw [if_neg fails]
        exact ⟨nofun, rfl⟩
  · simp only [ended, decide_false, Bool.not_false, if_true, ne_eq, not_false_eq_true]
    exact ⟨nofun, rfl⟩

/-- A frame that is not good is counted and offered with ABORT (R9, R10). -/
theorem State.accept_bad {s : State} {p : Port} {c : ClosedFrame} (carried : carries s.link.relay = true)
    (bad : c.classify ≠ .good) :
    s.accept p c = (s.onLink fun l => l.count p (countClass c.classify)).relays p ⟨c.frame.stored, .abort⟩ := by
  rw [State.accept, if_pos carried]
  dsimp only
  rw [if_neg bad, State.offerRelay_eq]

theorem State.accept_good {s : State} {p : Port} {f : FrameIn} (carried : carries s.link.relay = true) (good : f.good) :
    s.accept p ⟨f, true⟩ =
      (s.onLink fun l => l.count p fun k => { k with good := satInc 65535 k.good }).dispose p f.stored := by
  rw [State.accept, if_pos carried, classify_good good]
  rfl

/-- A good frame is counted and disposed of, and the test of R21 and R22 follows (R11). -/
theorem exec_good {s : State} {p : Port} {f : FrameIn} (carried : carries s.link.relay = true)
    (mode : (s.link.ingress.get p).mode = .aligned (some f)) (good : f.good) :
    exec (.characterReceived p .endMark) s = .next
      (((s.hears p .endMark (.aligned none) 0).onLink fun l => l.count p fun k =>
        { k with good := satInc 65535 k.good }).dispose p f.stored).releaseTest := by
  rw [exec_closes carried mode (by nofun)]
  exact congrArg (fun t : State => Host.Outcome.next t.releaseTest) (State.accept_good carried good)

/-- A frame counted at its port and offered to the relay queue toward the other. -/
theorem State.count_relays (s : State) (p : Port) (f : LinkCounters → LinkCounters) (e : RelayEntry) :
    let q := s.link.relayQ.get (otherPort p)
    let k := f (s.link.counters.get p)
    (s.onLink fun l => l.count p f).relays p e =
      if q.length + 1 ≤ 8 ∧ relayBytes q + e.bytes.length ≤ 512 then
        { s with link := { s.link with
            counters := s.link.counters.set p k
            relayQ := s.link.relayQ.set (otherPort p) (q ++ [e]) } }
      else
        State.setFault (dropFault (otherPort p))
          { s with link := { s.link with
              counters := s.link.counters.set p { k with relayDrops := satInc 65535 k.relayDrops } } } := by
  have counted : (s.link.count p f).counters.get p = f (s.link.counters.get p) := PerPort.get_set_same ..
  simp only [State.relays, State.onLink, counted]
  simp only [Link.count, PerPort.set_set]

/-- A good frame that is no request for this node and of a reserved class, or comes outside RUN, is offered as it
came (R11). -/
theorem State.dispose_relays {s : State} {p : Port} {frame : List Byte}
    (other : ¬ (frameClass frame = 0xF0 ∧ frameDestination frame = s.link.node))
    (plain : reservedClass (frameClass frame) = true ∨ s.mgt.config ≠ .run) :
    s.dispose p frame = s.relays p ⟨frame, .endMark⟩ := by
  rw [State.dispose, if_neg other, State.offerRelay_eq]
  split
  · rfl
  next open' => rw [if_neg (plain.resolve_left open')]

/-- Settles O8: the frame is counted in its class and offered to the relay queue toward the other port. -/
theorem closedFrameRelayed : Obligations.ClosedFrameRelayed := by
  refine ⟨fun p f c s carried _ mode closes bad stored => ?_, fun p f s carried mode good other plain => ?_⟩
  · obtain ⟨notGood, counted⟩ := countClass_bad bad stored (s.link.counters.get p)
    rw [exec_closes carried mode closes, State.accept_bad (by exact carried) notGood, State.count_relays]
    dsimp only [State.hears, Link.setIngress]
    rw [counted]
    rfl
  · rw [exec_good carried mode good, State.dispose_relays (by exact other) (by exact plain), State.count_relays]
    rfl

end Sys2Proof.Machine
end

section
/-!
Requests taken from the line: what a diverted request becomes (R11, R186), and which command its code names (R187,
R192).
Settles O9.
-/

namespace Sys2Proof.Machine

open Sys2Proof

/-! ### The command a code names -/

/-- The group whose codes hold a code (R187). -/
def codeGroup (n : Nat) : Option Group :=
  if 0x10 ≤ n ∧ n ≤ 0x17 then some .info
  else if 0x20 ≤ n ∧ n ≤ 0x27 then some .operate
  else if 0x30 ≤ n ∧ n ≤ 0x36 then some .config
  else if 0x40 ≤ n ∧ n ≤ 0x42 then some .control
  else none

theorem codeGroup_unlisted {n : Nat} (unlisted : n ∉ commandCodes) : codeGroup n = none := by
  simp only [commandCodes, List.mem_cons, List.not_mem_nil, or_false, not_or] at unlisted
  unfold codeGroup
  rw [if_neg (by omega), if_neg (by omega), if_neg (by omega), if_neg (by omega)]

theorem queueControlOf_cases (req : Request) :
    (queueControlOf req = .disarm req ∧ (req.data[1]?).map BitVec.toNat = some 1) ∨
    (queueControlOf req = .trigger req ∧ (req.data[1]?).map BitVec.toNat = some 2) ∨
    (queueControlOf req = .arm req ∧ (req.data[1]?).map BitVec.toNat ≠ some 1 ∧
      (req.data[1]?).map BitVec.toNat ≠ some 2) := by
  unfold queueControlOf
  split
  next h => exact .inl ⟨rfl, h⟩
  next h => exact .inr (.inl ⟨rfl, h⟩)
  next n disarm trigger h =>
    refine .inr (.inr ⟨rfl, ?_, ?_⟩) <;> rw [h]
    · exact fun one => disarm (Option.some.inj one)
    · exact fun two => trigger (Option.some.inj two)
  next h => exact .inr (.inr ⟨rfl, by rw [h]; nofun, by rw [h]; nofun⟩)

/-- A code names one of the commands with a request, in the group of the code; the code of an unlisted one has no
group. -/
theorem commandGroup_commandOf (req : Request) :
    requestOf (commandOf req) = some req ∧ commandGroup (commandOf req) = codeGroup req.code.toNat := by
  unfold commandOf
  split
  case h_24 code =>
    rw [code]
    obtain ⟨h, -⟩ | ⟨h, -⟩ | ⟨h, -⟩ := queueControlOf_cases req <;> rw [h] <;> exact ⟨rfl, rfl⟩
  case h_27 =>
    refine ⟨rfl, ?_⟩
    have unlisted : req.code.toNat ∉ commandCodes := by
      simp only [commandCodes, List.mem_cons, List.not_mem_nil, or_false, not_or]
      simp only [imp_false] at *
      omega
    rw [codeGroup_unlisted unlisted]
    rfl
  all_goals
    next code => rw [code]; exact ⟨rfl, rfl⟩

theorem commandOf_none_iff (req : Request) :
    commandGroup (commandOf req) = none ↔ commandOf req = .unknownCommand req := by
  have request := (commandGroup_commandOf req).1
  cases h : commandOf req <;> rw [h] at request <;> cases request <;> simp [commandGroup]

theorem Request.names_iff (req : Request) (n : Nat) :
    req.names n = true ↔ req.code.toNat = n ∧ req.data.length ≤ 59 := by
  simp [Request.names]

theorem Request.operates_iff (req : Request) (n : Nat) :
    req.operates n = true ↔ req.names 0x40 = true ∧ (req.data[1]?).map BitVec.toNat = some n := by
  cases h : req.data[1]? <;> simp [Request.operates, h]

theorem commandOf_wellFormed (req : Request) (short : req.data.length ≤ 59) : (commandOf req).wellFormed = true := by
  unfold commandOf
  split
  case h_24 code =>
    have names : req.names 0x40 = true := (Request.names_iff req _).2 ⟨code, short⟩
    obtain ⟨h, operation⟩ | ⟨h, operation⟩ | ⟨h, one, two⟩ := queueControlOf_cases req <;> rw [h]
    · exact (Request.operates_iff req 1).2 ⟨names, operation⟩
    · exact (Request.operates_iff req 2).2 ⟨names, operation⟩
    · have other : req.otherOperation = false := by
        rw [Request.otherOperation, Bool.or_eq_false_iff]
        exact ⟨Bool.eq_false_iff.2 fun h => one ((Request.operates_iff req 1).1 h).2,
          Bool.eq_false_iff.2 fun h => two ((Request.operates_iff req 2).1 h).2⟩
      change (req.names 0x40 && !req.otherOperation) = true
      rw [names, other]
      rfl
  case h_27 =>
    have unlisted : commandCodes.contains req.code.toNat = false := by
      simp only [commandCodes, List.contains_eq_mem, List.mem_cons, List.not_mem_nil, decide_eq_false_iff_not, or_false,
        not_or]
      simp only [imp_false] at *
      omega
    change (!commandCodes.contains req.code.toNat && decide (req.data.length ≤ 59)) = true
    rw [unlisted, decide_eq_true short]
    rfl
  all_goals
    next code => exact (Request.names_iff req _).2 ⟨code, short⟩

/-! ### Diversion -/

theorem State.dispose_diverts {s : State} {p : Port} {frame : List Byte} (here : frameClass frame = 0xF0)
    (node : frameDestination frame = s.link.node) :
    s.dispose p frame = if holdsResponse (s.link.origQ.get p) = true then s.busyDrop p
      else s.hand [commandOf (requestIn p frame)] :=
  if_pos ⟨here, node⟩

/-- Settles O9: the good frame is disposed of by diversion, and the command its code names has the code's group. -/
theorem requestDiverted : Obligations.RequestDiverted := by
  refine ⟨fun p f s carried mode good here node => ?_, fun req => ?_⟩
  · rw [exec_good carried mode good, State.dispose_diverts here (by exact node)]
    dsimp only
    congr 2
    change (if holdsResponse (s.link.origQ.get p) = true then _ else _) = _
    split
    · rw [State.busyDrop]
      simp only [State.onLink, Link.count, PerPort.get_set_same, PerPort.set_set]
      rfl
    · rfl
  · obtain ⟨request, group⟩ := commandGroup_commandOf req
    refine ⟨request, commandOf_wellFormed req, ?_, ?_, ?_, ?_, commandOf_none_iff req⟩ <;> rw [group, codeGroup] <;>
      (repeat' split) <;> simp <;> omega

end Sys2Proof.Machine
end

section
/-!
DOWN and the takeover (R6, R17, R18). Settles O11.
-/

namespace Sys2Proof.Machine

open Sys2Proof

theorem Link.setIngress_quiet_iff (l : Link) (p : Port) (i : Ingress) :
    (l.setIngress p i).quiet ↔ (16 ≤ i.spaces ∨ i.mode = .down) ∧
      (16 ≤ (l.ingress.get (otherPort p)).spaces ∨ (l.ingress.get (otherPort p)).mode = .down) := by
  constructor
  · intro quiet
    have here := quiet p
    have there := quiet (otherPort p)
    cases p <;> exact ⟨here, there⟩
  · rintro ⟨here, there⟩ q
    cases p <;> cases q
    · exact here
    · exact there
    · exact there
    · exact here

/-! ### Going DOWN (R6) -/

theorem downFault_eq (p : Port) : downFault p = match p with | .mp => FaultFlag.mpDown | .dp => .dpDown := by
  cases p <;> rfl

/-- An entry into DOWN before it is due does nothing (log 7). -/
theorem exec_ingressDown_early {s : State} {p : Port}
    (early : (s.link.ingress.get p).mode = .down ∨ (s.link.ingress.get p).silence < 2000) :
    exec (.ingressDown p) s = .next (s.take (.ingressDown p)) := by
  refine congrArg Host.Outcome.next (if_neg ?_)
  rw [Ingress.downDue_iff]
  rintro ⟨up, silent⟩
  exact early.elim up (Nat.not_lt.2 silent)

/-- The state of a side that has just gone DOWN (R6). -/
def State.downed (p : Port) (s : State) : State :=
  State.setFault (match p with | .mp => .mpDown | .dp => .dpDown)
    { s with
      handed := s.handed.erase (.ingressDown p)
      link := s.link.setIngress p ⟨.down, 0, (s.link.ingress.get p).silence⟩ }

theorem State.downed_link (p : Port) (s : State) :
    (s.downed p).link = s.link.setIngress p ⟨.down, 0, (s.link.ingress.get p).silence⟩ :=
  State.setFault_link ..

/-- A side that goes DOWN sets its flag; the tests of R17 and R21 follow. -/
theorem exec_ingressDown_due {s : State} {p : Port} (up : (s.link.ingress.get p).mode ≠ .down)
    (silent : 2000 ≤ (s.link.ingress.get p).silence) :
    exec (.ingressDown p) s = .next ((s.downed p).onLink Link.takeoverTest).releaseTest := by
  refine congrArg Host.Outcome.next ((if_pos ((Ingress.downDue_iff _).2 ⟨up, silent⟩)).trans ?_)
  rw [downFault_eq]
  rfl

/-! ### Takeover (R17, R18) -/

/-- In TAKEOVER a character changes its ingress side alone, but for the test of R17. -/
theorem exec_character_takeover {s : State} (takeover : s.link.relay = .takeover) (p : Port) (c : Character) :
    ∃ mode run, (s.link.ingress.get p).Takes c mode run ∧
      exec (.characterReceived p c) s = .next (((s.hears p c mode run).spaceTest c).releaseTest) := by
  refine ⟨_, _, ingressStep_takes _ c, ?_⟩
  have cut : carries s.link.relay = false := by rw [takeover]; rfl
  rw [exec_characterReceived, State.countHunt_keeps (by exact fun h => Bool.false_ne_true (cut.symm.trans h.2))]
  cases (ingressStep (s.link.ingress.get p).mode (nextRun (s.link.ingress.get p).spaces c) c).closed with
  | none => rfl
  | some f =>
    exact congrArg (fun t : State => Host.Outcome.next (t.spaceTest c).releaseTest)
      (State.accept_cut_off (by exact cut) p f)

theorem Ingress.Takes.not_down {i : Ingress} {c : Character} {mode : IngressMode} {run : Nat} (h : i.Takes c mode run) :
    mode ≠ .down := by
  rw [h.step.1]
  exact ingressStep_not_down _ _ _

/-- After 15 SPACE characters one more leaves any side between frames, its run at 16. -/
theorem Ingress.Takes.quietSpace {i : Ingress} {mode : IngressMode} {run : Nat} (h : i.Takes .space mode run)
    (spaces : 15 ≤ i.spaces) : mode = .aligned none ∧ run = 16 := by
  have run16 : nextRun i.spaces .space = 16 := satInc_full spaces
  obtain ⟨hm, hr⟩ := h.step
  rw [run16] at hm hr
  refine ⟨hm.trans ?_, hr⟩
  rcases i.mode with _ | m | _ | f <;> rfl

/-- A character makes both segments quiet only if it is a SPACE that completes its side's run beside a quiet side. -/
theorem State.hears_quiet {s : State} {p : Port} {c : Character} {mode : IngressMode} {run : Nat}
    (takes : (s.link.ingress.get p).Takes c mode run) (quiet : (s.hears p c mode run).link.quiet) :
    c = .space ∧ 15 ≤ (s.link.ingress.get p).spaces ∧
      (16 ≤ (s.link.ingress.get (otherPort p)).spaces ∨ (s.link.ingress.get (otherPort p)).mode = .down) := by
  have space : c = .space := Classical.byContradiction fun other => State.hears_not_quiet takes other quiet
  subst space
  obtain ⟨here, there⟩ := (Link.setIngress_quiet_iff ..).1 quiet
  refine ⟨rfl, ?_, there⟩
  have spaces : 16 ≤ run := here.resolve_right takes.not_down
  rw [takes.step.2, nextRun, satInc] at spaces
  split at spaces <;> omega

/-- Settles O11: the entry into DOWN and the characters of TAKEOVER, by whether both segments are quiet after them. -/
theorem downAndTakeover : Obligations.DownAndTakeover := by
  refine ⟨fun p s other => ?_, fun p s takeover => ?_⟩
  · refine ⟨fun up silent => ?_, fun early => exec_ingressDown_early early⟩
    have down := exec_ingressDown_due up silent
    rw [State.onLink, Link.takeoverTest_not_takeover (by rw [State.downed_link]; exact other)] at down
    exact down
  · dsimp only
    refine ⟨fun spaces quiet => ?_, fun c waits => ?_, fun up silent quiet => ?_, fun up silent loud => ?_,
      fun early => exec_ingressDown_early early⟩
    · obtain ⟨mode, run, takes, received⟩ := exec_character_takeover takeover p .space
      obtain ⟨rfl, rfl⟩ := takes.quietSpace spaces
      rw [received, ((State.settles .space _ nofun).opens (by exact takeover)
        ((Link.setIngress_quiet_iff ..).2 ⟨.inl (Nat.le_refl 16), quiet⟩))]
      rfl
    · obtain ⟨mode, run, takes, received⟩ := exec_character_takeover takeover p c
      refine ⟨mode, run, takes, received.trans ?_⟩
      have loud : ¬ (s.hears p c mode run).link.quiet := by
        intro quiet
        obtain ⟨space, spaces, there⟩ := State.hears_quiet takes quiet
        rcases waits with h | h | h
        · exact h space
        · omega
        · exact h there
      rw [(State.settles c _ fun _ => loud).waits (by exact takeover) loud]
    all_goals
      have relay : (s.downed p).link.relay = .takeover := by rw [State.downed_link]; exact takeover
      rw [exec_ingressDown_due up silent, State.onLink]
    · rw [Link.takeoverTest_quiet relay, State.releaseTest_not_release (by exact nofun)]
      · rfl
      · rw [State.downed_link]
        exact (Link.setIngress_quiet_iff ..).2 ⟨.inr rfl, quiet⟩
    · rw [Link.takeoverTest_waits, State.releaseTest_not_release (by rw [relay]; nofun)]
      · rfl
      · rw [State.downed_link]
        exact fun both => loud ((Link.setIngress_quiet_iff ..).1 both).2

end Sys2Proof.Machine
end

section
/-!
The egress arbiters (R16, R20, R22) and the end of a transmission (R14, R180). Settles O12 and O13.
-/

namespace Sys2Proof.Machine

open Sys2Proof

/-! ### What an arbiter may start -/

/-- An originate entry may be started (R16, R20): the oldest in RELAY, the oldest response in RELEASE. -/
def Link.Eligible (l : Link) (p : Port) (i : Nat) (x : OrigEntry) : Prop :=
  (l.origQ.get p)[i]? = some x ∧ (l.relay = .relay → i = 0) ∧
    (l.relay = .release → x.kind = .response ∧ ∀ j < i, ∀ y, (l.origQ.get p)[j]? = some y → y.kind ≠ .response)

theorem isResponse_iff (e : OrigEntry) : isResponse e = true ↔ e.kind = .response := by
  simp [isResponse]

theorem carries_iff (r : RelayState) : carries r = true ↔ r = .relay ∨ r = .release := by
  cases r <;> decide

/-- The first response of a queue. -/
theorem findIdx?_isResponse_eq_some {q : List OrigEntry} {i : Nat} {x : OrigEntry} (here : q[i]? = some x)
    (response : x.kind = .response) (first : ∀ j < i, ∀ y, q[j]? = some y → y.kind ≠ .response) :
    q.findIdx? isResponse = some i := by
  obtain ⟨inside, rfl⟩ := List.getElem?_eq_some_iff.1 here
  refine List.findIdx?_eq_some_iff_getElem.2 ⟨inside, (isResponse_iff _).2 response, fun j before => ?_⟩
  rw [isResponse_iff]
  exact first j before _ (List.getElem?_eq_getElem _)

theorem Link.Eligible.place {l : Link} {p : Port} {i : Nat} {x : OrigEntry} (may : l.mayStart) (h : l.Eligible p i x) :
    l.eligible p = some i := by
  obtain ⟨here, oldest, response⟩ := h
  unfold Link.eligible
  rcases (carries_iff _).1 may.1 with relay | relay <;> rw [relay]
  · obtain rfl := oldest relay
    have nonempty : (l.origQ.get p).isEmpty = false := by
      cases hq : l.origQ.get p with
      | nil => rw [hq] at here; cases here
      | cons e es => rfl
    simp [nonempty]
  · obtain ⟨kind, first⟩ := response relay
    exact findIdx?_isResponse_eq_some here kind first

theorem Link.eligible_eq_none {l : Link} {p : Port} (may : l.mayStart) (none : ∀ i x, ¬ l.Eligible p i x) :
    l.eligible p = .none := by
  unfold Link.eligible
  rcases (carries_iff _).1 may.1 with relay | relay <;> rw [relay]
  · cases hq : l.origQ.get p with
    | nil => rfl
    | cons e es =>
      exact absurd ⟨by rw [hq]; rfl, fun _ => rfl, fun release => by rw [relay] at release; cases release⟩ (none 0 e)
  · cases found : (l.origQ.get p).findIdx? isResponse with
    | none => rfl
    | some i =>
      obtain ⟨inside, kind, first⟩ := List.findIdx?_eq_some_iff_getElem.1 found
      refine absurd ⟨List.getElem?_eq_getElem inside, fun h => (by rw [relay] at h; cases h), fun _ =>
        ⟨(isResponse_iff _).1 kind, fun j before y hy => ?_⟩⟩ (none i _)
      obtain ⟨_, rfl⟩ := List.getElem?_eq_some_iff.1 hy
      exact mt (isResponse_iff _).2 (first j before)

/-! ### What an arbiter starts (R16) -/

theorem Link.arbiterReady_iff (l : Link) (p : Port) :
    l.arbiterReady p = true ↔ l.mayStart ∧ (l.egress.get p).tx = none ∧ l.gapInUse ≤ (l.egress.get p).gap := by
  simp only [Link.arbiterReady, Link.mayStart, Bool.and_eq_true, Option.isNone_iff_eq_none, decide_eq_true_eq,
    bne_iff_ne]
  exact ⟨fun ⟨⟨⟨carried, free⟩, gap⟩, limit⟩ => ⟨⟨carried, limit⟩, free, gap⟩,
    fun ⟨⟨carried, limit⟩, free, gap⟩ => ⟨⟨⟨carried, free⟩, gap⟩, limit⟩⟩

/-- An arbiter that is not ready starts nothing (log 28). -/
theorem exec_arbiterStart_waits {s : State} {p : Port} (h : ¬ s.link.arbiterReady p = true) :
    exec (.arbiterStart p) s = .next (s.take (.arbiterStart p)) := by
  have keeps : s.link.arbiterStart p = s.link := if_neg h
  exact congrArg (fun l => Host.Outcome.next { s.take (.arbiterStart p) with link := l }) keeps

theorem exec_arbiterStart_nothing {s : State} {p : Port} (choice : s.link.choice p = none) :
    exec (.arbiterStart p) s = .next (s.take (.arbiterStart p)) := by
  have keeps : s.link.arbiterStart p = s.link := by
    rw [Link.arbiterStart, choice]
    exact ite_self _
  exact congrArg (fun l => Host.Outcome.next { s.take (.arbiterStart p) with link := l }) keeps

theorem exec_arbiterStart_begins {s : State} {p : Port} {src : TxSource} {n : Nat} {bytes : List Byte} {mark : EndMark}
    (ready : s.link.arbiterReady p = true) (choice : s.link.choice p = some (src, n))
    (frame : s.link.frameAt p src = some (bytes, mark)) :
    exec (.arbiterStart p) s = .next
      ((s.take (.arbiterStart p)).onLink fun l => l.begin p ⟨src, bytes, mark, (bytes.length + 2) * 10⟩ n) := by
  have begins : s.link.arbiterStart p = s.link.begin p ⟨src, bytes, mark, (bytes.length + 2) * 10⟩ n := by
    rw [Link.arbiterStart, if_pos ready, choice]
    dsimp only
    rw [frame]
    rfl
  exact congrArg (fun l => Host.Outcome.next { s.take (.arbiterStart p) with link := l }) begins

theorem Link.frameAt_relay {l : Link} {p : Port} {h : RelayEntry} {rest : List RelayEntry}
    (queue : l.relayQ.get p = h :: rest) : l.frameAt p .relay = some (h.bytes, h.mark) := by
  simp [Link.frameAt, queue]

theorem Link.frameAt_originate {l : Link} {p : Port} {i : Nat} {x : OrigEntry} (here : (l.origQ.get p)[i]? = some x) :
    l.frameAt p (.originate i) = some (x.bytes, .endMark) := by
  simp [Link.frameAt, here]

theorem Link.choice_eq (l : Link) (p : Port) {waits : Bool} {place : Option Nat}
    (relay : (!(l.relayQ.get p).isEmpty) = waits) (originate : l.eligible p = place) :
    l.choice p = arbiterChoice waits place (l.egress.get p).passOver := by
  rw [Link.choice, relay, originate]

/-- Settles O12: by what waits in the two queues of the port. -/
theorem arbiterStarts : Obligations.ArbiterStarts := by
  intro p s
  dsimp only
  refine ⟨fun may free gap => ?_, fun blocked => exec_arbiterStart_waits ?_⟩
  · have ready : s.link.arbiterReady p = true := (Link.arbiterReady_iff ..).2 ⟨may, free, gap⟩
    refine ⟨fun h rest queue none => ?_, fun h rest i x queue some passOver => ?_,
      fun h rest i x queue some passOver => ?_, fun i x queue some => ?_, fun queue none => ?_⟩
    · have choice := s.link.choice_eq p (waits := true) (by rw [queue]; rfl) (Link.eligible_eq_none may none)
      exact exec_arbiterStart_begins ready choice (Link.frameAt_relay queue)
    · have choice := s.link.choice_eq p (waits := true) (by rw [queue]; rfl) (Link.Eligible.place may some)
      exact exec_arbiterStart_begins ready (choice.trans (if_pos passOver)) (Link.frameAt_relay queue)
    · have choice := s.link.choice_eq p (waits := true) (by rw [queue]; rfl) (Link.Eligible.place may some)
      exact exec_arbiterStart_begins ready (choice.trans (if_neg (Nat.not_lt.2 passOver)))
        (Link.frameAt_originate some.1)
    · have choice := s.link.choice_eq p (waits := false) (by rw [queue]; rfl) (Link.Eligible.place may some)
      exact exec_arbiterStart_begins ready choice (Link.frameAt_originate some.1)
    · have choice := s.link.choice_eq p (waits := false) (by rw [queue]; rfl) (Link.eligible_eq_none may none)
      exact exec_arbiterStart_nothing choice
  · rw [Link.arbiterReady_iff]
    rintro ⟨may, free, gap⟩
    rcases blocked with h | h | h
    · exact h may
    · exact h free
    · exact absurd gap (Nat.not_le.2 h)

/-! ### The end of a transmission (R14, R15) -/

/-- A transmission that has been sent leaves its queue and frees its transmitter; its end is signalled and the test of
R21 follows. -/
theorem exec_transmissionComplete {s : State} {p : Port} {t : Transmission}
    (sending : (s.link.egress.get p).tx = some t)
    (sent : t.left = 0) :
    exec (.transmissionComplete p) s = .next
      (((s.take (.transmissionComplete p)).onLink fun l => (l.removeSent p t.source).freeTransmitter p).signalSent p
        (s.link.sentKind p t.source)).releaseTest := by
  refine congrArg Host.Outcome.next ?_
  unfold State.completeTransmission
  rw [show ((s.take (.transmissionComplete p)).link.egress.get p).tx = some t from sending]
  exact if_pos sent

/-- Settles O13: by the source of the frame sent and, for a LOAD report, by its copy at the other port. -/
theorem transmissionCompletes : Obligations.TransmissionCompletes := by
  intro p tx s sending sent
  dsimp only
  refine ⟨fun relay => ?_, fun i x originate here => ?_⟩
  · rw [exec_transmissionComplete sending sent, relay, ← List.drop_one]
    rfl
  · have kind : s.link.sentKind p (.originate i) = some x.kind := by simp [Link.sentKind, here]
    rw [exec_transmissionComplete sending sent, originate, kind]
    refine ⟨fun other => ?_, fun load queued => ?_, fun load resolved => ?_⟩
    · rw [State.signalSent, State.sentOriginate, if_neg other]
      rfl
    · rw [State.signalSent, State.sentOriginate, if_pos load, State.endCopy_waits (by exact queued)]
      rfl
    · rw [State.signalSent, State.sentOriginate, if_pos load, State.endCopy_resolves (by decide) (by exact resolved)]
      simp only [State.hand, reduceCtorEq, false_or, List.append_assoc]
      rfl

end Sys2Proof.Machine
end

section
/-!
The end of RELEASE (R21, R22), its beginning by BYPASS (R19, R190), and the moves of the relay state (R17 to R23).
Settles O14, O15 and O16.
-/

namespace Sys2Proof.Machine

open Sys2Proof

/-! ### The end of RELEASE -/

theorem Ingress.betweenFrames_iff (i : Ingress) : i.betweenFrames = true ↔ ∀ f, i.mode ≠ .aligned (some f) := by
  rcases i with ⟨_ | m | _ | f, spaces, silence⟩ <;> simp [Ingress.betweenFrames]

theorem holdsResponse_eq_false_iff (q : List OrigEntry) : holdsResponse q = false ↔ ∀ e ∈ q, e.kind ≠ .response := by
  simp [holdsResponse, isResponse_iff, ← Bool.not_eq_true]

theorem State.requestWaits_eq_false_iff (s : State) :
    s.requestWaits = false ↔ ∀ c ∈ s.handed, requestOf c = none := by
  simp [State.requestWaits]

theorem Link.bothFree_iff (l : Link) : l.bothFree = true ↔ l.egress.mp.tx = none ∧ l.egress.dp.tx = none := by
  simp [Link.bothFree]

theorem forall_port_iff {P : Port → Prop} : (∀ p, P p) ↔ P .mp ∧ P .dp :=
  ⟨fun h => ⟨h .mp, h .dp⟩, fun ⟨hmp, hdp⟩ p => match p with | .mp => hmp | .dp => hdp⟩

/-- The condition of R21. -/
theorem State.drained_iff (s : State) : s.drained = true ↔
    s.link.relayQ = ⟨[], []⟩ ∧ (∀ p f, (s.link.ingress.get p).mode ≠ .aligned (some f)) ∧
      (s.link.egress.mp.tx = none ∧ s.link.egress.dp.tx = none) ∧
      (∀ p, ∀ e ∈ s.link.origQ.get p, e.kind ≠ .response) ∧ ∀ c ∈ s.handed, requestOf c = none := by
  have queues : s.link.relayQ = ⟨[], []⟩ ↔ s.link.relayQ.mp = [] ∧ s.link.relayQ.dp = [] := by
    cases s.link.relayQ
    simp
  rw [queues, forall_port_iff, forall_port_iff]
  simp only [State.drained, Bool.and_eq_true, Bool.not_eq_true', List.isEmpty_iff, Ingress.betweenFrames_iff,
    holdsResponse_eq_false_iff, State.requestWaits_eq_false_iff, Link.bothFree_iff, PerPort.get, and_assoc]

theorem State.closeContacts_mgt (s : State) : s.closeContacts.mgt = s.mgt := by rw [State.closeContacts_frame]

theorem Link.close_ingress (l : Link) (p : Port) : l.close.ingress.get p = (l.ingress.get p).dropFrame := by
  cases p <;> rfl

theorem Link.close_egress (l : Link) (p : Port) :
    l.close.egress.get p = { l.egress.get p with passOver := 0 } := by
  cases p <;> rfl

/-- Settles O14: RELEASE's end by its two conditions, its limit, and the arbiters after it. -/
theorem releaseEnds : Obligations.ReleaseEnds := by
  refine ⟨fun s inv => ?_, fun s => ⟨fun relay limit => ?_, fun early => ?_, fun p expired => ?_⟩⟩
  · dsimp only
    rw [← State.drained_iff, ← Link.bothFree_iff]
    refine ⟨fun ends => ?_, fun waits => if_neg waits⟩
    have closes : s.releaseTest = s.closeContacts := if_pos ends
    obtain ⟨rep, acc⟩ := State.closeContacts_clears inv
    rw [closes, State.closeContacts_link, rep, acc, State.closeContacts_mgt]
    refine ⟨rfl, rfl, rfl, rfl, fun p => ⟨Link.close_egress _ p, ?_⟩, rfl, rfl, rfl, rfl, rfl, ?_⟩
    · rw [Link.close_ingress]
      exact Ingress.dropFrame_mode _
    · rw [← rep, ← acc]
      exact State.closeContacts_frame s
  · exact congrArg Host.Outcome.next (if_pos ⟨relay, limit⟩)
  · exact congrArg Host.Outcome.next (if_neg fun due => early.elim (· due.1) (· due.2))
  · refine exec_arbiterStart_waits ?_
    rw [Link.arbiterReady_iff]
    exact fun ready => ready.1.2 expired

/-! ### BYPASS -/

/-- A management command that is admitted with the data it needs is answered by its body. -/
theorem exec_admitted {c : Instr} {req : Request} {g : Group} {s : State} (hr : requestOf c = some req)
    (hg : commandGroup c = some g) (h : s.admits g req) (long : commandNeed c ≤ req.data.length) :
    exec c s = .next ((bodyOf c (s.take c)).state.respond req (bodyOf c (s.take c)).status
      (bodyOf c (s.take c)).data) := by
  rw [exec_eq_run, run_request hr hg, State.serve_answers (by exact h) long]

/-- A command whose body changes nothing is answered. -/
theorem exec_admitted_refuse {c : Instr} {req : Request} {g : Group} {s : State} {status : Status} {data : List Byte}
    (hr : requestOf c = some req) (hg : commandGroup c = some g) (h : s.admits g req)
    (long : commandNeed c ≤ req.data.length) (body : bodyOf c (s.take c) = ⟨s.take c, status, data⟩) :
    exec c s = .next (s.answers c req status data) := by
  rw [exec_admitted hr hg h long, body]
  rfl

/-- Settles O15. -/
theorem bypassBeginsRelease : Obligations.BypassBeginsRelease := by
  intro req s admitted
  have served := exec_admitted (c := .bypass req) rfl rfl admitted (Nat.zero_le _)
  refine ⟨fun relay => ?_, fun release => ?_⟩
  · have body : bodyOf (.bypass req) (s.take (.bypass req)) = answerOk (s.take (.bypass req)).enterRelease [3] := by
      change answerOk (if s.link.relay = .relay then _ else _) _ = _
      rw [if_pos relay]
      rfl
    rw [served, body]
    rfl
  · refine exec_admitted_refuse rfl rfl admitted (Nat.zero_le _) ?_
    change answerOk (if s.link.relay = .relay then _ else _) _ = _
    rw [if_neg (by rw [release]; nofun)]
    rfl

/-! ### The moves of the relay state -/

/-- The relay state and the counters of the ports stayed. -/
def Link.LineKept (l l' : Link) : Prop := l'.relay = l.relay ∧ l'.counters = l.counters

theorem State.offerReport_line (k : ReportKind) (contents : List Byte) {l : Link} {s : State} (p : Port)
    (h : l.LineKept s.link) : l.LineKept (s.offerReport k contents p).link := by
  unfold State.offerReport
  split
  · exact h
  · rw [State.setFault_link]
    exact h

theorem State.offerStatus_line (fields : Vector (Option Int) 8) {l : Link} {s : State} (p : Port)
    (h : l.LineKept s.link) : l.LineKept (s.offerStatus fields p).link := by
  unfold State.offerStatus
  dsimp only
  split
  · exact h
  · rw [State.setFault_link]
    exact h

theorem State.sendReport_line (k : ReportKind) (contents : List Byte) {l : Link} {s : State} (h : l.LineKept s.link) :
    l.LineKept (s.sendReport k contents).link :=
  foldl_keeps (P := fun t : State => l.LineKept t.link) (fun _ p ht => State.offerReport_line k contents p ht) _ h

theorem State.arriveShift_line (n : Word16) (part : ShiftPart) {l : Link} {s : State} (h : l.LineKept s.link) :
    l.LineKept (s.arriveShift n part).link := by
  have flushed : l.LineKept (s.flushAssembly n).link := by
    unfold State.flushAssembly
    split
    · split
      · exact h
      · exact State.sendReport_line _ _ h
    · exact h
  unfold State.arriveShift
  split
  · exact h
  · dsimp only
    split
    · exact State.sendReport_line _ _ flushed
    · exact flushed

theorem State.drain_line {l : Link} {s : State} (h : l.LineKept s.link) : l.LineKept s.drain.link := by
  unfold State.drain
  split
  · split
    next => exact h
    next r _ _ =>
      exact foldl_keeps (P := fun t : State => l.LineKept t.link) (f := State.queueCopy r) (fun _ _ ht => ht) _ h
  · exact h

/-- The commands that offer reports to the originate queues. -/
def offersReports : Instr → Bool
  | .shiftAssemblyArrival _ _ | .statusReport | .liftResultReport _ | .bucketReport _ | .targetReport _ | .calReport _
  | .faultReport _ | .loadDrain => true
  | _ => false

theorem run_report_line {c : Instr} (reports : offersReports c = true) (s : State) :
    s.link.LineKept (s.run c).link := by
  have start : s.link.LineKept (s.take c).link := ⟨rfl, rfl⟩
  cases c
  case shiftAssemblyArrival n part => exact State.arriveShift_line n part start
  case statusReport =>
    exact foldl_keeps (P := fun t : State => s.link.LineKept t.link)
      (fun _ p ht => State.offerStatus_line _ p ht) _ start
  case liftResultReport r => exact run_liftResultReport r s ▸ State.sendReport_line _ _ start
  case bucketReport b => exact run_bucketReport b s ▸ State.sendReport_line _ _ start
  case targetReport t => exact run_targetReport t s ▸ State.sendReport_line _ _ start
  case calReport c => exact run_calReport c s ▸ State.sendReport_line _ _ start
  case faultReport set => exact run_faultReport set s ▸ State.sendReport_line _ _ start
  case loadDrain => exact run_loadDrain s ▸ State.drain_line start
  all_goals cases reports

theorem State.releaseTest_relay (s : State) :
    s.releaseTest.link.relay = s.link.relay ∨ s.link.relay = .release ∧ s.releaseTest.link.relay = .bypass := by
  unfold State.releaseTest
  split
  next ends => exact .inr ⟨ends.1, by rw [State.closeContacts_link]; rfl⟩
  next => exact .inl rfl

theorem Link.takeoverTest_relay (l : Link) :
    l.takeoverTest.relay = l.relay ∨ l.relay = .takeover ∧ l.takeoverTest.relay = .relay := by
  unfold Link.takeoverTest
  split
  next opens => exact .inr ⟨opens.1, rfl⟩
  next => exact .inl rfl

/-- The moves of the relay state that the line itself makes (R17, R21, R22). -/
def RelayState.Moves (before after : RelayState) : Prop :=
  after = before ∨ before = .takeover ∧ after = .relay ∨ before = .release ∧ after = .bypass

theorem State.releaseTest_moves {s : State} {before : RelayState} (same : s.link.relay = before) :
    before.Moves s.releaseTest.link.relay := by
  subst same
  exact s.releaseTest_relay.imp_right .inr

/-- The takeover test, with the test of R21 after it. -/
theorem State.tests_move (s : State) : s.link.relay.Moves (s.onLink Link.takeoverTest).releaseTest.link.relay := by
  obtain same | ⟨takeover, opened⟩ := s.link.takeoverTest_relay
  · exact State.releaseTest_moves same
  · rw [State.releaseTest_not_release (by rw [State.onLink_link, opened]; nofun)]
    exact .inr (.inl ⟨takeover, opened⟩)

theorem State.acceptClosed_relay (p : Port) (c : Option ClosedFrame) (s : State) :
    (s.acceptClosed p c).link.relay = s.link.relay := by
  cases c with
  | none => rfl
  | some f => exact State.accept_relay ..

theorem State.advance_relay (p : Port) (x : IngressStep) (run : Nat) (s : State) :
    (s.advance p x run).link.relay = s.link.relay := by
  unfold State.advance State.countHunt
  split <;> rfl

theorem State.receive_moves (p : Port) (c : Character) (s : State) : s.link.relay.Moves (s.receive p c).link.relay := by
  unfold State.receive
  dsimp only
  generalize hv : (s.advance p _ _).acceptClosed p _ = v
  have same : v.link.relay = s.link.relay := by rw [← hv, State.acceptClosed_relay, State.advance_relay]
  unfold State.spaceTest
  split
  · exact same ▸ v.tests_move
  · exact State.releaseTest_moves same

theorem State.goDown_moves (p : Port) (s : State) : s.link.relay.Moves (s.goDown p).link.relay := by
  unfold State.goDown
  dsimp only
  split
  · refine Eq.mp (congrArg (RelayState.Moves · _) ?_) (State.tests_move _)
    rw [State.setFault_link]
    rfl
  · exact .inl rfl

theorem Link.arbiterStart_line (l : Link) (p : Port) : l.LineKept (l.arbiterStart p) := by
  unfold Link.arbiterStart
  split
  · split
    · exact ⟨rfl, rfl⟩
    · split <;> exact ⟨rfl, rfl⟩
  · exact ⟨rfl, rfl⟩

theorem Link.removeSent_line (l : Link) (p : Port) (src : TxSource) :
    l.LineKept ((l.removeSent p src).freeTransmitter p) := by
  cases src <;> exact ⟨rfl, rfl⟩

theorem State.completeTransmission_moves (p : Port) (s : State) :
    s.link.relay.Moves (s.completeTransmission p).link.relay := by
  unfold State.completeTransmission
  split
  · exact .inl rfl
  · split
    · refine State.releaseTest_moves ?_
      rw [State.signalSent_link]
      exact (Link.removeSent_line ..).1
    · exact .inl rfl

theorem State.expireLimit_moves (s : State) : s.link.relay.Moves s.expireLimit.link.relay := by
  unfold State.expireLimit
  split
  · exact State.releaseTest_moves rfl
  · exact .inl rfl

theorem State.writeTable_relay {s t : State} {table index : Nat} {d : List Byte}
    (h : s.writeTable table index d = some t) : t.link.relay = s.link.relay := by
  unfold State.writeTable at h
  split at h
  case h_7 => split at h <;> obtain ⟨v, -, rfl⟩ := Option.map_eq_some_iff.1 h <;> rfl
  case h_17 => cases h
  all_goals obtain ⟨v, -, rfl⟩ := Option.map_eq_some_iff.1 h; rfl

/-- No body but BYPASS's moves the relay state. -/
theorem bodyOf_relay {c : Instr} (other : ∀ req, c ≠ .bypass req) (s : State) :
    (bodyOf c s).state.link.relay = s.link.relay := by
  cases c
  case bypass req => exact absurd rfl (other req)
  case clearCounters => rfl
  case writeEntry req =>
    obtain ⟨status, h⟩ | ⟨t, -, -, -, written, h⟩ := s.doWriteEntry_cases req <;> simp only [bodyOf, h]
    · rfl
    · exact State.writeTable_relay written
  case commit =>
    obtain h | ⟨-, -, h⟩ := s.doCommit_cases <;> simp only [bodyOf, h]
    simp only [answerOk, State.takeCommit_link]
    rfl
  case softReset =>
    simp only [bodyOf, answerOk, State.takeSoftReset_link]
    rfl
  all_goals rw [bodyOf_link (of_decide_eq_false rfl)]

/-- A management command moves the relay state only by BYPASS, from RELAY to RELEASE. -/
theorem run_request_relay {c : Instr} {req : Request} {g : Group} (hr : requestOf c = some req)
    (hg : commandGroup c = some g) (s : State) :
    (s.run c).link.relay = s.link.relay ∨
      s.link.relay = .relay ∧ (s.run c).link.relay = .release ∧ ∃ req, c = .bypass req := by
  rw [run_request hr hg]
  refine State.serve_keeps
    (P := fun t => t.link.relay = s.link.relay ∨ s.link.relay = .relay ∧ t.link.relay = .release ∧ ∃ req,
      c = .bypass req)
    (.inl rfl) (.inl rfl) (fun _ _ => .inl rfl) fun _ _ => ?_
  by_cases bypass : ∃ req, c = .bypass req
  · exact (bodyOf_retunes c (s.take c)).relay.imp_right fun ⟨relay, release⟩ => ⟨relay, release, bypass⟩
  · exact .inl (bodyOf_relay (not_exists.1 bypass) (s.take c))

/-- The moves of the relay state of R17 to R23, by the command that makes them. -/
def RelayMoves (c : Instr) (before after : RelayState) : Prop :=
  before.Moves after ∨ before = .relay ∧ after = .release ∧ ∃ req, c = .bypass req

theorem run_relay {c : Instr} (on : ∀ straps, c ≠ .powerReset straps) (s : State) :
    RelayMoves c s.link.relay (s.run c).link.relay := by
  by_cases changed : Block.link ∈ changes c
  case neg =>
    rw [run_link changed]
    exact .inl (.inl rfl)
  have line : ∀ t : State, s.link.LineKept t.link → RelayMoves c s.link.relay t.link.relay := fun t h => .inl (.inl h.1)
  cases c
  case powerReset straps => exact absurd rfl (on straps)
  case characterReceived p c => exact .inl (State.receive_moves p c (s.take _))
  case ingressDown p => exact .inl (State.goDown_moves p (s.take _))
  case arbiterStart p => exact line (s.run (.arbiterStart p)) (Link.arbiterStart_line s.link p)
  case transmissionComplete p => exact .inl (State.completeTransmission_moves p (s.take _))
  case releaseLimitExpiry => exact .inl (State.expireLimit_moves (s.take _))
  case shiftAssemblyArrival | statusReport | liftResultReport | bucketReport | targetReport | calReport | faultReport
      | loadDrain =>
    exact line _ (run_report_line rfl s)
  case unknownCommand req =>
    exact State.whenTaken_keeps (P := fun t => RelayMoves (.unknownCommand req) s.link.relay t.link.relay)
      (s := s.take _) (.inl (.inl rfl)) (.inl (.inl rfl)) fun _ => .inl (.inl rfl)
  case identify | readEntry | readState | readClock | readCounters | readFaults | readTotals | calStatus | targetOpen
      | targetSelect | targetClose | deleteLastBucket | latchTotals | readLoadLog | clearFaults | clearCounters
      | enterConfig | writeEntry | commit | setClock | calStart | calAccept | calDiscard | arm | disarm | trigger
      | softReset | bypass =>
    exact (run_request_relay rfl rfl s).imp_left .inl
  all_goals exact absurd changed (of_decide_eq_false rfl)

/-! ### BYPASS holds -/

/-- A request that comes while the line is cut off is taken and does nothing (log 10). -/
theorem run_request_cut_off {c : Instr} {req : Request} {g : Group} (hr : requestOf c = some req)
    (hg : commandGroup c = some g) {s : State} (cut : carries s.link.relay = false) : s.run c = s.take c := by
  rw [run_request hr hg]
  exact State.serve_cut_off cut

theorem State.releaseTest_counters (s : State) : s.releaseTest.link.counters = s.link.counters := by
  unfold State.releaseTest
  split
  · rw [State.closeContacts_link]
    rfl
  · rfl

theorem Link.takeoverTest_counters (l : Link) : l.takeoverTest.counters = l.counters := by
  unfold Link.takeoverTest
  split <;> rfl

theorem State.receive_cut_off_counters {s : State} (cut : carries s.link.relay = false) (p : Port) (c : Character) :
    (s.receive p c).link.counters = s.link.counters := by
  unfold State.receive
  dsimp only
  generalize ingressStep (s.link.ingress.get p).mode (nextRun (s.link.ingress.get p).spaces c) c = x
  have advanced : (s.advance p x (nextRun (s.link.ingress.get p).spaces c)).acceptClosed p x.closed =
      s.onLink fun l => l.setIngress p ⟨x.mode, nextRun (s.link.ingress.get p).spaces c, 0⟩ := by
    rw [State.advance, State.countHunt_keeps (by exact fun h => Bool.false_ne_true (cut.symm.trans h.2))]
    cases x.closed with
    | none => rfl
    | some f => exact State.accept_cut_off (by exact cut) p f
  rw [advanced, State.releaseTest_counters, State.spaceTest]
  split
  · exact Link.takeoverTest_counters _
  · rfl

theorem State.goDown_counters (p : Port) (s : State) : (s.goDown p).link.counters = s.link.counters := by
  unfold State.goDown
  dsimp only
  split
  · rw [State.releaseTest_counters, State.onLink_link, Link.takeoverTest_counters, State.setFault_link]
    rfl
  · rfl

theorem State.completeTransmission_counters (p : Port) (s : State) :
    (s.completeTransmission p).link.counters = s.link.counters := by
  unfold State.completeTransmission
  split
  · rfl
  · split
    · rw [State.releaseTest_counters, State.signalSent_link]
      exact (Link.removeSent_line ..).2
    · rfl

theorem State.expireLimit_counters (s : State) : s.expireLimit.link.counters = s.link.counters := by
  unfold State.expireLimit
  split
  · exact State.releaseTest_counters _
  · rfl

/-- Nothing is counted while the line is cut off. -/
theorem run_cut_off_counters {c : Instr} (on : ∀ straps, c ≠ .powerReset straps) {s : State}
    (cut : carries s.link.relay = false) : (s.run c).link.counters = s.link.counters := by
  by_cases changed : Block.link ∈ changes c
  case neg => rw [run_link changed]
  cases c
  case powerReset straps => exact absurd rfl (on straps)
  case characterReceived p c => exact State.receive_cut_off_counters (s := s.take _) cut p c
  case ingressDown p => exact State.goDown_counters p (s.take _)
  case arbiterStart p => exact (Link.arbiterStart_line s.link p).2
  case transmissionComplete p => exact State.completeTransmission_counters p (s.take _)
  case releaseLimitExpiry => exact State.expireLimit_counters (s.take _)
  case shiftAssemblyArrival | statusReport | liftResultReport | bucketReport | targetReport | calReport | faultReport
      | loadDrain =>
    exact (run_report_line rfl s).2
  case unknownCommand req =>
    have dropped : s.run (.unknownCommand req) = s.take (.unknownCommand req) := if_neg (Bool.eq_false_iff.1 cut)
    rw [dropped]
    rfl
  case identify | readEntry | readState | readClock | readCounters | readFaults | readTotals | calStatus | targetOpen
      | targetSelect | targetClose | deleteLastBucket | latchTotals | readLoadLog | clearFaults | clearCounters
      | enterConfig | writeEntry | commit | setClock | calStart | calAccept | calDiscard | arm | disarm | trigger
      | softReset | bypass =>
    rw [run_request_cut_off rfl rfl cut]
    rfl
  all_goals exact absurd changed (of_decide_eq_false rfl)

/-- The configuration state does not change while the line is cut off. -/
theorem run_cut_off_config {c : Instr} (on : ∀ straps, c ≠ .powerReset straps) {s : State}
    (cut : carries s.link.relay = false) : (s.run c).mgt.config = s.mgt.config := by
  cases configuring : configures c
  · exact run_config configuring s
  cases c
  case powerReset straps => exact absurd rfl (on straps)
  case enterConfig | writeEntry | commit | softReset =>
    rw [run_request_cut_off rfl rfl cut]
    rfl
  all_goals cases configuring

theorem Link.Inv.bypassed_queues {l : Link} (h : l.Inv) (bypass : l.relay = .bypass) :
    l.relayQ = ⟨[], []⟩ ∧ l.origQ = ⟨[], []⟩ := by
  have cut : carries l.relay = false := by rw [bypass]; rfl
  refine ⟨PerPort.ext_get fun p => ?_, PerPort.ext_get fun p => ?_⟩
  · rw [((h.ports p).cutOff cut).2]
    cases p <;> rfl
  · rw [(h.ports p).bypassed bypass]
    cases p <;> rfl

/-- Settles O16. -/
theorem relayStateMoves : Obligations.RelayStateMoves := by
  intro c s t inv on step
  obtain rfl := eq_run_of_exec step
  have moves := run_relay on s
  refine ⟨?_, fun bypass => ?_⟩
  · rcases moves with (same | opens | closes) | begins
    · exact .inl same
    · exact .inr (.inl opens)
    · exact .inr (.inr (.inr closes))
    · exact .inr (.inr (.inl begins))
  · have cut : carries s.link.relay = false := by rw [bypass]; rfl
    have stays : (s.run c).link.relay = .bypass := by
      rw [bypass] at moves
      rcases moves with (same | ⟨takeover, -⟩ | ⟨release, -⟩) | ⟨relay, -⟩
      · exact same
      · cases takeover
      · cases release
      · cases relay
    obtain ⟨relayQ, origQ⟩ := inv.bypassed_queues bypass
    obtain ⟨relayQ', origQ'⟩ := (run_linkInv c inv).bypassed_queues stays
    refine ⟨run_cut_off_counters on cut, relayQ'.trans relayQ.symm, origQ'.trans origQ.symm, run_cut_off_config on cut,
      ?_⟩
    rw [Link.contactsClosed, stays]
    rfl

end Sys2Proof.Machine
end

section
/-!
The signal table's notifications: a slot that goes STALE (R41, R44, R97), and what a completed conversion writes (R44,
R48, R51, R61). Settles O18 and O21.
-/

namespace Sys2Proof.Machine

open Sys2Proof

/-! ### The roles of a slot (R43) -/

theorem mem_allRoles (r : Role) : r ∈ allRoles := by cases r <;> decide

theorem Signals.rolesOf_eq_nil {g : Signals} {i : Fin 32} (unmapped : ∀ r, g.slotOf r ≠ some i) : g.rolesOf i = [] :=
  List.filter_eq_nil_iff.2 fun r _ => by
    rw [beq_iff_eq]
    exact unmapped r

theorem Signals.rolesOf_eq_singleton {g : Signals} {i : Fin 32} {r : Role} (mapped : ∀ r', g.slotOf r' = some i ↔
    r' = r) :
    g.rolesOf i = [r] := by
  have only : (fun r' => g.slotOf r' == some i) = fun r' => decide (r' = r) := by
    funext r'
    rw [Bool.beq_eq_decide_eq]
    exact decide_eq_decide.2 (mapped r')
  rw [Signals.rolesOf, only]
  cases r <;> rfl

theorem flatMap_filter_eq {α β : Type} (p : α → Bool) (f : α → List β) (as : List α) :
    (as.filter p).flatMap f = as.flatMap fun a => if p a = true then f a else [] := by
  induction as with
  | nil => rfl
  | cons a as ih =>
    by_cases h : p a = true
    · rw [List.filter_cons_of_pos h, List.flatMap_cons, List.flatMap_cons, if_pos h, ih]
    · rw [List.filter_cons_of_neg h, List.flatMap_cons, if_neg h, ih]
      rfl

theorem Signals.noticesOf_eq_tells (g : Signals) (i : Fin 32) : g.noticesOf i = g.tells i := by
  have boom : ∀ (p : Prop) [Decidable p] (a b : Instr),
      (if p then [a, b] else []) = (if p then [a] else []) ++ if p then [b] else [] := by
    intro p _ a b
    split <;> rfl
  simp only [Signals.noticesOf, Signals.rolesOf, flatMap_filter_eq, beq_iff_eq, allRoles, List.flatMap_cons,
    List.flatMap_nil, writeNotices, boom, ite_self, List.append_nil, List.nil_append, List.append_assoc, Signals.tells]

/-! ### A slot goes STALE -/

/-- The state of a slot gone STALE, before its notifications. -/
def State.staled (i : Fin 32) (s : State) : State :=
  { s with
    handed := s.handed.erase (.stalenessExpiry i)
    sig := { s.sig with slots := s.sig.slots.set i { s.sig.slots[i] with fresh := .stale, timer := none } }
    weigh := { s.weigh with accel := if s.sig.slotOf .speed = some i then none else s.weigh.accel } }

theorem exec_stalenessExpiry_due {i : Fin 32} {s : State} {x : StaleTimer} (running : s.sig.slots[i].timer = some x)
    (due : x.limit * 1000 ≤ x.elapsed) :
    exec (.stalenessExpiry i) s = .next
      (if s.mgt.config = .run then (s.sig.rolesOf i).foldl (fun s r => s.raiseStale r) (s.staled i) else s.staled i) :=
  congrArg Host.Outcome.next (if_pos ((SlotLive.staleDue_iff _).2 ⟨x, running, due⟩))

/-- Settles O18: by whether the slot's timer is due, and by the role the slot is mapped to. -/
theorem slotGoesStale : Obligations.SlotGoesStale := by
  intro i s
  refine ⟨fun x running due => ⟨fun silent => ?_, fun r mode mapped => ?_⟩, fun early => ?_⟩
  · rw [exec_stalenessExpiry_due running due]
    by_cases mode : s.mgt.config = .run
    · rw [if_pos mode, Signals.rolesOf_eq_nil (silent.resolve_left (Classical.not_not.2 mode))]
      rfl
    · rw [if_neg mode]
      rfl
  · have told := exec_stalenessExpiry_due running due
    rw [if_pos mode, Signals.rolesOf_eq_singleton mapped] at told
    have slot : s.sig.slotOf r = some i := (mapped r).2 rfl
    refine ⟨fun required => ⟨told.trans ?_, slot⟩, fun park => ⟨told.trans ?_, slot⟩,
      fun quiet => ⟨told.trans ?_, slot⟩⟩
    · rcases required with rfl | rfl | rfl | rfl <;> rfl
    · rw [park]
      rfl
    · rcases quiet with rfl | rfl <;> rfl
  · refine congrArg Host.Outcome.next (if_neg ?_)
    rw [SlotLive.staleDue_iff]
    rintro ⟨x, running, due⟩
    exact absurd (early x running) (Nat.not_lt.2 due)

/-! ### A completed conversion -/

/-- A result fails the check of its reference channel (R48). -/
theorem referenceFails_iff (channel : Option (Fin 11)) (raw : BitVec 12) :
    referenceFails channel raw.toNat = true ↔
      (channel = some 8 ∧ 24 < raw.toNat) ∨ (channel = some 9 ∧ raw.toNat < 4071) ∨
        (channel = some 10 ∧ (raw.toNat < 2024 ∨ 2072 < raw.toNat)) := by
  have top := raw.isLt
  cases channel with
  | none => simp [referenceFails]
  | some n =>
    unfold referenceFails expectedResult
    by_cases zero : n = 8
    · subst zero
      simp
    · by_cases full : n = 9
      · subst full
        simp
        omega
      · by_cases half : n = 10
        · subst half
          simp
          omega
        · simp [zero, full, half]

theorem State.onAcq_setFault (x : FaultFlag) (f : Acquisition → Acquisition) (s : State) :
    (s.onAcq f).setFault x = (s.setFault x).onAcq f := by
  simp only [State.setFault, apply_ite (State.onAcq f)]
  rfl

theorem State.onAcq_referenceCheck (channel : Option (Fin 11)) (raw : Int) (f : Acquisition → Acquisition) (s : State) :
    (s.onAcq f).referenceCheck channel raw = (s.referenceCheck channel raw).onAcq f := by
  unfold State.referenceCheck
  split
  · exact State.onAcq_setFault ..
  · rfl

theorem State.writeDest_slot (dest : Option (Fin 32)) (raw : Int) (word : Nat) (s : State) (i : Fin 32) :
    (s.writeDest dest raw word).sig.slots[i] =
      if dest = some i then writtenSlot s.sig.slots[i] s.sig.config[i] raw s.time.tag
        (.word word) else s.sig.slots[i] := by
  cases dest with
  | none => simp [State.writeDest]
  | some j =>
    have written : (s.writeDest (some j) raw word).sig = s.sig.writeSlot s.time.tag ⟨j, raw, .word word⟩ :=
      State.writeSlots_sig ..
    rw [written]
    by_cases same : j = i
    · subst same
      simp only [Signals.writeSlot, Fin.getElem_fin, Vector.getElem_set_self, if_true, SlotLive.write, writtenSlot,
        scale,
        clampS32, clampInt]
      congr 1
      omega
    · have apart : j.val ≠ i.val := fun h => same (Fin.ext h)
      simp [Signals.writeSlot, Vector.getElem_set_ne _ _ apart, same]

theorem State.writeDest_handed_run {s : State} (mode : s.mgt.config = .run) (i : Fin 32) (raw : Int) (word : Nat) :
    (s.writeDest (some i) raw word).handed = s.handed ++ (s.writeDest (some i) raw word).sig.tells i := by
  have run : (s.writeDest (some i) raw word).handed =
      s.handed ++ [SlotWrite.mk i raw (.word word)].flatMap fun w =>
        (s.writeDest (some i) raw word).sig.noticesOf w.slot := by
    simp only [State.writeDest, State.writeSlots, mode, if_true]
    rfl
  rw [run, List.flatMap_singleton, Signals.noticesOf_eq_tells]

theorem State.writeDest_handed_silent {s : State} {dest : Option (Fin 32)} (silent : s.mgt.config ≠ .run ∨ dest = none)
    (raw : Int) (word : Nat) : (s.writeDest dest raw word).handed = s.handed := by
  cases dest with
  | none => rfl
  | some i => simp only [State.writeDest, State.writeSlots, silent.resolve_right nofun, if_false]

theorem State.writeDest_sig_frame (dest : Option (Fin 32)) (raw : Int) (word : Nat) (s : State) :
    (s.writeDest dest raw word).sig = { s.sig with slots := (s.writeDest dest raw word).sig.slots } := by
  cases dest with
  | none => rfl
  | some i =>
    have written : (s.writeDest (some i) raw word).sig = s.sig.writeSlot s.time.tag ⟨i, raw, .word word⟩ :=
      State.writeSlots_sig ..
    rw [written]
    rfl

theorem Acquisition.leave_frame (q : QueueId) (a : Acquisition) :
    a.leave q = { a with queues := (a.leave q).queues, conversion := (a.leave q).conversion } := by
  cases q with
  | slow => rfl
  | fast =>
    simp only [Acquisition.leave, Acquisition.slowResume]
    split <;> rfl

theorem Acquisition.continueQueue_frame (q : QueueId) (w : Nat) (a : Acquisition) :
    a.continueQueue q w =
      { a with queues := (a.continueQueue q w).queues, conversion := (a.continueQueue q w).conversion } := by
  unfold Acquisition.continueQueue
  split
  · exact Acquisition.leave_frame ..
  · split
    · exact Acquisition.leave_frame ..
    · rfl

/-- A conversion that is due: the reference check, the result entry, the slot, and the queue's continuation. -/
theorem exec_conversionComplete {s : State} {c : Conversion} (converting : s.acq.conversion = some c) (due : c.left = 0)
    (raw : BitVec 12) :
    exec (.conversionComplete raw) s = .next
      ((((State.referenceCheck (s.acq.word c.word).channel raw.toNat (s.take (.conversionComplete raw))).onAcq fun a =>
        a.record c.word raw s.time.tag).writeDest (s.acq.word c.word).dest raw.toNat c.word).onAcq fun a =>
          a.continueQueue c.queue c.word) := by
  rw [← State.onAcq_referenceCheck]
  refine congrArg Host.Outcome.next ?_
  unfold State.completeConversion
  rw [show (s.take (.conversionComplete raw)).acq.conversion = some c from converting]
  exact if_pos due

theorem Acquisition.record_results {a : Acquisition} {w : Nat} (within : w < 48) (raw : BitVec 12) (tag : TimeTag)
    (n : Nat) :
    (a.record w raw tag).results[n]? = if n = w then some ⟨raw, tag, true⟩ else a.results[n]? := by
  simp only [Acquisition.record, Vector.getElem?_setIfInBounds, within, if_true, eq_comm (a := w)]

/-- Settles O21. -/
theorem conversionWrites : Obligations.ConversionWrites := by
  intro raw c s converting due within
  dsimp only
  have done := exec_conversionComplete converting due raw
  generalize hu : State.referenceCheck (s.acq.word c.word).channel raw.toNat
    (s.take (.conversionComplete raw)) = u at done
  have time : u.time = s.time := by rw [← hu, State.referenceCheck_frame]; rfl
  have sig : u.sig = s.sig := by rw [← hu, State.referenceCheck_frame]; rfl
  have acq : u.acq = s.acq := by rw [← hu, State.referenceCheck_frame]; rfl
  have config : u.mgt.config = s.mgt.config := by
    rw [← hu, State.referenceCheck]
    split
    · rw [State.setFault_config]; rfl
    · rfl
  generalize hv : u.onAcq (fun a => a.record c.word raw s.time.tag) = v at done
  have results : ∀ n, (v.acq.continueQueue c.queue c.word).results[n]? =
      if n = c.word then some ⟨raw, s.time.tag, true⟩ else s.acq.results[n]? := by
    intro n
    rw [Acquisition.continueQueue_frame, ← hv, ← acq]
    exact Acquisition.record_results within raw s.time.tag n
  refine ⟨_, u, done, fun fails => ?_, fun passes => ?_, ?_, fun i => ?_, fun i mode dest => ?_, fun silent => ?_, ?_,
    ?_, ?_⟩
  · have set : u = (s.take (.conversionComplete raw)).setFault .converterCheck := by
      rw [← hu]
      exact if_pos ((referenceFails_iff ..).2 fails)
    exact ⟨set, set ▸ State.hasFault_setFault ..⟩
  · rw [← hu]
    exact if_neg (mt (referenceFails_iff ..).1 passes)
  · rw [State.onAcq_acq, State.writeDest_frame]
    exact results
  · rw [State.onAcq_sig, State.writeDest_slot, ← hv, State.onAcq_sig, State.onAcq_time, sig, time]
  · rw [State.onAcq_sig, dest]
    refine (State.writeDest_handed_run (s := v) ?_ i _ _).trans ?_
    · rw [← hv]
      exact config.trans mode
    · rw [← hv]
      rfl
  · refine (State.writeDest_handed_silent (s := v) ?_ _ _).trans ?_
    · rw [← hv]
      exact silent.imp_left fun mode => config ▸ mode
    · rw [← hv]
      rfl
  · rw [State.onAcq_sig, State.writeDest_sig_frame, ← hv]
    rw [← sig]
    rfl
  · rw [State.onAcq_acq, State.writeDest_frame]
    dsimp only
    rw [Acquisition.continueQueue_frame, ← hv, ← acq]
    rfl
  · rw [State.writeDest_frame, ← hv]
    rfl

end Sys2Proof.Machine
end

section
/-!
The sample queues: what a queue does after a word (R50, R60, R62), at a trigger (R55 to R59, R66), and on ARM and DISARM
(R63 to R65). Settles O23, O24 and O25.
-/

namespace Sys2Proof.Machine

open Sys2Proof

/-! ### Leaving the converter (R60) -/

theorem Acquisition.leave_fast_resumes (a : Acquisition) : a.Resumed (a.leave .fast) := by
  have left : a.leave .fast = _ := Acquisition.slowResume_eq a
  refine ⟨fun awake rested => ?_, fun waits => ?_⟩
  · rw [left, if_neg (not_or.2 ⟨awake, rested⟩)]
  · rw [left, if_pos waits]
    rfl

/-- A queue lets the converter go in a state of its own, with the results as they stand (R60). -/
def Acquisition.Leaves (a : Acquisition) (q : QueueId) (x : SampleQueue) (b : Acquisition) : Prop :=
  let a' := { a with results := b.results, queues := a.queues.set q x }
  (q = .fast → a'.Resumed b) ∧ (q = .slow → b = { a' with conversion := none })

theorem Acquisition.leave_leaves (a : Acquisition) (q : QueueId) (x : SampleQueue) (results : Vector ResultEntry 48) :
    a.Leaves q x (Acquisition.leave { a with results := results, queues := a.queues.set q x } q) := by
  have kept : (Acquisition.leave { a with results := results, queues := a.queues.set q x } q).results = results := by
    rw [Acquisition.leave_frame]
  unfold Acquisition.Leaves
  rw [kept]
  refine ⟨?_, ?_⟩
  · rintro rfl
    exact Acquisition.leave_fast_resumes _
  · rintro rfl
    rfl

theorem Acquisition.isFinal_iff (a : Acquisition) (q : QueueId) (w : Nat) :
    a.isFinal q w = true ↔ (a.word w).last = true ∨ w = a.highWord q ∨ (a.word (w + 1)).channel = none := by
  simp only [Acquisition.isFinal, Bool.or_eq_true, beq_iff_eq, Option.isNone_iff_eq_none, or_assoc]

/-- A queue at its final word ends in the state of its mode. -/
theorem Acquisition.continueQueue_final {a : Acquisition} {q : QueueId} {w : Nat} (final : a.isFinal q w = true) :
    a.continueQueue q w =
      Acquisition.leave { a with queues := a.queues.set q { a.queues.get q with
        state := endState (a.setup.get q).mode, position := a.firstWord q, complete := true } } q := by
  rw [Acquisition.continueQueue, if_pos final]
  cases q <;> rfl

theorem Acquisition.continueQueue_brk {a : Acquisition} {q : QueueId} {w : Nat} (final : ¬ a.isFinal q w = true)
    (brk : (a.word w).brk = true) :
    a.continueQueue q w =
      Acquisition.leave { a with queues := a.queues.set q { a.queues.get q with
        state := .paused, position := w + 1, pause := true } } q := by
  rw [Acquisition.continueQueue, if_neg final, if_pos brk]
  rfl

theorem Acquisition.continueQueue_next {a : Acquisition} {q : QueueId} {w : Nat} (final : ¬ a.isFinal q w = true)
    (brk : (a.word w).brk = false) :
    a.continueQueue q w =
      { a with
        queues := a.queues.set q { a.queues.get q with state := .active, position := w + 1 }
        conversion := some ⟨q, w + 1, 4 * 2 ^ (a.word (w + 1)).settle + 12⟩ } := by
  rw [Acquisition.continueQueue, if_neg final, if_neg (Bool.eq_false_iff.1 brk)]
  rfl

/-- Settles O23: by whether the word is final, and whether it breaks. -/
theorem queueContinues : Obligations.QueueContinues := by
  intro raw c s inv converting due
  dsimp only
  refine ⟨_, exec_conversionComplete converting due raw, ?_⟩
  have acq : ∀ u : State, (((((State.referenceCheck (s.acq.word c.word).channel raw.toNat
      (s.take (.conversionComplete raw))).onAcq fun a => a.record c.word raw s.time.tag).writeDest
        (s.acq.word c.word).dest raw.toNat c.word).onAcq fun a => a.continueQueue c.queue c.word).acq) =
      (s.acq.record c.word raw s.time.tag).continueQueue c.queue c.word := by
    intro u
    rw [State.onAcq_acq, State.writeDest_frame, State.onAcq_acq, State.referenceCheck_frame]
    rfl
  rw [acq s, ← Acquisition.isFinal_iff]
  have active : (s.acq.queue c.queue).state = .active := (inv.converts c.queue).2 ⟨c, converting, rfl⟩
  have mode : (s.acq.setup.get c.queue).mode ≠ .off := (inv.armed c.queue (by rw [active]; nofun)).1
  have leaves := s.acq.leave_leaves c.queue
  refine ⟨fun final single => ?_, fun final continuous => ?_, fun _ => ?_, fun more brk => ?_, fun more brk => ?_⟩
  · have ends := Acquisition.continueQueue_final (a := s.acq.record c.word raw s.time.tag) final
    rw [ends]
    dsimp only [Acquisition.record]
    rw [single]
    exact leaves _ _
  · have ends := Acquisition.continueQueue_final (a := s.acq.record c.word raw s.time.tag) final
    rw [ends]
    dsimp only [Acquisition.record]
    rw [continuous]
    exact leaves _ _
  · cases hm : (s.acq.setup.get c.queue).mode with
    | off => exact absurd hm mode
    | single => exact .inl rfl
    | continuous => exact .inr rfl
  · rw [Acquisition.continueQueue_brk (a := s.acq.record c.word raw s.time.tag) more brk]
    exact leaves _ _
  · rw [Acquisition.continueQueue_next (a := s.acq.record c.word raw s.time.tag) more brk]
    rfl

/-! ### Triggers (R56 to R59) -/

theorem Acquisition.startWord_ready {a : Acquisition} {q : QueueId} (ready : (a.queue q).ready) :
    a.startWord q = a.triggerWord q := by
  unfold Acquisition.startWord Acquisition.triggerWord
  rcases ready with idle | paused
  · rw [idle]
    rfl
  · rw [paused]
    rfl

theorem State.triggerQueue_triggered (q : QueueId) (s : State) : State.Triggered q s (s.triggerQueue q) := by
  have starts : (s.acq.queue q).ready → s.triggerQueue q = s.onAcq fun a => a.start q := by
    rintro (idle | paused) <;> simp only [State.triggerQueue, *]
  refine ⟨fun off => ?_, fun on busy => ?_, ?_, ?_⟩
  · simp only [State.triggerQueue, off]
  · unfold State.triggerQueue
    cases hs : (s.acq.queue q).state with
    | off => exact absurd hs on
    | idle => exact absurd (.inl hs) busy
    | paused => exact absurd (.inr hs) busy
    | active | pending | suspended => rfl
  · rintro rfl ready
    rw [starts ready, State.onAcq, Acquisition.start_fast, Acquisition.startWord_ready ready]
    rfl
  · rintro rfl ready
    rw [starts ready, State.onAcq, Acquisition.start_slow, Acquisition.startWord_ready ready]
    rfl

/-! ### The commands of the queues (R63) -/

theorem byteAt_of_getElem? {d : List Byte} {i : Nat} {b : Byte} (here : d[i]? = some b) : byteAt d i = b.toNat := by
  obtain ⟨inside, rfl⟩ := List.getElem?_eq_some_iff.1 here
  rw [byteAt, natAt, fieldAt, List.drop_eq_getElem_cons inside]
  simp only [natOf, List.take_succ_cons, List.take_zero, List.foldl_cons, List.foldl_nil, Nat.zero_mul, Nat.zero_add]

/-- A queue command with its queue byte runs on that queue outside UNCONFIGURED. -/
theorem State.onQueue_named {s : State} {req : Request} {q : QueueId} (mode : s.mgt.config ≠ .unconfigured)
    (named : req.data[0]? = some (queueCode q)) (body : QueueId → State → Answer) : s.onQueue req body = body q s := by
  have code : enumAt [QueueId.fast, .slow] req.data 0 = some q := by
    rw [enumAt, byteAt_of_getElem? named]
    cases q <;> rfl
  rw [State.onQueue, if_neg mode, code]

theorem exec_admitted_body {c : Instr} {req : Request} {g : Group} {s t : State} {status : Status} {data : List Byte}
    (hr : requestOf c = some req) (hg : commandGroup c = some g) (h : s.admits g req)
    (long : commandNeed c ≤ req.data.length) (body : bodyOf c (s.take c) = ⟨t, status, data⟩) :
    exec c s = .next (t.respond req status data) := by
  rw [exec_admitted hr hg h long, body]

/-- Settles O24. -/
theorem queueTriggered : Obligations.QueueTriggered := by
  refine ⟨fun q s => ⟨fun timer => ⟨_, State.triggerQueue_triggered q _, ?_⟩, fun command => ?_⟩,
    fun req q s admitted long mode named => ⟨fun timer => ?_, fun command => ?_⟩⟩
  · exact congrArg Host.Outcome.next (if_pos timer)
  · exact congrArg Host.Outcome.next (if_neg (by exact command ▸ nofun))
  · refine exec_admitted_refuse rfl rfl admitted long ?_
    exact (State.onQueue_named (s := s.take _) mode named _).trans (if_pos timer)
  · refine ⟨_, State.triggerQueue_triggered q _, ?_⟩
    have command' : ¬ (s.acq.setup.get q).trigger = .timer := by rw [command]; nofun
    have body := State.onQueue_named (s := s.take (.trigger req)) mode named State.doTrigger
    refine (exec_admitted_body (c := .trigger req) rfl rfl admitted long (body.trans (if_neg command'))).trans ?_
    have link : (State.triggerQueue q (s.take (.trigger req))).link = s.link := by
      rw [State.triggerQueue_frame]
      rfl
    rw [State.respond, State.onLink, link]
    rfl

theorem State.doArm_released {s : State} {req : Request} (arm : byteAt req.data 1 = 0)
    (released : s.acq.released = true)
    (q : QueueId) : s.doArm req q = refuse s .wrongMode := by
  rw [State.doArm, if_neg (Classical.not_not.2 arm), if_pos released]

theorem State.doArm_live {s : State} {req : Request} (arm : byteAt req.data 1 = 0) (live : s.acq.released = false)
    (q : QueueId) :
    s.doArm req q =
      if (s.acq.setup.get q).mode = .off ∨ (s.acq.word (s.acq.firstWord q)).channel = none then refuse s .badValue
      else accepted q (s.onAcq fun a => a.armQueue q) := by
  rw [State.doArm, if_neg (Classical.not_not.2 arm), if_neg (Bool.eq_false_iff.1 live)]
  simp only [Option.isNone_iff_eq_none]

theorem Acquisition.armQueue_armed {a : Acquisition} {q : QueueId} (on : (a.queue q).state ≠ .off) : a.armQueue q = a :=
  if_neg on

theorem Acquisition.armQueue_off {a : Acquisition} {q : QueueId} (off : (a.queue q).state = .off) :
    a.armQueue q =
      { a with queues := a.queues.set q { a.queue q with state := .idle, position := a.firstWord q } } :=
  if_pos off

/-- A queue that DISARM turned off, with both its word numbers at its first word. -/
def SampleQueue.disarmedAt (x : SampleQueue) (w : Nat) : SampleQueue :=
    { x with state := .off, position := w, subStart := w }

theorem Acquisition.disarmQueue_off {a : Acquisition} {q : QueueId} (off : (a.queue q).state = .off) :
    a.disarmQueue q = a :=
  if_pos off

theorem Acquisition.disarmQueue_resting {a : Acquisition} {q : QueueId} (on : (a.queue q).state ≠ .off)
    (rests : (a.queue q).state ≠ .active) :
    a.disarmQueue q = { a with queues := a.queues.set q ((a.queue q).disarmedAt (a.firstWord q)) } :=
  (if_neg on).trans (if_neg rests)

theorem Acquisition.disarmQueue_active {a : Acquisition} {q : QueueId} (active : (a.queue q).state = .active) :
    a.disarmQueue q =
      Acquisition.leave { a with queues := a.queues.set q ((a.queue q).disarmedAt (a.firstWord q)) } q :=
  (if_neg (by rw [active]; nofun)).trans (if_pos active)

/-- Letting the converter go, a queue stays as it is. -/
theorem Acquisition.leave_queue (a : Acquisition) (q : QueueId) : (a.leave q).queue q = a.queue q := by
  cases q with
  | slow => rfl
  | fast =>
    have left : a.leave .fast = _ := Acquisition.slowResume_eq a
    rw [left]
    split <;> rfl

theorem PerQueue.get_set_same {α : Type} (x : PerQueue α) (q : QueueId) (a : α) : (x.set q a).get q = a := by
  cases q <;> rfl

/-- A queue that is disarmed is OFF at its first word, its flags kept. -/
theorem Acquisition.disarmQueue_queue {a : Acquisition} {q : QueueId} (on : (a.queue q).state ≠ .off) :
    (a.disarmQueue q).queue q = (a.queue q).disarmedAt (a.firstWord q) := by
  by_cases active : (a.queue q).state = .active
  · rw [Acquisition.disarmQueue_active active, Acquisition.leave_queue]
    exact PerQueue.get_set_same ..
  · rw [Acquisition.disarmQueue_resting on active]
    exact PerQueue.get_set_same ..

/-- Settles O25. -/
theorem armAndDisarm : Obligations.ArmAndDisarm := by
  refine ⟨fun req q s admitted long mode named arm => ?_, fun req q s admitted long mode named => ?_⟩
  · have operation : byteAt req.data 1 = 0 := byteAt_of_getElem? arm
    have body := State.onQueue_named (s := s.take (.arm req)) mode named (State.doArm req)
    refine ⟨fun released => ?_, fun live unfit => ?_, fun live fit on => ?_, fun live fit off => ?_⟩
    · exact exec_admitted_refuse rfl rfl admitted long (body.trans
        (State.doArm_released (s := s.take _) operation released q))
    all_goals replace body := body.trans (State.doArm_live (s := s.take _) operation live q)
    · exact exec_admitted_refuse rfl rfl admitted long (body.trans (if_pos unfit))
    all_goals
      refine (exec_admitted_body (c := .arm req) rfl rfl admitted long (body.trans (if_neg fit))).trans ?_
      rw [State.onAcq]
    · rw [show (s.take (.arm req)).acq.armQueue q = s.acq from Acquisition.armQueue_armed on]
      rfl
    · rw [show (s.take (.arm req)).acq.armQueue q = _ from Acquisition.armQueue_off (a := s.acq) off]
      cases q <;> rfl
  · have served := exec_admitted_body (c := .disarm req) rfl rfl admitted long
      (State.onQueue_named (s := s.take (.disarm req)) mode named State.doDisarm)
    refine ⟨fun off => served.trans ?_, fun on => ⟨s.acq.disarmQueue q, served.trans ?_, fun rests => ?_, ?_, ?_⟩⟩
    · rw [State.onAcq, show (s.take (.disarm req)).acq.disarmQueue q = s.acq from Acquisition.disarmQueue_off off,
        Acquisition.controlData]
      dsimp only
      rw [off]
      rfl
    · have data : (s.acq.disarmQueue q).controlData q =
          u8 0 ++ u8 (s.acq.firstWord q) ++ flagByte (s.acq.queue q).overrun := by
        rw [Acquisition.controlData, Acquisition.disarmQueue_queue on]
        rfl
      rw [← data]
      rfl
    · exact Acquisition.disarmQueue_resting on rests
    · rintro active rfl
      exact Acquisition.disarmQueue_active active
    · rintro active rfl
      rw [Acquisition.disarmQueue_active active]
      exact Acquisition.leave_fast_resumes _

end Sys2Proof.Machine
end

section
/-!
The time base: timers (R74 to R77), and the shift clock with its boundaries (R73, R80, R81, R84, R85). Settles O26 and
O27.
-/

namespace Sys2Proof.Machine

open Sys2Proof

/-! ### Timers -/

theorem startTimer_eq (i : TimerId) (t : Timer) :
    startTimer i t = { t with left := t.reload * timerUnit i, running := t.reload != 0 } := by
  unfold startTimer
  split
  next zero => simp [zero]
  next on => simp [on]

theorem not_timerDue {t : Timer} (h : t.running = false ∨ t.left ≠ 0) : ¬ timerDue t = true := by
  rw [timerDue_iff]
  rintro ⟨running, left⟩
  exact h.elim (fun stopped => Bool.false_ne_true (stopped.symm.trans running)) fun more => more left

/-- A periodic expiry is handed on when due, and the timer runs on from its reload (R75). -/
theorem State.expirePeriodic_eq (i : TimerId) (req : Instr) (s : State) :
    ((s.time.timer i).running = true → (s.time.timer i).left = 0 →
      s.expirePeriodic i req =
        { s with
          time := { s.time with timers := s.time.timers.set i { s.time.timer i with
            left := (s.time.timer i).reload * timerUnit i, running := (s.time.timer i).reload != 0 } }
          handed := s.handed ++ [req] }) ∧
    ((s.time.timer i).running = false ∨ (s.time.timer i).left ≠ 0 → s.expirePeriodic i req = s) := by
  refine ⟨fun running left => ?_, fun early => if_neg (not_timerDue early)⟩
  rw [State.expirePeriodic, if_pos ((timerDue_iff _).2 ⟨running, left⟩), ← startTimer_eq]
  rfl

/-- A one-shot expiry is handed on when due, with its start, and the timer stops (R76). -/
theorem State.expireOneShot_eq (i : TimerId) (req : Nat → Instr) (s : State) :
    ((s.time.timer i).running = true → (s.time.timer i).left = 0 →
      s.expireOneShot i req =
        { s with
          time := { s.time with timers := s.time.timers.set i { s.time.timer i with left := 0, running := false } }
          handed := s.handed ++ [req (s.time.timer i).start] }) ∧
    ((s.time.timer i).running = false ∨ (s.time.timer i).left ≠ 0 → s.expireOneShot i req = s) :=
  ⟨fun running left => if_pos ((timerDue_iff _).2 ⟨running, left⟩), fun early => if_neg (not_timerDue early)⟩

theorem takeStart_eq (i : TimerId) (reload : Option Nat) (n : Nat) (x : Timer) :
    takeStart i reload n x =
      let r := reload.getD x.reload
      ⟨r, r * (if i = .tc then 1000000 else 1000), r != 0, n⟩ := by
  have unit : timerUnit i = if i = .tc then 1000000 else 1000 := by cases i <;> rfl
  rw [← unit]
  cases reload <;> simp only [takeStart, startTimer_eq, Option.getD_none, Option.getD_some]

/-- Settles O26. -/
theorem timersRun : Obligations.TimersRun := by
  refine ⟨fun i c req s named => ?_, fun i c req s => ?_, fun i reload n s => ⟨?_, rfl⟩⟩
  · simp only [Prod.mk.injEq] at named
    dsimp only
    obtain ⟨rfl, rfl, rfl⟩ | ⟨rfl, rfl, rfl⟩ | ⟨rfl, rfl, rfl⟩ := named
    all_goals
      obtain ⟨due, early⟩ := State.expirePeriodic_eq _ _ (s.take _)
      exact ⟨fun running left => congrArg Host.Outcome.next (due running left), fun waits =>
        congrArg Host.Outcome.next (early waits)⟩
  · dsimp only
    intro named
    simp only [Prod.mk.injEq] at named
    obtain ⟨rfl, rfl, rfl⟩ | ⟨rfl, rfl, rfl⟩ := named
    · obtain ⟨due, early⟩ := State.expireOneShot_eq .td .dwellEnd (s.take .tdExpiry)
      exact ⟨fun running left => congrArg Host.Outcome.next (due running left), fun waits =>
        congrArg Host.Outcome.next (early waits)⟩
    · obtain ⟨due, early⟩ := State.expireOneShot_eq .tc .calDeadline (s.take .tcExpiry)
      exact ⟨fun running left => congrArg Host.Outcome.next (due running left), fun waits =>
        congrArg Host.Outcome.next (early waits)⟩
  · rw [exec_eq_run]
    dsimp only
    have started := takeStart_eq i reload n (s.time.timer i)
    dsimp only at started
    rw [← started]
    rfl

/-! ### What writes the clock -/

/-- The time tag and the shift number stayed (R73, R85). -/
structure TimeBase.TagKept (t t' : TimeBase) : Prop where
  tag : t'.tag = t.tag
  shiftNumber : t'.shiftNumber = t.shiftNumber

/-- The shift clock stayed too (R80, R81). -/
structure TimeBase.ClockKept (t t' : TimeBase) : Prop extends t.TagKept t' where
  clock : t'.clock = t.clock
  valid : t'.valid = t.valid
  secondLeft : t'.secondLeft = t.secondLeft
  lastSecond : t'.lastSecond = t.lastSecond

theorem TimeBase.ClockKept.refl (t : TimeBase) : t.ClockKept t := ⟨⟨rfl, rfl⟩, rfl, rfl, rfl, rfl⟩

/-- The commands that write the shift clock. -/
def writesClock : Instr → Bool
  | .powerReset _ | .secondEvent | .setClock _ => true
  | _ => false

theorem State.writeTable_clock {s t : State} {table index : Nat} {d : List Byte}
    (h : s.writeTable table index d = some t) : s.time.ClockKept t.time := by
  unfold State.writeTable at h
  split at h
  case h_7 => split at h <;> obtain ⟨v, -, rfl⟩ := Option.map_eq_some_iff.1 h <;> exact .refl _
  case h_17 => cases h
  all_goals obtain ⟨v, -, rfl⟩ := Option.map_eq_some_iff.1 h; exact ⟨⟨rfl, rfl⟩, rfl, rfl, rfl, rfl⟩

theorem bodyOf_time {c : Instr} (h : Block.time ∉ bodyChanges c) (s : State) : (bodyOf c s).state.time = s.time :=
  (congrArg State.time (bodyOf_frame c s)).trans (if_neg h)

theorem run_time {c : Instr} (h : Block.time ∉ changes c) (s : State) : (s.run c).time = s.time :=
  (congrArg State.time (run_frame c s)).trans (if_neg h)

theorem State.takeEnterConfig_time (s : State) : s.takeEnterConfig.time = s.time.enterConfig := by
  unfold State.takeEnterConfig
  rw [State.endRunByConfig_frame]
  rfl

theorem State.takeSoftReset_time (s : State) : s.takeSoftReset.time = s.time.softReset := by
  unfold State.takeSoftReset
  rw [State.endRunByConfig_frame]
  rfl

theorem State.doEnterConfig_time (s : State) :
    s.doEnterConfig.state.time = s.time ∨ s.doEnterConfig.state.time = s.time.enterConfig := by
  unfold State.doEnterConfig
  split
  · exact .inl rfl
  · exact .inr s.takeEnterConfig_time

/-- No body but SET_CLOCK's writes the clock. -/
theorem bodyOf_clock {c : Instr} (other : ∀ req, c ≠ .setClock req) (s : State) :
    s.time.ClockKept (bodyOf c s).state.time := by
  by_cases changed : Block.time ∈ bodyChanges c
  case neg => exact bodyOf_time changed s ▸ .refl _
  cases c
  case setClock req => exact absurd rfl (other req)
  case enterConfig =>
    obtain same | entered := s.doEnterConfig_time
    · exact same ▸ .refl _
    · exact entered ▸ ⟨⟨rfl, rfl⟩, rfl, rfl, rfl, rfl⟩
  case writeEntry req =>
    obtain ⟨status, h⟩ | ⟨t, -, -, -, written, h⟩ := s.doWriteEntry_cases req <;> simp only [bodyOf, h]
    · exact .refl _
    · exact State.writeTable_clock written
  case commit =>
    obtain h | ⟨-, -, h⟩ := s.doCommit_cases <;> simp only [bodyOf, h]
    · exact .refl _
    · simp only [answerOk]
      rw [State.takeCommit_committing]
      exact ⟨⟨rfl, rfl⟩, rfl, rfl, rfl, rfl⟩
  case softReset => exact s.takeSoftReset_time ▸ ⟨⟨rfl, rfl⟩, rfl, rfl, rfl, rfl⟩
  all_goals exact absurd changed (of_decide_eq_false rfl)

/-- No body writes the time tag or the shift number. -/
theorem bodyOf_tag (c : Instr) (s : State) : s.time.TagKept (bodyOf c s).state.time := by
  by_cases setClock : ∃ req, c = .setClock req
  · obtain ⟨req, rfl⟩ := setClock
    unfold bodyOf State.doSetClock
    dsimp only
    split <;> exact ⟨rfl, rfl⟩
  · exact (bodyOf_clock (not_exists.1 setClock) s).toTagKept

theorem State.expirePeriodic_clock (i : TimerId) (req : Instr) (s : State) :
    s.time.ClockKept (s.expirePeriodic i req).time := by
  unfold State.expirePeriodic
  split
  · exact ⟨⟨rfl, rfl⟩, rfl, rfl, rfl, rfl⟩
  · exact .refl _

theorem State.expireOneShot_clock (i : TimerId) (req : Nat → Instr) (s : State) :
    s.time.ClockKept (s.expireOneShot i req).time := by
  unfold State.expireOneShot
  split
  · exact ⟨⟨rfl, rfl⟩, rfl, rfl, rfl, rfl⟩
  · exact .refl _

/-- No command writes the shift clock but SECOND_EVENT, SET_CLOCK and a power reset. -/
theorem run_clock {c : Instr} (ordinary : writesClock c = false) (s : State) : s.time.ClockKept (s.run c).time := by
  by_cases changed : Block.time ∈ changes c
  case neg => exact run_time changed s ▸ .refl _
  cases c
  case powerReset | secondEvent | setClock => cases ordinary
  case tfExpiry | tsExpiry | trExpiry => exact State.expirePeriodic_clock _ _ (s.take _)
  case tdExpiry | tcExpiry => exact State.expireOneShot_clock _ _ (s.take _)
  case timerStart | timerStop => exact ⟨⟨rfl, rfl⟩, rfl, rfl, rfl, rfl⟩
  case enterConfig | writeEntry | commit | softReset =>
    rw [run_request rfl rfl]
    refine State.serve_keeps (P := fun t => s.time.ClockKept t.time) (.refl _) (.refl _)
      (fun _ _ => .refl _) fun _ _ => ?_
    exact bodyOf_clock (by exact nofun) (s.take _)
  all_goals exact absurd changed (of_decide_eq_false rfl)

theorem State.takeSecond_tag (s : State) : s.takeSecond.time.tag = s.time.tag := by
  unfold State.takeSecond
  dsimp only
  split
  · split <;> rfl
  · rfl

theorem run_setClock_tag (req : Request) (s : State) : s.time.TagKept (s.run (.setClock req)).time := by
  rw [run_request rfl rfl]
  refine State.serve_keeps (P := fun t => s.time.TagKept t.time) ⟨rfl, rfl⟩ ⟨rfl, rfl⟩
    (fun _ _ => ⟨rfl, rfl⟩) fun _ _ => ?_
  exact bodyOf_tag (.setClock req) (s.take _)

/-! ### A second event (R80, R84) -/

/-- The clock a second on (R80). -/
theorem Clock.advance_eq (c : Clock) :
    let days := daysIn c.year c.month
    (c.second < 59 → c.advance = { c with second := c.second + 1 }) ∧
    (c.second = 59 →
      (c.minute < 59 → c.advance = { c with second := 0, minute := c.minute + 1 }) ∧
      (c.minute = 59 →
        (c.hour < 23 → c.advance = { c with second := 0, minute := 0, hour := c.hour + 1 }) ∧
        (c.hour = 23 →
          (c.day < days → c.advance = ⟨c.year, c.month, c.day + 1, 0, 0, 0⟩) ∧
          (c.day = days → c.month < 12 → c.advance = ⟨c.year, c.month + 1, 1, 0, 0, 0⟩) ∧
          (c.day = days → c.month = 12 → c.year < 2099 → c.advance = ⟨c.year + 1, 1, 1, 0, 0, 0⟩) ∧
          (c.day = days → c.month = 12 → c.year = 2099 → c.advance = ⟨2000, 1, 1, 0, 0, 0⟩)))) := by
  intro days
  refine ⟨fun second => if_pos second, fun second => ⟨fun minute => ?_, fun minute => ⟨fun hour => ?_, fun hour => ?_⟩⟩⟩
  · simp [Clock.advance, second, minute]
  · simp [Clock.advance, second, minute, hour]
  · refine ⟨fun day => ?_, fun day month => ?_, fun day month year => ?_, fun day month year => ?_⟩
    · change c.day < daysIn c.year c.month at day
      simp [Clock.advance, second, minute, hour, day]
    all_goals
      change c.day = daysIn c.year c.month at day
      have last : ¬ c.day < daysIn c.year c.month := by omega
      simp only [Clock.advance, second, minute, hour, Nat.lt_irrefl, if_false, last]
    · exact if_pos month
    · rw [if_neg (by omega), if_pos year]
    · rw [if_neg (by omega), if_neg (by omega)]

theorem TimeBase.second_valid (t : TimeBase) :
    t.second.valid = true ↔ t.valid = true ∧ t.clock ≠ ⟨2099, 12, 31, 23, 59, 59⟩ := by
  simp [TimeBase.second, Clock.wraps]

theorem TimeBase.atBoundary_iff (t : TimeBase) :
    t.atBoundary = true ↔ t.valid = true ∧ t.clock.second = 0 ∧
      ∃ e ∈ t.shiftTable.toList, e.enable = true ∧ e.hour = t.clock.hour ∧ e.minute = t.clock.minute := by
  simp only [TimeBase.atBoundary, ShiftEntry.names, Bool.and_eq_true, beq_iff_eq, List.any_eq_true, and_assoc]

/-- A second event that is due advances the clock, and marks the boundary that falls on the new second. -/
theorem exec_secondEvent_due {s : State} (due : s.time.secondLeft = 0) :
    exec .secondEvent s = .next
      (if s.time.second.atBoundary = true then
        { s with
          time := { s.time.second with shiftNumber := s.time.shiftNumber + 1 }
          handed := s.handed.erase .secondEvent ++
            [.trackerShiftClose s.time.shiftNumber (s.time.shiftNumber + 1),
              .accountShiftClose s.time.shiftNumber (s.time.shiftNumber + 1),
              .shiftAssemblyArrival s.time.shiftNumber .boundary] }
      else { s with time := s.time.second, handed := s.handed.erase .secondEvent }) :=
  congrArg Host.Outcome.next (if_pos due)

/-- Settles O27. -/
theorem secondAdvancesClock : Obligations.SecondAdvancesClock := by
  refine ⟨fun c s t on step => ?_, fun s due _ => ?_⟩
  · obtain rfl := eq_run_of_exec step
    cases ordinary : writesClock c
    · obtain ⟨⟨tag, shiftNumber⟩, clock, valid, secondLeft, lastSecond⟩ := run_clock ordinary s
      exact ⟨tag, fun _ => ⟨shiftNumber, fun _ => ⟨clock, valid, secondLeft, lastSecond⟩⟩⟩
    cases c
    case powerReset straps => exact absurd rfl (on straps)
    case secondEvent => exact ⟨State.takeSecond_tag (s.take _), fun other => absurd rfl other⟩
    case setClock req =>
      obtain ⟨tag, shiftNumber⟩ := run_setClock_tag req s
      exact ⟨tag, fun _ => ⟨shiftNumber, fun other => absurd rfl (other req)⟩⟩
    all_goals cases ordinary
  · dsimp only
    refine ⟨_, exec_secondEvent_due due, ?_⟩
    obtain ⟨second, carry⟩ := Clock.advance_eq s.time.clock
    have valid := s.time.second_valid
    by_cases boundary : s.time.second.atBoundary = true
    · rw [if_pos boundary]
      refine ⟨second, carry, valid, ⟨fun _ => ⟨rfl, rfl⟩, fun none => ?_⟩, rfl, rfl⟩
      exact absurd ((TimeBase.atBoundary_iff _).1 boundary) none
    · rw [if_neg boundary]
      refine ⟨second, carry, valid, ⟨fun marked => ?_, fun _ => ⟨rfl, rfl⟩⟩, rfl, rfl⟩
      exact absurd ((TimeBase.atBoundary_iff _).2 marked) boundary

end Sys2Proof.Machine
end

section
/-!
The weighing engine: windows that open and end (R92 to R95, R98, R99, R105), the accumulation of a sample (R89, R90,
R96), the evaluation of a window (R100 to R105), and the speed memory (R97). Settles O30, O32, O33 and O36.
-/

namespace Sys2Proof.Machine

open Sys2Proof

/-! ### Publication -/

theorem WindowRecord.forces_eq (w : WindowRecord) :
    w.forces = w.bins.map fun b => if 1 ≤ b.count then some (roundDiv b.force b.count) else none := by
  simp only [WindowRecord.forces, BinSum.covered, decide_eq_true_eq]

theorem State.publishLift_eq (r : LiftResult) (s : State) :
    s.publishLift r = s.published { r with sequence := s.weigh.sequence + 1, tag := s.time.tag } := by
  unfold State.publishLift State.published
  dsimp only
  rw [WindowRecord.forces_eq]
  rfl

theorem reasonsHolding_single (r : Reason) : reasonsHolding [(r, true)] = BitVec.twoPow 11 (reasonIndex r) := by
  simp [reasonsHolding]

theorem State.rejectWindow_eq (r : Reason) (s : State) :
    s.rejectWindow r = s.published (s.lostResult (BitVec.twoPow 11 (reasonIndex r))) := by
  rw [State.rejectWindow, State.publishLift_eq, reasonsHolding_single]
  rfl

/-! ### A sample in a window (R95) -/

theorem exec_weighSample (theta : Int) (tag : TimeTag) (s : State) :
    exec (.weighSample theta tag) s = .next (State.weighSample theta tag (s.take (.weighSample theta tag))) := rfl

theorem State.weighSample_window {s : State} (window : s.weigh.state = .window) (theta : Int) (tag : TimeTag) :
    s.weighSample theta tag = s.windowSample theta tag := by
  rw [State.weighSample, window]

theorem State.signalsFresh_iff (s : State) :
    (s.sig.freshOf .headP && s.sig.freshOf .rodP && s.sig.freshOf .tilt) = true ↔ s.signalsFresh := by
  simp only [Bool.and_eq_true, State.signalsFresh, and_assoc]

theorem State.pressuresOk_iff (s : State) :
    (s.weigh.params.believable (s.sig.valueOf .headP) && s.weigh.params.believable (s.sig.valueOf .rodP)) = true ↔
      s.pressuresOk := by
  simp only [WeighRecord.believable_iff, Bool.and_eq_true, State.pressuresOk, forall_eq_or_imp, forall_eq]

theorem State.windowSample_lost {s : State} (lost : ¬ s.signalsFresh) (theta : Int) (tag : TimeTag) :
    s.windowSample theta tag = s.rejectWindow .signalLost := by
  refine if_pos ?_
  rw [Bool.not_eq_true', ← Bool.not_eq_true, State.signalsFresh_iff]
  exact lost

theorem State.windowSample_far {s : State} (fresh : s.signalsFresh) (far : ¬ s.pressuresOk) (theta : Int)
    (tag : TimeTag) :
    s.windowSample theta tag = s.rejectWindow .range := by
  rw [State.windowSample, (s.signalsFresh_iff).2 fresh, Bool.eq_false_iff.2 (mt s.pressuresOk_iff.1 far)]
  rfl

theorem State.windowSample_read {s : State} (fresh : s.signalsFresh) (ok : s.pressuresOk) (theta : Int)
    (tag : TimeTag) :
    s.windowSample theta tag =
      if theta < s.weigh.window.highest - s.weigh.params.hysteresis then s.reverse
      else if s.weigh.params.thetaE ≤ theta then s.publishLift (s.evaluate theta tag)
      else s.accumulate theta := by
  rw [State.windowSample, (s.signalsFresh_iff).2 fresh, (s.pressuresOk_iff).2 ok]
  rfl

theorem State.weighStale_required {s : State} (window : s.weigh.state = .window) {r : Role}
    (required : r = .headP ∨ r = .rodP ∨ r = .boom ∨ r = .tilt) : s.weighStale r = s.rejectWindow .signalLost := by
  have inWindow : (s.weigh.state == .window) = true := beq_iff_eq.2 window
  rcases required with rfl | rfl | rfl | rfl <;> exact if_pos inWindow

/-- Settles O30: by the engine's state, and in a window by the first case of R95 that applies. -/
theorem windowOpensAndEnds : Obligations.WindowOpensAndEnds := by
  refine ⟨fun theta tag s => ?_, fun theta tag role s window => ?_, fun theta tag s window fresh ok back => ?_⟩
  · refine ⟨fun disabled => ?_, fun armed => ⟨fun below => ?_, fun reached => ?_⟩,
      fun spent => ⟨fun below => ?_, fun above => ?_⟩, fun role outside => congrArg Host.Outcome.next (if_neg ?_)⟩
    · rw [exec_weighSample, State.weighSample, show (s.take _).weigh.state = _ from disabled]
      rfl
    · rw [exec_weighSample, State.weighSample, show (s.take _).weigh.state = _ from armed]
      exact congrArg Host.Outcome.next (if_pos below)
    · rw [exec_weighSample, State.weighSample, show (s.take _).weigh.state = _ from armed]
      exact congrArg Host.Outcome.next (if_neg (Int.not_lt.2 reached))
    · rw [exec_weighSample, State.weighSample, show (s.take _).weigh.state = _ from spent]
      exact congrArg Host.Outcome.next (if_pos below)
    · rw [exec_weighSample, State.weighSample, show (s.take _).weigh.state = _ from spent]
      exact congrArg Host.Outcome.next (if_neg (Int.not_lt.2 above))
    · rw [Bool.and_eq_true, beq_iff_eq]
      exact fun both => outside both.2
  · refine ⟨fun lost => ?_, fun fresh far => ?_, fun required => ?_, ?_⟩
    · rw [exec_weighSample, State.weighSample_window (by exact window), State.windowSample_lost (by exact lost),
        State.rejectWindow_eq]
      rfl
    · rw [exec_weighSample, State.weighSample_window (by exact window),
        State.windowSample_far (by exact fresh) (by exact far),
        State.rejectWindow_eq]
      rfl
    · refine congrArg Host.Outcome.next ((State.weighStale_required (s := s.take _) window required).trans ?_)
      rw [State.rejectWindow_eq]
      rfl
    · rintro (rfl | rfl | rfl) <;> rfl
  · rw [exec_weighSample, State.weighSample_window (by exact window),
      State.windowSample_read (by exact fresh) (by exact ok)]
    exact congrArg Host.Outcome.next (if_pos back)

/-! ### Accumulation (R89, R90, R96) -/

theorem truncDiv_of_ne_zero {a b : Int} (h : b ≠ 0) : truncDiv a b = a.tdiv b := if_neg h

/-- The bin of an angle at or above the window start (R89). -/
theorem WeighRecord.bin_eq {p : WeighRecord} {theta : Int} (start : p.thetaS ≤ theta)
    (wide : 800 ≤ p.thetaE - p.thetaS) :
    p.bin theta = min 15 ((theta - p.thetaS).toNat / ((p.thetaE - p.thetaS).toNat / 16)) := by
  obtain ⟨n, above⟩ := Int.eq_ofNat_of_zero_le (show 0 ≤ theta - p.thetaS by omega)
  obtain ⟨m, span⟩ := Int.eq_ofNat_of_zero_le (show 0 ≤ p.thetaE - p.thetaS by omega)
  have positive : m / 16 ≠ 0 := by omega
  have width : p.binWidth = (m / 16 : Nat) := by rw [WeighRecord.binWidth, span]; rfl
  rw [WeighRecord.bin, if_neg (Int.not_lt.2 start), width, above, span,
    truncDiv_of_ne_zero (Int.natCast_ne_zero.2 positive), ← Int.ofNat_tdiv]
  simp only [Int.toNat_natCast]

theorem WeighRecord.force_eq (p : WeighRecord) (head rod : Int) :
    p.force head rod = (head * p.headArea - rod * p.rodArea).tdiv 1000 := truncDiv_of_ne_zero (by decide)

theorem WindowRecord.seePitch_eq (w : WindowRecord) (v : Option Int) :
    w.seePitch v = { w with
      pitchSum := v.elim w.pitchSum (w.pitchSum + ·), pitchCount := v.elim w.pitchCount fun _ =>
        w.pitchCount + 1 } := by
  cases v <;> rfl

theorem WindowRecord.seeAccel_eq (w : WindowRecord) (v : Option Int) :
    w.seeAccel v = { w with
      accelSeen := v.elim w.accelSeen fun _ => true, accelMax := v.elim w.accelMax fun a =>
        max w.accelMax a.natAbs } := by
  cases v <;> rfl

theorem lower_eq (x : Option Int) (v : Int) : lower x v = some (min (x.getD v) v) := by
  cases x with
  | none => exact congrArg some (Int.min_self v).symm
  | some a => exact congrArg some (Int.min_comm v a)

theorem raise_eq (x : Option Int) (v : Int) : raise x v = some (max (x.getD v) v) := by
  cases x with
  | none => exact congrArg some (Int.max_self v).symm
  | some a => exact congrArg some (Int.max_comm v a)

/-- The window after a sample: its force and payload, tilt, and the pitch and the acceleration that count. -/
def WindowRecord.sampled (w : WindowRecord) (theta : Int) (b : Nat) (force payload tilt : Int)
    (pitch accel : Option Int) :
    WindowRecord :=
  { w.addToBin b force payload with
    samples := w.samples + 1
    tiltMin := some (min (w.tiltMin.getD tilt) tilt)
    tiltMax := some (max (w.tiltMax.getD tilt) tilt)
    highest := max w.highest theta
    pitchSum := pitch.elim w.pitchSum (w.pitchSum + ·)
    pitchCount := pitch.elim w.pitchCount fun _ => w.pitchCount + 1
    accelSeen := accel.elim w.accelSeen fun _ => true
    accelMax := accel.elim w.accelMax fun a => max w.accelMax a.natAbs }

/-- The pitch that a sample sees (R96, step 5). -/
def State.pitchSeen (s : State) : Option Int := if s.sig.freshOf .pitch = true then some
    (s.sig.valueOf .pitch) else none

/-- The acceleration that a sample sees (R97). -/
def State.accelSeen (s : State) : Option Int := if s.sig.freshOf .speed = true then s.weigh.accel else none

/-- The window of a state after a sample (R96). -/
def State.sampledWindow (theta : Int) (s : State) : WindowRecord :=
  let p := s.weigh.params
  let force := p.force (s.sig.valueOf .headP) (s.sig.valueOf .rodP)
  s.weigh.window.sampled theta (p.bin theta) force (s.addedPayload force theta) (s.sig.valueOf .tilt) s.pitchSeen
    s.accelSeen

theorem State.accumulate_eq (theta : Int) (s : State) :
    s.accumulate theta = { s with weigh := { s.weigh with window := s.sampledWindow theta } } := by
  simp only [State.accumulate, WindowRecord.seeAccel_eq, WindowRecord.seePitch_eq, lower_eq, raise_eq]
  rfl

/-- Settles O32. -/
theorem sampleAccumulated : Obligations.SampleAccumulated := by
  intro theta tag s window fresh ok
  dsimp only
  intro near below
  refine ⟨s.weigh.params.bin theta, _, WeighRecord.bin_lt _ _, WeighRecord.bin_eq,
    exec_weighSample_accumulates window fresh ok near below, ?_, ?_⟩
  · rw [← WeighRecord.force_eq]
    refine ⟨by rw [State.accumulate_eq]; rfl, fun i => State.accumulate_bins theta (s.take _) i, ?_⟩
    rw [State.accumulate_eq]
    dsimp only [State.sampledWindow, WindowRecord.sampled]
    refine ⟨rfl, rfl, fun pitch => ?_, fun pitch => ?_, fun a speed accel => ?_, fun none => ?_, rfl, rfl, rfl, rfl,
      rfl⟩
    · rw [show (s.take _).pitchSeen = some _ from if_pos pitch]
      exact ⟨rfl, rfl⟩
    · rw [show (s.take _).pitchSeen = Option.none from if_neg (Bool.eq_false_iff.1 pitch)]
      exact ⟨rfl, rfl⟩
    · rw [show (s.take _).accelSeen = some a from (if_pos speed).trans accel]
      exact ⟨rfl, rfl⟩
    · have nothing : s.accelSeen = Option.none := by
        unfold State.accelSeen
        rcases none with stale | absent
        · exact if_neg (Bool.eq_false_iff.1 stale)
        · rw [absent]
          exact ite_self _
      rw [show (s.take _).accelSeen = Option.none from nothing]
      exact ⟨rfl, rfl⟩
  · rw [State.accumulate_eq]
    rfl

/-! ### Evaluation (R100 to R105) -/

theorem reasonIndex_inj {r x : Reason} (h : reasonIndex r = reasonIndex x) : r = x := by
  cases r <;> cases x <;> first | rfl | cases h

theorem hasReason_reasonsHolding (l : List (Reason × Bool)) (r : Reason) :
    hasReason (reasonsHolding l) r = true ↔ (r, true) ∈ l := by
  have inside : ∀ y, reasonIndex y < 11 := fun y => by cases y <;> decide
  induction l with
  | nil => simp [hasReason, reasonsHolding]
  | cons x xs ih =>
    obtain ⟨x, holds⟩ := x
    have same : x = r ↔ reasonIndex x = reasonIndex r := ⟨congrArg _, reasonIndex_inj⟩
    cases holds
    · simpa [reasonsHolding] using ih
    · have joined : hasReason (reasonsHolding ((x, true) :: xs)) r = true ↔
          hasReason (reasonsHolding xs) r = true ∨ reasonIndex x = reasonIndex r := by
        simp only [hasReason, reasonsHolding, if_true, BitVec.getLsbD_or, BitVec.getLsbD_twoPow, Bool.or_eq_true,
          Bool.and_eq_true, decide_eq_true_eq, inside, true_and]
      refine joined.trans ((or_congr ih same.symm).trans ?_)
      simp [or_comm, eq_comm]

theorem foldl_max_mem (m : Int) (ms : List Int) : ms.foldl max m ∈ m :: ms ∧ ∀ a ∈ m :: ms, a ≤ ms.foldl max m := by
  induction ms generalizing m with
  | nil => simp
  | cons x xs ih =>
    obtain ⟨mem, top⟩ := ih (max m x)
    have bound := top (max m x) (List.mem_cons_self ..)
    refine ⟨?_, fun a ha => ?_⟩
    · rw [List.foldl_cons]
      rcases List.mem_cons.1 mem with h | h
      · rw [h]
        obtain hm | hx : max m x = m ∨ max m x = x := by omega
        · simp [hm]
        · simp [hx]
      · exact List.mem_cons_of_mem _ (List.mem_cons_of_mem _ h)
    · rw [List.foldl_cons]
      rcases List.mem_cons.1 ha with rfl | ha
      · exact Int.le_trans (Int.le_max_left _ _) bound
      · rcases List.mem_cons.1 ha with rfl | ha
        · exact Int.le_trans (Int.le_max_right _ _) bound
        · exact top a (List.mem_cons_of_mem _ ha)

theorem foldl_min_mem (m : Int) (ms : List Int) : ms.foldl min m ∈ m :: ms ∧ ∀ a ∈ m :: ms, ms.foldl min m ≤ a := by
  induction ms generalizing m with
  | nil => simp
  | cons x xs ih =>
    obtain ⟨mem, bottom⟩ := ih (min m x)
    have bound := bottom (min m x) (List.mem_cons_self ..)
    refine ⟨?_, fun a ha => ?_⟩
    · rw [List.foldl_cons]
      rcases List.mem_cons.1 mem with h | h
      · rw [h]
        obtain hm | hx : min m x = m ∨ min m x = x := by omega
        · simp [hm]
        · simp [hx]
      · exact List.mem_cons_of_mem _ (List.mem_cons_of_mem _ h)
    · rw [List.foldl_cons]
      rcases List.mem_cons.1 ha with rfl | ha
      · exact Int.le_trans bound (Int.min_le_left _ _)
      · rcases List.mem_cons.1 ha with rfl | ha
        · exact Int.le_trans bound (Int.min_le_right _ _)
        · exact bottom a (List.mem_cons_of_mem _ ha)

theorem spreadOf_isSome (ms : List Int) : (spreadOf ms).isSome = true ↔ ms ≠ [] := by
  cases ms <;> simp [spreadOf]

/-- The spread of a list lies between two of its members, and no two are further apart (R100). -/
theorem spreadOf_eq_some {ms : List Int} {x : Int} (h : spreadOf ms = some x) :
    (∃ hi ∈ ms, ∃ lo ∈ ms, x = hi - lo) ∧ ∀ a ∈ ms, ∀ b ∈ ms, a - b ≤ x := by
  cases ms with
  | nil => cases h
  | cons m ms =>
    obtain rfl := Option.some.inj h
    obtain ⟨hi, top⟩ := foldl_max_mem m ms
    obtain ⟨lo, bottom⟩ := foldl_min_mem m ms
    exact ⟨⟨_, hi, _, lo, rfl⟩, fun a ha b hb => Int.sub_le_sub (top a ha) (bottom b hb)⟩

theorem above_iff (x : Option Int) (limit : Nat) : above x limit = true ↔ ∃ v, x = some v ∧ (limit : Int) < v := by
  cases x <;> simp [above]

theorem gradeOf_rejected (reasons : ReasonSet) (x : Option Int) (limit : Nat) :
    gradeOf reasons x limit = .rejected ↔ reasons ≠ 0 := by
  unfold gradeOf
  split
  next h => exact ⟨fun _ => h, fun _ => rfl⟩
  next h => split <;> exact ⟨nofun, fun k => absurd k h⟩

theorem gradeOf_marginal (reasons : ReasonSet) (x : Option Int) (limit : Nat) :
    gradeOf reasons x limit = .marginal ↔ reasons = 0 ∧ ∃ v, x = some v ∧ (limit : Int) < v := by
  unfold gradeOf
  rw [← above_iff]
  split
  next h => exact ⟨nofun, fun k => absurd k.1 h⟩
  next h =>
    split
    next far => exact ⟨fun _ => ⟨Classical.not_not.1 h, far⟩, fun _ => rfl⟩
    next near => exact ⟨nofun, fun k => absurd k.2 near⟩

theorem WindowRecord.tiltRange_eq_some (w : WindowRecord) (x : Int) :
    w.tiltRange = some x ↔ ∃ lo hi, w.tiltMin = some lo ∧ w.tiltMax = some hi ∧ x = hi - lo := by
  unfold WindowRecord.tiltRange
  cases w.tiltMin <;> cases w.tiltMax <;> simp [eq_comm]

theorem WindowRecord.tiltRange_exceeds (w : WindowRecord) (limit : Int) :
    (∃ x, w.tiltRange = some x ∧ limit < x) ↔
      ∃ lo hi, w.tiltMin = some lo ∧ w.tiltMax = some hi ∧ limit < hi - lo := by
  simp only [WindowRecord.tiltRange_eq_some]
  constructor
  · rintro ⟨_, ⟨lo, hi, low, high, rfl⟩, moved⟩
    exact ⟨lo, hi, low, high, moved⟩
  · rintro ⟨lo, hi, low, high, moved⟩
    exact ⟨_, ⟨lo, hi, low, high, rfl⟩, moved⟩

/-- The reasons of an evaluated window, one by one (R102). -/
theorem hasReason_evaluationReasons (w : WindowRecord) (p : WeighRecord) (f : Figures)
    (pitchMapped speedMapped activeValid : Bool) :
    let set := evaluationReasons w p f pitchMapped speedMapped activeValid
    (hasReason set .fewSamples = true ↔ w.samples < p.minSamples) ∧
    (hasReason set .fewBins = true ↔ w.sampledBins.length < p.minBins) ∧
    (hasReason set .liftSlow = true ↔
      w.calFlag = false ∧ w.cal.valid = true ∧ f.rate * 100 < w.cal.rate * (100 - (p.rateBand : Int))) ∧
    (hasReason set .liftFast = true ↔
      w.calFlag = false ∧ w.cal.valid = true ∧ w.cal.rate * (100 + (p.rateBand : Int)) < f.rate * 100) ∧
    (hasReason set .spread = true ↔ ∃ x, f.spread = some x ∧ (p.spreadReject : Int) < x) ∧
    (hasReason set .tiltMoved = true ↔ ∃ x, f.tiltRange = some x ∧ (p.tiltLimit : Int) < x) ∧
    (hasReason set .slope = true ↔ pitchMapped = true ∧ ∀ m, f.meanPitch = some m → p.pitchLimit < m.natAbs) ∧
    (hasReason set .accel = true ↔ speedMapped = true ∧ (w.accelSeen = false ∨ p.accelLimit < w.accelMax)) ∧
    (hasReason set .noCal = true ↔ w.cal.valid = false ∨ activeValid = false) ∧
    hasReason set .signalLost = false ∧ hasReason set .range = false := by
  have covered : w.coveredBins = w.sampledBins := rfl
  intro set
  simp only [set, ← Bool.not_eq_true (hasReason _ _), evaluationReasons, hasReason_reasonsHolding, covered,
    List.mem_cons,
    Prod.mk.injEq, List.not_mem_nil, or_false, reduceCtorEq, false_and, false_or, true_and, eq_comm (a := true),
    decide_eq_true_eq, Bool.and_eq_true, Bool.or_eq_true, Bool.not_eq_true', above_iff, and_assoc, not_false_eq_true,
    and_true]
  cases f.meanPitch <;> simp

/-- The result that an evaluated window publishes. -/
def State.evaluated (theta : Int) (tag : TimeTag) (s : State) : LiftResult :=
  { s.evaluate theta tag with sequence := s.weigh.sequence + 1, tag := s.time.tag }

/-- The figures of the window that a sample ends. -/
def State.figuresAt (theta : Int) (tag : TimeTag) (s : State) : Figures :=
  s.weigh.window.figures s.weigh.params (s.sig.slotOf .pitch).isSome theta tag

/-- The bin means that count: those of a window with a valid calibration. -/
theorem WindowRecord.figures_spread (w : WindowRecord) (p : WeighRecord) (mapped : Bool) (theta : Int) (tag : TimeTag) :
    (w.figures p mapped theta tag).spread = spreadOf (if w.cal.valid = true then w.binMeans else []) := rfl

theorem WindowRecord.binMeans_eq_nil (w : WindowRecord) : w.binMeans = [] ↔ w.sampledBins = [] := List.map_eq_nil_iff

theorem WindowRecord.figures_corrected {w : WindowRecord} (valid : w.cal.valid = true) (covered : w.sampledBins ≠ [])
    (p : WeighRecord) (mapped : Bool) (theta : Int) (tag : TimeTag) :
    let u := roundDiv w.binMeans.sum w.sampledBins.length
    (w.figures p mapped theta tag).corrected =
      match w.meanPitch with
      | some m => if mapped then some (correctPitch p.pitchCoeff u m) else some u
      | none => some u := by
  have nonempty : w.binMeans.isEmpty = false := by
    rw [← Bool.not_eq_true, List.isEmpty_iff, WindowRecord.binMeans_eq_nil]
    exact covered
  have length : w.binMeans.length = w.sampledBins.length := List.length_map _
  simp only [WindowRecord.figures, valid, if_true, nonempty, Bool.false_eq_true, if_false, length]
  cases w.meanPitch <;> rfl

theorem State.evaluated_reasons (theta : Int) (tag : TimeTag) (s : State) :
    (s.evaluated theta tag).reasons = evaluationReasons s.weigh.window s.weigh.params (s.figuresAt theta tag)
      (s.sig.slotOf .pitch).isSome (s.sig.slotOf .speed).isSome s.cal.active.valid := rfl

theorem State.evaluated_grade (theta : Int) (tag : TimeTag) (s : State) :
    (s.evaluated theta tag).grade = gradeOf (s.evaluated theta tag).reasons (s.evaluated theta tag).spread
      s.weigh.params.spreadGood := rfl

theorem State.evaluated_payload (theta : Int) (tag : TimeTag) (s : State) :
    (s.evaluated theta tag).payload =
      if (s.evaluated theta tag).grade = .rejected then none else (s.figuresAt theta tag).corrected := rfl

/-- Settles O33: the result published is the one evaluated, figure by figure and reason by reason. -/
theorem windowEvaluated : Obligations.WindowEvaluated := by
  intro theta tag s window fresh ok
  dsimp only
  intro near reached
  refine ⟨s.evaluated theta tag, s.weigh.window.rate theta tag, ?_, rfl, rfl, rfl, rfl, rfl, rfl,
    fun same => if_pos same,
    fun apart => ?_, rfl, ?_, fun x spread => ?_, ?_⟩
  · rw [exec_weighSample, State.weighSample_window (by exact window),
      State.windowSample_read (by exact fresh) (by exact ok),
      if_neg (by exact Int.not_lt.2 near), if_pos (by exact reached), State.publishLift_eq]
    rfl
  · rw [WindowRecord.rate, if_neg apart, truncDiv_of_ne_zero (Int.natCast_ne_zero.2 apart)]
  · change (spreadOf _).isSome = true ↔ _
    rw [spreadOf_isSome]
    split
    next valid => rw [ne_eq, WindowRecord.binMeans_eq_nil]; simp [valid]
    next invalid => simp [invalid]
  · change spreadOf _ = some x at spread
    split at spread
    · exact spreadOf_eq_some spread
    · cases spread
  · obtain ⟨fewSamples, fewBins, liftSlow, liftFast, far, tiltMoved, slope, accel, noCal, signalLost, range⟩ :=
      hasReason_evaluationReasons s.weigh.window s.weigh.params (s.figuresAt theta tag) (s.sig.slotOf .pitch).isSome
        (s.sig.slotOf .speed).isSome s.cal.active.valid
    refine ⟨fewSamples, fewBins, liftSlow, liftFast, far, tiltMoved.trans ?_, slope, accel, noCal, signalLost, range,
      gradeOf_rejected .., gradeOf_marginal .., fun rejected => if_pos rejected, fun graded valid covered => ?_⟩
    · exact s.weigh.window.tiltRange_exceeds _
    have corrected := WindowRecord.figures_corrected valid covered s.weigh.params (s.sig.slotOf .pitch).isSome theta tag
    have payload : (s.evaluated theta tag).payload = _ := (if_neg graded).trans corrected
    refine ⟨fun plain => payload.trans ?_, fun m mapped mean => ?_⟩
    · cases mean : s.weigh.window.meanPitch with
      | none => rfl
      | some m => exact if_neg (plain.resolve_right fun h => Option.some_ne_none m (mean.symm.trans h))
    · rw [show s.weigh.window.meanPitch = some m from mean] at payload
      exact ⟨_, payload.trans (if_pos mapped), correctPitch_range .., fun fits => inField_fits fits⟩

/-! ### The speed memory (R97) -/

theorem newAccel_eq (m : SpeedWrite) (accel : Option Int) (v : Int) (tag : TimeTag) :
    let d := (tag - m.tag).toNat
    (d = 0 → newAccel (some m) accel v tag = accel) ∧
    (1 ≤ d → d ≤ 1000000 → newAccel (some m) accel v tag = some (((v - m.speed) * 1000000).tdiv d)) ∧
    (1000000 < d → newAccel (some m) accel v tag = none) := by
  dsimp only
  refine ⟨fun same => if_pos same, fun apart near => ?_, fun far => ?_⟩
  · have nonzero : tagDiff tag m.tag ≠ 0 := Nat.one_le_iff_ne_zero.1 apart
    refine (if_neg nonzero).trans ((if_pos near).trans ?_)
    rw [truncDiv_of_ne_zero (Int.natCast_ne_zero.2 nonzero)]
    rfl
  · exact (if_neg (Nat.ne_of_gt (Nat.zero_lt_of_lt far))).trans (if_neg (Nat.not_le.2 far))

/-- Settles O36. -/
theorem speedSample : Obligations.SpeedSample := by
  intro v tag s
  refine ⟨fun disabled => ?_, fun on => ⟨newAccel s.weigh.speed s.weigh.accel v tag, ?_, fun first => ?_,
    fun m memory => ?_⟩⟩
  · have keeps : s.weigh.takeSpeed v tag = s.weigh := if_pos disabled
    exact congrArg (fun w => Host.Outcome.next { s.take (.speedSample v tag) with weigh := w }) keeps
  · have takes : s.weigh.takeSpeed v tag =
        { s.weigh with accel := newAccel s.weigh.speed s.weigh.accel v tag, speed := some ⟨v, tag⟩ } := if_neg on
    exact congrArg (fun w => Host.Outcome.next { s.take (.speedSample v tag) with weigh := w }) takes
  · rw [first]
    rfl
  · rw [memory]
    exact newAccel_eq m _ v tag

end Sys2Proof.Machine
end

section
/-!
Calibration runs: their start (R113, R114), the lifts they take (R115), the end of collection (R116 to R118), and their
end by command and by deadline (R119, R120, R122). Settles O37 to O40.
-/

namespace Sys2Proof.Machine

open Sys2Proof

/-! ### Starting a run -/

/-- A run that starts, its deadline and its report (R112 to R114). -/
theorem State.startRun_eq (kind : CalKind) (key : Bool) (lifts mref : Nat) (s : State) :
    s.startRun kind key lifts mref =
      { s with
        cal := s.cal.started kind key lifts mref
        handed := s.handed ++ [.timerStart .tc (some s.cal.deadline) (s.cal.starts + 1),
          .calReport (s.cal.started kind key lifts mref).reported] } := by
  have joined := List.append_assoc s.handed [.timerStart .tc (some s.cal.deadline) (s.cal.starts + 1)]
    [.calReport (s.cal.started kind key lifts mref).reported]
  exact congrArg (fun h => { s with cal := s.cal.started kind key lifts mref, handed := h }) joined

theorem State.inRun_run {s : State} (run : s.mgt.config = .run) (body : Answer) : s.inRun body = body := if_pos run

theorem State.inRun_other {s : State} (other : s.mgt.config ≠ .run) (body : Answer) :
    s.inRun body = refuse s .wrongMode :=
  if_neg other

/-- CAL_START in RUN, by its kind. -/
theorem State.doCalStart_kind {s : State} {req : Request} {kind : CalKind} (run : s.mgt.config = .run)
    (named : enumAt calKinds req.data 0 = some kind) :
    s.doCalStart req =
      if startInRange kind (byteAt req.data 1) (natAt req.data 2 2) = true then
        if s.cal.run = .off then
          if kind = .zero ∧ s.cal.active.valid = false then refuse s .noCal
          else answerOk (s.startRun kind false (byteAt req.data 1) (runMref kind (natAt req.data 2 2)))
            (enumByte calKinds kind ++ u8 (byteAt req.data 1))
        else refuse s .busy
      else refuse s .badValue := by
  unfold State.doCalStart
  dsimp only
  rw [State.inRun_run run, named]
  dsimp only
  cases startInRange kind (byteAt req.data 1) (natAt req.data 2 2)
  · rfl
  · by_cases off : s.cal.run = .off
    · simp only [off, not_true_eq_false, Bool.not_true, Bool.not_eq_true', Bool.false_eq_true, if_false, if_true, ne_eq]
    · simp only [off, not_false_eq_true, Bool.not_true, Bool.false_eq_true, if_false, if_true, ne_eq]

theorem State.doCalStart_unnamed {s : State} {req : Request} (run : s.mgt.config = .run)
    (unnamed : enumAt calKinds req.data 0 = none) : s.doCalStart req = refuse s .badValue := by
  unfold State.doCalStart
  dsimp only
  rw [State.inRun_run run, unnamed]

theorem enumAt_calKinds (d : List Byte) :
    (byteAt d 0 = 0 ∧ enumAt calKinds d 0 = some .empty) ∨ (byteAt d 0 = 1 ∧ enumAt calKinds d 0 = some .reference) ∨
      (byteAt d 0 = 2 ∧ enumAt calKinds d 0 = some .zero) ∨ (3 ≤ byteAt d 0 ∧ enumAt calKinds d 0 = none) := by
  unfold enumAt
  match byteAt d 0 with
  | 0 => exact .inl ⟨rfl, rfl⟩
  | 1 => exact .inr (.inl ⟨rfl, rfl⟩)
  | 2 => exact .inr (.inr (.inl ⟨rfl, rfl⟩))
  | n + 3 => exact .inr (.inr (.inr ⟨Nat.le_add_left 3 n, rfl⟩))

theorem startInRange_empty (n mref : Nat) : startInRange .empty n mref = true ↔ 3 ≤ n ∧ n ≤ 8 := by
  simp only [startInRange, inRange, decide_eq_true_eq]
  omega

theorem startInRange_reference (n mref : Nat) :
    startInRange .reference n mref = true ↔ 3 ≤ n ∧ n ≤ 8 ∧ 500 ≤ mref ∧ mref ≤ 30000 := by
  simp only [startInRange, inRange, Bool.and_eq_true, decide_eq_true_eq]
  omega

theorem startInRange_zero (n mref : Nat) : startInRange .zero n mref = true ↔ n = 1 := beq_iff_eq

/-- A start in its range names its kind (R113, check 2). -/
theorem calStart_fits_iff (req : Request) :
    let k := byteAt req.data 0
    let n := byteAt req.data 1
    let mref := natAt req.data 2 2
    ((k = 0 ∧ 3 ≤ n ∧ n ≤ 8) ∨ (k = 1 ∧ 3 ≤ n ∧ n ≤ 8 ∧ 500 ≤ mref ∧ mref ≤ 30000) ∨ (k = 2 ∧ n = 1)) ↔
      ∃ kind, enumAt calKinds req.data 0 = some kind ∧ startInRange kind n mref = true := by
  dsimp only
  obtain ⟨code, named⟩ | ⟨code, named⟩ | ⟨code, named⟩ | ⟨code, named⟩ := enumAt_calKinds req.data
  · simp [code, named, startInRange_empty]
  · simp [code, named, startInRange_reference]
  · simp [code, named, startInRange_zero]
  · simp only [named, reduceCtorEq, false_and, exists_false, iff_false]
    omega

theorem calKind_of_code {d : List Byte} {kind k : CalKind} (named : enumAt calKinds d 0 = some kind)
    (code : byteAt d 0 = codeIn calKinds k) : kind = k := by
  rw [enumAt, code] at named
  cases k <;> exact (Option.some.inj named).symm

/-- Settles O37: by the four checks of CAL_START in order, and by the condition of the ZERO key. -/
theorem runStarts : Obligations.RunStarts := by
  refine ⟨fun req s admitted long => ?_, fun s => ⟨fun starts => ?_, fun waits => ?_⟩⟩
  · have refused : ∀ status, State.doCalStart req (s.take (.calStart req)) = refuse (s.take (.calStart req)) status →
        exec (.calStart req) s = .next (s.answers (.calStart req) req status []) := fun status body =>
      exec_admitted_refuse rfl rfl admitted long body
    have kinds := calStart_fits_iff req
    dsimp only at kinds ⊢
    rw [kinds]
    refine ⟨fun other => refused _ (State.inRun_other (by exact other) _), fun run unfit => refused _ ?_,
      fun run fit on => refused _ ?_, fun run fit off two invalid => refused _ ?_, fun run fit off => ?_⟩
    · cases named : enumAt calKinds req.data 0 with
      | none => exact State.doCalStart_unnamed (by exact run) named
      | some kind =>
        rw [State.doCalStart_kind (by exact run) named]
        exact if_neg fun fits => unfit ⟨kind, named, fits⟩
    all_goals obtain ⟨kind, named, fits⟩ := fit
    · rw [State.doCalStart_kind (by exact run) named]
      exact (if_pos fits).trans (if_neg on)
    all_goals
      have body := (State.doCalStart_kind (s := s.take (.calStart req)) run named).trans
        ((if_pos fits).trans (if_pos off))
    · have zero : kind = .zero := calKind_of_code named (by rw [two]; rfl)
      exact body.trans (if_pos ⟨zero, invalid⟩)
    · have starts : ∀ k, byteAt req.data 0 = codeIn calKinds k → (k = .zero → s.cal.active.valid = true) →
          exec (.calStart req) s = .next
            { s.answers (.calStart req) req .ok (u8 (byteAt req.data 0) ++ u8 (byteAt req.data 1)) with
              cal := s.cal.started k false (byteAt req.data 1) (runMref k (natAt req.data 2 2))
              handed := s.handed.erase (.calStart req) ++ [.timerStart .tc (some s.cal.deadline) (s.cal.starts + 1),
                .calReport (s.cal.started k false (byteAt req.data 1)
                  (runMref k (natAt req.data 2 2))).reported] } := by
        intro k code valid
        obtain rfl := calKind_of_code named code
        have ready : ¬ (kind = .zero ∧ s.cal.active.valid = false) := fun ⟨zero, invalid⟩ =>
          Bool.false_ne_true (invalid.symm.trans (valid zero))
        rw [exec_admitted_body (c := .calStart req) rfl rfl admitted long (body.trans (if_neg ready)),
          State.startRun_eq, code]
        rfl
      refine ⟨fun zero => ?_, fun one => ?_, fun two valid => ?_⟩
      · exact starts .empty zero nofun
      · exact starts .reference one nofun
      · exact starts .zero two fun _ => valid
  · refine congrArg Host.Outcome.next ((if_pos (by exact starts)).trans ?_)
    rw [State.startRun_eq]
    rfl
  · exact congrArg Host.Outcome.next (if_neg (by exact waits))

/-! ### Lifts (R115) -/

theorem mem_refusingReasons (x : Reason) : x ∈ refusingReasons ↔ x ≠ .liftSlow ∧ x ≠ .liftFast ∧ x ≠ .noCal := by
  cases x <;> decide

theorem refusedByReason_iff (r : LiftResult) :
    refusedByReason r = true ↔ ∃ x, hasReason r.reasons x = true ∧ x ≠ .liftSlow ∧ x ≠ .liftFast ∧ x ≠ .noCal := by
  simp only [refusedByReason, List.any_eq_true, mem_refusingReasons, and_comm]

theorem Calibration.accepts_iff (c : Calibration) (r : LiftResult) : c.accepts r = true ↔ ¬ c.refuses r := by
  unfold Calibration.accepts Calibration.refuses
  rw [← refusedByReason_iff, Bool.and_eq_true, Bool.not_eq_true', not_or, Bool.not_eq_true]
  refine and_congr_right fun _ => ?_
  cases c.record.kind with
  | empty => simp
  | reference => simp
  | zero =>
    cases r.payload with
    | none => simp
    | some p =>
      refine Iff.trans (b := -30000 ≤ c.newZero p ∧ c.newZero p ≤ 30000) ⟨of_decide_eq_true, decide_eq_true⟩ ?_
      unfold Calibration.newZero
      constructor
      · rintro ⟨low, high⟩ ⟨-, out⟩
        have beyond := out p rfl
        omega
      · intro inside
        refine Decidable.byContradiction fun out => inside ⟨rfl, fun x same => ?_⟩
        cases same
        omega

/-- The record of a run that took an accepted lift. -/
def RunRecord.took (k : RunRecord) (r : LiftResult) (forces : BinForces) : RunRecord :=
  { k.gather r forces with accepted := k.accepted + 1 }

theorem RunRecord.took_gathers (k : RunRecord) (r : LiftResult) (forces : BinForces) :
    k.Gathers r forces (k.took r forces) := by
  have lifted : ∀ (n : Nat) (f : Option Int), (if f.isSome = true then n + 1 else n) = n + if f.isSome =
    true then 1 else 0 := by
    intro n f
    split <;> rfl
  obtain ⟨kind, key, lifts, mref, accepted, refused, binSums, binLifts, rateSum, cause⟩ := k
  cases kind with
  | zero => exact ⟨fun _ => rfl, fun other => absurd rfl other, fun other => absurd rfl other,
    fun other => absurd rfl other⟩
  | empty | reference =>
    refine ⟨nofun, fun _ b => ?_, fun _ => rfl, fun _ => rfl⟩
    simp only [RunRecord.took, RunRecord.gather, Fin.getElem_fin, Vector.getElem_zipWith, true_and]
    exact lifted _ _

theorem RunRecord.took_kept (k : RunRecord) (r : LiftResult) (forces : BinForces) :
    (k.took r forces).lifts = k.lifts ∧ (k.took r forces).kind = k.kind ∧ (k.took r forces).mref = k.mref ∧
      (k.took r forces).keyStarted = k.keyStarted := by
  obtain ⟨kind, key, lifts, mref, accepted, refused, binSums, binLifts, rateSum, cause⟩ := k
  cases kind <;> exact ⟨rfl, rfl, rfl, rfl⟩

theorem RunRecord.learnt_learns (k : RunRecord) : k.Learns k.learnt := by
  intro b
  simp [RunRecord.learnt]

/-- The unit after an accepted lift. -/
def Calibration.took (c : Calibration) (r : LiftResult) (forces : BinForces) : Calibration :=
  { c with record := c.record.took r forces }

/-- A flagged result in COLLECTING. -/
theorem State.takeCalLift_collecting {s : State} (collecting : s.cal.run = .collecting) (r : LiftResult)
    (forces : BinForces) :
    (s.cal.refuses r → s.takeCalLift r forces =
      { s with cal := { s.cal with record := { s.cal.record with refused := satInc 255 s.cal.record.refused } } }) ∧
    (¬ s.cal.refuses r → s.takeCalLift r forces =
      if s.cal.record.accepted + 1 = s.cal.record.lifts then
        State.endCollection r { s with cal := s.cal.took r forces }
      else { s with cal := s.cal.took r forces }) := by
  rw [State.takeCalLift, if_pos collecting]
  refine ⟨fun refuses => if_neg (mt (Calibration.accepts_iff ..).1 (Classical.not_not.2 refuses)), fun accepts => ?_⟩
  rw [if_pos ((Calibration.accepts_iff ..).2 accepts)]
  have lifts : (s.cal.record.gather r forces).lifts = s.cal.record.lifts := (RunRecord.took_kept ..).1
  rw [← lifts]
  rfl

theorem exec_calLift (r : LiftResult) (forces : BinForces) (s : State) :
    exec (.calLift r forces) s = .next ((s.take (.calLift r forces)).takeCalLift r forces) := rfl

/-- Settles O38. -/
theorem calLiftTaken : Obligations.CalLiftTaken := by
  intro r forces s
  refine ⟨fun idle => congrArg Host.Outcome.next (if_neg (by exact idle)), fun collecting refuses => ?_,
    fun collecting accepts more => ⟨s.cal.record.took r forces, ?_, RunRecord.took_gathers ..⟩⟩
  · obtain ⟨refused, -⟩ := State.takeCalLift_collecting (s := s.take _) collecting r forces
    exact congrArg Host.Outcome.next (refused refuses)
  · obtain ⟨-, accepted⟩ := State.takeCalLift_collecting (s := s.take _) collecting r forces
    exact congrArg Host.Outcome.next ((accepted accepts).trans (if_neg more))

/-! ### The end of collection (R116 to R118) -/

/-- The unit whose run has ended its collection: the candidate is written, TC's start no longer open (log 25). -/
def Calibration.ended (c : Calibration) (r : LiftResult) : Calibration :=
  { c with candidate := c.finish r, startOpen := false }

theorem State.changeRun_eq (run : RunState) (cause : CalCause) (s : State) :
    s.changeRun run cause =
      { s with cal := s.cal.changed run cause, handed := s.handed ++
        [.calReport (s.cal.changed run cause).reported] } := rfl

/-- The unit after the end of collection, by how its run was started. -/
def Calibration.decided (c : Calibration) (r : LiftResult) (zeroLimit : Nat) : Calibration :=
  if c.record.keyStarted = true then
    if (c.finish r).zeroOffset.natAbs ≤ zeroLimit then { c.ended r with active := c.finish r }.changed .off .accepted
    else (c.ended r).changed .off .discarded
  else (c.ended r).changed .review .collected

theorem State.endCollection_eq (r : LiftResult) (s : State) :
    s.endCollection r =
      { s with
        cal := s.cal.decided r s.weigh.params.zeroLimit
        handed := s.handed ++ [.timerStop .tc, .calReport (s.cal.decided r s.weigh.params.zeroLimit).reported] } := by
  have joined : ∀ d : Calibration, { s with cal := d, handed := (s.handed ++ [Instr.timerStop .tc]) ++
    [Instr.calReport d.reported] } =
      { s with cal := d, handed := s.handed ++ [Instr.timerStop .tc, Instr.calReport d.reported] } := fun d =>
    congrArg (fun h => { s with cal := d, handed := h }) (List.append_assoc ..)
  rw [← joined]
  unfold State.endCollection State.decideRun Calibration.decided
  dsimp only
  by_cases key : s.cal.record.keyStarted = true
  · rw [if_pos key, if_pos (by exact key)]
    by_cases near : (s.cal.finish r).zeroOffset.natAbs ≤ s.weigh.params.zeroLimit
    · rw [if_pos near, if_pos (by exact near)]
      rfl
    · rw [if_neg near, if_neg (by exact near)]
      rfl
  · rw [if_neg key, if_neg (by exact key)]
    rfl

/-- Settles O39. -/
theorem collectionEnds : Obligations.CollectionEnds := by
  intro r forces s collecting accepts last
  dsimp only
  obtain ⟨-, accepted⟩ := State.takeCalLift_collecting (s := s.take (.calLift r forces)) collecting r forces
  obtain ⟨lifts, kind, mref, key⟩ := s.cal.record.took_kept r forces
  have taken := (accepted accepts).trans (if_pos last)
  rw [State.endCollection_eq] at taken
  have finish : (s.cal.took r forces).finish r = _ := rfl
  refine ⟨s.cal.record.took r forces, (s.cal.took r forces).finish r,
    (s.cal.took r forces).decided r s.weigh.params.zeroLimit,
    congrArg Host.Outcome.next taken, RunRecord.took_gathers .., fun empty => ?_, fun reference => ?_,
      fun p zero payload => ?_,
    fun command => ?_, fun keyed near => ?_, fun keyed far => ?_⟩
  · have kind' : (s.cal.took r forces).record.kind = .empty := kind.trans empty
    rw [Calibration.finish, kind']
    exact ⟨RunRecord.learnt_learns _, rfl, rfl⟩
  · have kind' : (s.cal.took r forces).record.kind = .reference := kind.trans reference
    rw [Calibration.finish, kind', ← mref]
    exact ⟨RunRecord.learnt_learns _, rfl⟩
  · have kind' : (s.cal.took r forces).record.kind = .zero := kind.trans zero
    rw [Calibration.finish, kind', payload]
    rfl
  · exact if_neg (Bool.eq_false_iff.1 (key.trans command))
  · exact (if_pos (key.trans keyed)).trans (if_pos near)
  · exact (if_pos (key.trans keyed)).trans (if_neg (Nat.not_le.2 far))

/-! ### The end of a run (R119, R120, R122) -/

theorem State.onCal_setFault (x : FaultFlag) (f : Calibration → Calibration) (s : State) :
    (s.onCal f).setFault x = (s.setFault x).onCal f := by
  simp only [State.setFault, apply_ite (State.onCal f)]
  rfl

/-- An expiry of TC that answers the last start, no stop sent since (R122; log 25). -/
theorem State.takeDeadline_answers {n : Nat} {s : State} (opened : s.cal.startOpen = true) (last : n = s.cal.starts) :
    s.takeDeadline n =
      if s.cal.run = .collecting then
        ((s.setFault .calTimeout).onCal fun c => { c with startOpen := false }).changeRun .off .timeout
      else s.onCal fun c => { c with startOpen := false } := by
  rw [State.takeDeadline, if_pos ⟨opened, last⟩, ← State.onCal_setFault]
  rfl

/-- Settles O40. -/
theorem runEnds : Obligations.RunEnds := by
  refine ⟨fun req s admitted => ?_, fun n s => ?_⟩
  · dsimp only
    refine ⟨fun review valid => ?_, fun review invalid => ?_, fun other => ?_, fun review => ?_, fun collecting => ?_,
      fun off => ?_⟩
    · have body : bodyOf (.calAccept req) (s.take (.calAccept req)) = answerOk (s.take (.calAccept req)).acceptRun [] :=
        (if_neg (Classical.not_not.2 review)).trans (if_pos valid)
      rw [List.append_nil]
      exact exec_admitted_body rfl rfl admitted (Nat.zero_le _) body
    · have body : bodyOf (.calAccept req) (s.take (.calAccept req)) = refuse (s.take (.calAccept req)) .calInvalid :=
        (if_neg (Classical.not_not.2 review)).trans (if_neg (Bool.eq_false_iff.1 invalid))
      exact exec_admitted_refuse rfl rfl admitted (Nat.zero_le _) body
    · exact exec_admitted_refuse rfl rfl admitted (Nat.zero_le _) (if_pos other)
    · have body : bodyOf (.calDiscard req) (s.take (.calDiscard req)) =
          answerOk (State.changeRun .off .discarded (s.take (.calDiscard req))) [] := by
        refine (if_neg (by exact review ▸ nofun)).trans (congrArg (answerOk · []) ?_)
        exact congrArg (State.changeRun .off .discarded) (if_neg (by exact review ▸ nofun))
      rw [List.append_nil]
      exact exec_admitted_body rfl rfl admitted (Nat.zero_le _) body
    · have body : bodyOf (.calDiscard req) (s.take (.calDiscard req)) =
          answerOk (State.changeRun .off .discarded (s.take (.calDiscard req)).stopDeadline) [] := by
        refine (if_neg (by exact collecting ▸ nofun)).trans (congrArg (answerOk · []) ?_)
        exact congrArg (State.changeRun .off .discarded) (if_pos collecting)
      exact exec_admitted_body rfl rfl admitted (Nat.zero_le _) body
    · exact exec_admitted_refuse rfl rfl admitted (Nat.zero_le _) (if_pos off)
  · dsimp only
    refine ⟨fun opened last collecting => ?_, fun opened last idle => ?_, fun other => ?_⟩
    · refine congrArg Host.Outcome.next ((State.takeDeadline_answers (s := s.take _) opened last).trans
        ((if_pos collecting).trans ?_))
      rw [State.changeRun_eq, State.onCal, State.setFault_cal]
      rfl
    · exact congrArg Host.Outcome.next ((State.takeDeadline_answers (s := s.take _) opened last).trans (if_neg idle))
    · refine congrArg Host.Outcome.next (if_neg ?_)
      rintro ⟨opened, last⟩
      exact other.elim (fun closed => Bool.false_ne_true (closed.symm.trans opened)) fun ne => ne last

end Sys2Proof.Machine
end

section
/-!
What changes the active calibration record, the run state and the last lift result (R103, R119, R124). Settles O41.
-/

namespace Sys2Proof.Machine

open Sys2Proof

/-! ### What ends with a RUN (R123, R144) -/

theorem State.endRunByConfig_off {s : State} (off : s.cal.run = .off) : s.endRunByConfig = s := by
  rw [State.endRunByConfig, off]

theorem State.endRunByConfig_on {s : State} (on : s.cal.run ≠ .off) :
    s.endRunByConfig =
      { s with
        cal := { s.cal with startOpen := false }.changed .off .config
        handed := s.handed ++ [.timerStop .tc, .calReport (s.cal.changed .off .config).reported] } := by
  have ends : s.endRunByConfig = s.stopDeadline.changeRun .off .config := by
    unfold State.endRunByConfig
    cases run : s.cal.run with
    | off => exact absurd run on
    | collecting | review => rfl
  rw [ends, State.changeRun_eq]
  exact congrArg (fun h => { s with cal := { s.cal with startOpen := false }.changed .off .config, handed := h })
    (List.append_assoc ..)

/-- What ENTER_CONFIG and SOFT_RESET hand on as they end the run and reset the tracker. -/
theorem State.halted_handed (s : State) : s.endRunByConfig.resetTracker.handed = s.handed ++ s.halts := by
  have reset : ∀ u : State, u.trk = s.trk →
      u.resetTracker.handed = u.handed ++ (s.trk.stops ++ if s.trk.pending = none then [] else
        [.pendingLiftNotice]) := by
    intro u trk
    have pending : (if u.trk.pending.isSome = true then [Instr.pendingLiftNotice] else []) =
        if s.trk.pending = none then [] else [.pendingLiftNotice] := by
      rw [trk]
      cases s.trk.pending <;> rfl
    rw [← pending, ← trk, ← List.append_assoc]
    rfl
  by_cases off : s.cal.run = .off
  · rw [State.endRunByConfig_off off, reset s rfl, State.halts, if_pos off, List.nil_append]
  · rw [State.endRunByConfig_on off]
    refine (reset _ ?_).trans ?_
    · rfl
    · simp only [State.halts, if_neg off, List.append_assoc]

theorem State.endRunByConfig_run (s : State) : s.endRunByConfig.cal.run = .off := by
  by_cases off : s.cal.run = .off
  · rw [State.endRunByConfig_off off, off]
  · rw [State.endRunByConfig_on off]
    rfl

theorem State.endRunByConfig_active (s : State) : s.endRunByConfig.cal.active = s.cal.active := by
  by_cases off : s.cal.run = .off
  · rw [State.endRunByConfig_off off]
  · rw [State.endRunByConfig_on off]
    rfl

/-- A run that configuration ends is reported, and its report is kept. -/
theorem State.halts_report {s : State} (on : s.cal.run ≠ .off) :
    .calReport (s.cal.changed .off .config).reported ∈ s.halts := by
  rw [State.halts, if_neg on]
  simp

/-! ### The active record and the run state -/

/-- What a command can do to the active record and the run state (R119, R124). -/
structure State.CalMoves (c : Instr) (s t : State) : Prop where
  active : t.cal.active ≠ s.cal.active →
    (∃ req, c = .calAccept req) ∨ (∃ r f, c = .calLift r f ∧ s.cal.record.keyStarted = true) ∨
      (∃ req, c = .softReset req) ∨ (∃ req, c = .writeEntry req ∧ s.mgt.config = .config)
  run : t.cal.run ≠ s.cal.run → ∃ r, .calReport r ∈ t.handed ∧ r.run = t.cal.run

theorem State.CalMoves.same {c : Instr} {s t : State} (active : t.cal.active = s.cal.active)
    (run : t.cal.run = s.cal.run) :
    State.CalMoves c s t := ⟨fun h => absurd active h, fun h => absurd run h⟩

theorem State.CalMoves.reported {c : Instr} {s t : State} (active : t.cal.active = s.cal.active)
    (report : .calReport t.cal.reported ∈ t.handed) : State.CalMoves c s t :=
  ⟨fun h => absurd active h, fun _ => ⟨_, report, rfl⟩⟩

theorem State.changeRun_report (run : RunState) (cause : CalCause) (s : State) :
    .calReport (s.changeRun run cause).cal.reported ∈ (s.changeRun run cause).handed := by
  rw [State.changeRun_eq]
  exact List.mem_append_right _ (List.mem_singleton.2 rfl)

theorem State.startRun_report (kind : CalKind) (key : Bool) (lifts mref : Nat) (s : State) :
    .calReport (s.startRun kind key lifts mref).cal.reported ∈ (s.startRun kind key lifts mref).handed :=
  State.changeRun_report ..

theorem State.takeCalLift_calMoves (r : LiftResult) (forces : BinForces) (s : State) :
    State.CalMoves (.calLift r forces) s (s.takeCalLift r forces) := by
  by_cases collecting : s.cal.run = .collecting
  case neg =>
    rw [State.takeCalLift, if_neg collecting]
    exact .same rfl rfl
  obtain ⟨refused, accepted⟩ := State.takeCalLift_collecting collecting r forces
  by_cases refuses : s.cal.refuses r
  · rw [refused refuses]
    exact .same rfl rfl
  rw [accepted refuses]
  split
  · rw [State.endCollection_eq]
    refine ⟨fun changed => ?_, fun _ => ⟨_, List.mem_append_right _
      (List.mem_cons_of_mem _ (List.mem_singleton.2 rfl)), rfl⟩⟩
    obtain ⟨-, -, -, key⟩ := s.cal.record.took_kept r forces
    by_cases keyStarted : s.cal.record.keyStarted = true
    · exact .inr (.inl ⟨r, forces, rfl, keyStarted⟩)
    · have plain : (s.cal.took r forces).decided r s.weigh.params.zeroLimit = _ := if_neg (by exact key ▸ keyStarted)
      refine absurd ?_ changed
      dsimp only
      rw [plain]
      rfl
  · exact .same rfl rfl

theorem State.takeDeadline_calMoves (n : Nat) (s : State) : State.CalMoves (.calDeadline n) s (s.takeDeadline n) := by
  unfold State.takeDeadline
  split
  · dsimp only
    split
    · refine .reported ?_ (State.changeRun_report ..)
      rw [State.changeRun_eq, State.setFault_cal]
      rfl
    · exact .same rfl rfl
  · exact .same rfl rfl

theorem State.zeroKey_calMoves (s : State) : State.CalMoves .zero s s.zeroKey := by
  unfold State.zeroKey
  split
  · exact .reported rfl (State.startRun_report ..)
  · exact .same rfl rfl

theorem State.discardRun_calMoves (c : Instr) (s : State) : State.CalMoves c s s.discardRun := by
  refine .reported ?_ (State.changeRun_report ..)
  unfold State.discardRun
  split <;> rfl

theorem Calibration.write_run {c c' : Calibration} {index : Nat} {d : List Byte} (h : c.write index d = some c') :
    c'.run = c.run := by
  unfold Calibration.write at h
  split at h
  · obtain ⟨v, -, rfl⟩ := Option.map_eq_some_iff.1 h
    rfl
  · split at h <;> obtain ⟨v, -, rfl⟩ := Option.map_eq_some_iff.1 h <;> rfl

theorem State.writeTable_run {s t : State} {table index : Nat} {d : List Byte}
    (h : s.writeTable table index d = some t) :
    t.cal.run = s.cal.run := by
  unfold State.writeTable at h
  split at h
  case h_7 => split at h <;> obtain ⟨v, -, rfl⟩ := Option.map_eq_some_iff.1 h <;> rfl
  case h_13 =>
    obtain ⟨v, written, rfl⟩ := Option.map_eq_some_iff.1 h
    exact Calibration.write_run written
  case h_17 => cases h
  all_goals obtain ⟨v, -, rfl⟩ := Option.map_eq_some_iff.1 h; rfl

/-- A report that configuration hands on as it ends the run is kept. -/
theorem State.halted_report {s : State} (on : s.cal.run ≠ .off) {keep : Instr → Bool}
    (keeps : ∀ r, keep (.calReport r) = true) :
    .calReport (s.cal.changed .off .config).reported ∈ s.endRunByConfig.resetTracker.handed.filter keep := by
  rw [State.halted_handed]
  exact List.mem_filter.2 ⟨List.mem_append_right _ (State.halts_report on), keeps _⟩

theorem State.takeEnterConfig_cal (s : State) : s.takeEnterConfig.cal = s.endRunByConfig.cal := by
  unfold State.takeEnterConfig
  rfl

theorem State.takeSoftReset_cal (s : State) : s.takeSoftReset.cal = s.endRunByConfig.cal.softReset := by
  unfold State.takeSoftReset
  rfl

theorem bodyOf_calMoves (c : Instr) (s : State) : State.CalMoves c s (bodyOf c s).state := by
  by_cases changed : Block.cal ∈ bodyChanges c
  case neg =>
    have same := bodyOf_cal changed s
    exact .same (congrArg _ same) (congrArg _ same)
  cases c
  case calStart req =>
    simp only [bodyOf, State.doCalStart]
    obtain ⟨-, hb⟩ | ⟨-, hb⟩ := s.inRun_cases _ <;> rw [hb]
    · split
      · exact .same rfl rfl
      · split
        · exact .same rfl rfl
        · split
          · exact .same rfl rfl
          · split
            · exact .same rfl rfl
            · exact .reported rfl (State.startRun_report ..)
    · exact .same rfl rfl
  case calAccept req =>
    simp only [bodyOf, State.doCalAccept]
    split
    · exact .same rfl rfl
    · split
      · exact ⟨fun _ => .inl ⟨req, rfl⟩, fun _ => ⟨_, State.changeRun_report .., rfl⟩⟩
      · exact .same rfl rfl
  case calDiscard =>
    simp only [bodyOf, State.doCalDiscard]
    split
    · exact .same rfl rfl
    · exact State.discardRun_calMoves _ s
  case enterConfig req =>
    simp only [bodyOf, State.doEnterConfig]
    split
    · exact .same rfl rfl
    · refine ⟨fun active => absurd ?_ active, fun run => ?_⟩
      · exact (congrArg Calibration.active s.takeEnterConfig_cal).trans s.endRunByConfig_active
      · have off := (congrArg Calibration.run s.takeEnterConfig_cal).trans s.endRunByConfig_run
        have on : s.cal.run ≠ .off := fun h => run (off.trans h.symm)
        exact ⟨_, State.halted_report on fun _ => rfl, off.symm⟩
  case writeEntry req =>
    obtain ⟨status, h⟩ | ⟨t, mode, -, -, written, h⟩ := s.doWriteEntry_cases req <;> simp only [bodyOf, h]
    · exact .same rfl rfl
    · exact ⟨fun _ => .inr (.inr (.inr ⟨req, rfl, mode⟩)), fun run => absurd (State.writeTable_run written) run⟩
  case softReset req =>
    refine ⟨fun _ => .inr (.inr (.inl ⟨req, rfl⟩)), fun run => ?_⟩
    have off : (bodyOf (.softReset req) s).state.cal.run = .off := congrArg Calibration.run s.takeSoftReset_cal
    have on : s.cal.run ≠ .off := fun h => run (off.trans h.symm)
    exact ⟨_, State.halted_report on fun _ => rfl, off.symm⟩
  all_goals exact absurd changed (of_decide_eq_false rfl)

theorem run_calMoves {c : Instr} (on : ∀ straps, c ≠ .powerReset straps) (s : State) :
    State.CalMoves c s (s.run c) := by
  by_cases changed : Block.cal ∈ changes c
  case neg =>
    have same := run_cal changed s
    exact .same (congrArg _ same) (congrArg _ same)
  cases c
  case powerReset straps => exact absurd rfl (on straps)
  case calLift r forces =>
    obtain ⟨active, run⟩ := State.takeCalLift_calMoves r forces (s.take (.calLift r forces))
    exact ⟨active, run⟩
  case zero =>
    obtain ⟨active, run⟩ := State.zeroKey_calMoves (s.take .zero)
    exact ⟨active, run⟩
  case calDeadline n =>
    obtain ⟨active, run⟩ := State.takeDeadline_calMoves n (s.take (.calDeadline n))
    exact ⟨active, run⟩
  case calStart | calAccept | calDiscard | enterConfig | writeEntry | softReset =>
    rw [run_request rfl rfl]
    refine State.serve_keeps (P := State.CalMoves _ s) (.same rfl rfl) (.same rfl rfl)
      (fun _ _ => .same rfl rfl) fun _ _ => ?_
    obtain ⟨active, run⟩ := bodyOf_calMoves _ (s.take _)
    exact ⟨active, run⟩
  all_goals exact absurd changed (of_decide_eq_false rfl)

/-! ### The last lift result (R103) -/

/-- The last result stayed, or is one published while the engine is enabled: with a payload, or a grade other than
REJECTED, only on a valid active calibration. -/
def State.Publishes (s : State) (w : Weighing) : Prop :=
  w.last = s.weigh.last ∨ ∃ r, w.last = some r ∧
    (r.payload.isSome = true ∨ r.grade ≠ .rejected → s.cal.active.valid = true ∧ s.weigh.state ≠ .disabled)

theorem State.evaluated_valid {theta : Int} {tag : TimeTag} {s : State}
    (graded : (s.evaluated theta tag).payload.isSome = true ∨ (s.evaluated theta tag).grade ≠ .rejected) :
    s.cal.active.valid = true := by
  have ungraded : (s.evaluated theta tag).grade ≠ .rejected := by
    rcases graded with payload | grade
    · intro rejected
      rw [State.evaluated_payload, if_pos rejected] at payload
      cases payload
    · exact grade
  obtain ⟨-, -, -, -, -, -, -, -, noCal, -, -⟩ := hasReason_evaluationReasons s.weigh.window s.weigh.params
    (s.figuresAt theta tag) (s.sig.slotOf .pitch).isSome (s.sig.slotOf .speed).isSome s.cal.active.valid
  refine Classical.byContradiction fun invalid => ?_
  have reason := noCal.2 (.inr (eq_false_of_ne_true invalid))
  rw [← State.evaluated_reasons] at reason
  refine ungraded ((gradeOf_rejected ..).2 fun none => ?_)
  rw [show (s.evaluated theta tag).reasons = 0 from none] at reason
  cases reason

theorem State.rejectWindow_publishes (r : Reason) {s : State} (before : State) :
    before.Publishes (s.rejectWindow r).weigh := by
  rw [State.rejectWindow_eq]
  refine .inr ⟨_, rfl, fun graded => ?_⟩
  rcases graded with payload | grade
  · cases payload
  · exact absurd rfl grade

theorem State.windowSample_publishes (theta : Int) (tag : TimeTag) {s before : State} (active : s.cal = before.cal)
    (last : s.weigh.last = before.weigh.last) (enabled : before.weigh.state ≠ .disabled) :
    before.Publishes (s.windowSample theta tag).weigh := by
  unfold State.windowSample
  dsimp only
  split
  · exact State.rejectWindow_publishes ..
  · split
    · exact State.rejectWindow_publishes ..
    · split
      · exact .inl last
      · split
        · rw [State.publishLift_eq]
          exact .inr ⟨_, rfl, fun graded => ⟨active ▸ State.evaluated_valid graded, enabled⟩⟩
        · exact .inl last

theorem State.weighSample_publishes (theta : Int) (tag : TimeTag) (s : State) :
    s.Publishes (s.weighSample theta tag).weigh := by
  unfold State.weighSample
  dsimp only
  split
  next => exact .inl rfl
  next armed =>
    split
    · exact .inl rfl
    · exact State.windowSample_publishes theta tag rfl rfl (armed ▸ nofun)
  next window => exact State.windowSample_publishes theta tag rfl rfl (window ▸ nofun)
  next => split <;> exact .inl rfl

theorem State.weighStale_publishes (r : Role) (s : State) : s.Publishes (s.weighStale r).weigh := by
  unfold State.weighStale
  dsimp only
  split
  · exact State.rejectWindow_publishes ..
  · exact .inl rfl

theorem State.expireSlot_last (i : Fin 32) (s : State) : (s.expireSlot i).weigh.last = s.weigh.last := by
  unfold State.expireSlot
  split
  · dsimp only
    split
    · rw [State.foldl_raiseStale_frame]
      rfl
    · rfl
  · rfl

theorem State.writeTable_last {s t : State} {table index : Nat} {d : List Byte}
    (h : s.writeTable table index d = some t) :
    t.weigh.last = s.weigh.last := by
  unfold State.writeTable at h
  split at h
  case h_7 => split at h <;> obtain ⟨v, -, rfl⟩ := Option.map_eq_some_iff.1 h <;> rfl
  case h_17 => cases h
  all_goals obtain ⟨v, -, rfl⟩ := Option.map_eq_some_iff.1 h; rfl

theorem State.takeEnterConfig_weigh (s : State) : s.takeEnterConfig.weigh = s.weigh.enterConfig := by
  unfold State.takeEnterConfig
  rw [State.endRunByConfig_frame]
  rfl

theorem State.takeSoftReset_weigh (s : State) : s.takeSoftReset.weigh = s.weigh.softReset := by
  unfold State.takeSoftReset
  rw [State.endRunByConfig_frame]
  rfl

/-- No body publishes a lift result. -/
theorem bodyOf_last (c : Instr) (s : State) : (bodyOf c s).state.weigh.last = s.weigh.last := by
  by_cases changed : Block.weigh ∈ bodyChanges c
  case neg => rw [bodyOf_weigh changed]
  cases c
  case clearCounters => rfl
  case enterConfig =>
    simp only [bodyOf, State.doEnterConfig]
    split
    · rfl
    · exact (congrArg Weighing.last s.takeEnterConfig_weigh).trans rfl
  case writeEntry req =>
    obtain ⟨status, h⟩ | ⟨t, -, -, -, written, h⟩ := s.doWriteEntry_cases req <;> simp only [bodyOf, h]
    · rfl
    · exact State.writeTable_last written
  case commit =>
    obtain h | ⟨-, -, h⟩ := s.doCommit_cases <;> simp only [bodyOf, h]
    simp only [answerOk]
    rw [State.takeCommit_committing]
    rfl
  case softReset => exact (congrArg Weighing.last s.takeSoftReset_weigh).trans rfl
  all_goals exact absurd changed (of_decide_eq_false rfl)

theorem run_publishes {c : Instr} (on : ∀ straps, c ≠ .powerReset straps) (s : State) :
    s.Publishes (s.run c).weigh := by
  by_cases changed : Block.weigh ∈ changes c
  case neg => exact .inl (congrArg _ (run_weigh changed s))
  cases c
  case powerReset straps => exact absurd rfl (on straps)
  case stalenessExpiry i => exact .inl (State.expireSlot_last i (s.take _))
  case weighSample theta tag => exact State.weighSample_publishes theta tag (s.take _)
  case weighStaleNotice r => exact State.weighStale_publishes r (s.take _)
  case speedSample v tag =>
    rw [run_speedSample, State.onWeigh_weigh, Weighing.takeSpeed]
    split <;> exact .inl rfl
  case clearCounters | enterConfig | writeEntry | commit | softReset =>
    rw [run_request rfl rfl]
    exact State.serve_keeps (P := fun t => s.Publishes t.weigh) (.inl rfl) (.inl rfl) (fun _ _ => .inl rfl)
      fun _ _ => .inl (bodyOf_last _ (s.take _))
  all_goals exact absurd changed (of_decide_eq_false rfl)

/-- Settles O41. -/
theorem calibrationChanges : Obligations.CalibrationChanges := by
  intro c s t on step
  obtain rfl := eq_run_of_exec step
  obtain ⟨active, run⟩ := run_calMoves on s
  refine ⟨active, run, fun r last changed graded => ?_⟩
  obtain same | ⟨r', published, valid⟩ := run_publishes on s
  · exact absurd (same.symm.trans last) changed
  · obtain rfl := Option.some.inj (published.symm.trans last)
    exact valid graded

end Sys2Proof.Machine
end

section
/-!
The cycle tracker: the candidate phase (R128, R130), how it is acted on (R129, R131 to R134), what a transition does
(R133, R135 to R138, R140), and the lifts, reversals and boundaries it takes (R139 to R142). Settles O42 to O45.
-/

namespace Sys2Proof.Machine

open Sys2Proof

/-! ### The candidate phase -/

theorem CycleRecord.zone_low {p : CycleRecord} {theta : Int} (low : theta < p.thetaDig) :
    p.zone theta = .low := if_pos low

theorem CycleRecord.zone_mid {p : CycleRecord} {theta : Int} (mid : ¬ theta < p.thetaDig ∧ theta < p.thetaCarry) :
    p.zone theta = .mid := (if_neg mid.1).trans (if_pos mid.2)

theorem CycleRecord.zone_high {p : CycleRecord} {theta : Int} (high : ¬ theta < p.thetaDig ∧ p.thetaCarry ≤ theta) :
    p.zone theta = .high := (if_neg high.1).trans (if_neg (Int.not_lt.2 high.2))

theorem CycleRecord.zone_not_low {p : CycleRecord} {theta : Int} (up : ¬ theta < p.thetaDig) : p.zone theta ≠ .low := by
  unfold CycleRecord.zone
  rw [if_neg up]
  split <;> nofun

theorem Signals.parkApplied_iff (g : Signals) : g.parkApplied = true ↔ g.freshOf .park = true ∧
    g.valueOf .park = 1 := by
  simp [Signals.parkApplied]

theorem Signals.digging_iff (g : Signals) (p : CycleRecord) :
    g.digging p = true ↔ g.freshOf .headP = true ∧ (p.pDig : Int) ≤ g.valueOf .headP := by
  simp [Signals.digging]

/-- Step 4 of R130, from the slots of a state. -/
def State.tableEntry (s : State) (phase : Phase) : Phase :=
  cycleTable phase (s.trk.params.zone (s.sig.valueOf .boom)) (decide (s.sig.valueOf .tilt < s.trk.params.tauDump))
    (s.sig.digging s.trk.params)

/-- The candidate by the steps of R130. -/
theorem State.candidate_steps (s : State) :
    let parked := s.sig.freshOf .park = true ∧ s.sig.valueOf .park = 1
    let seen := s.sig.freshOf .boom = true ∧ s.sig.freshOf .tilt = true
    (parked → s.candidate = .parked) ∧
    (¬ parked → s.trk.phase = .parked → s.candidate = .unknown) ∧
    (¬ parked → s.trk.phase ≠ .parked → ¬ seen → s.candidate = .unknown) ∧
    (¬ parked → s.trk.phase ≠ .parked → seen → s.candidate = s.tableEntry s.trk.phase) := by
  dsimp only
  rw [← Signals.parkApplied_iff, ← Bool.and_eq_true]
  refine ⟨fun parked => if_pos parked, fun free phase => (if_neg free).trans (if_pos phase),
    fun free phase blind => (if_neg free).trans ((if_neg phase).trans (if_pos ?_)),
    fun free phase seen => (if_neg free).trans ((if_neg phase).trans (if_neg ?_))⟩
  · rw [Bool.not_eq_true', ← Bool.not_eq_true]
    exact blind
  · rw [Bool.not_eq_true', seen]
    nofun

/-- Settles O42: the steps of R130 and, for the last, its table. -/
theorem candidatePhase : Obligations.CandidatePhase := by
  intro s
  dsimp only
  obtain ⟨parked, left, blind, table⟩ := s.candidate_steps
  refine ⟨parked, left, blind, fun free seen => ?_⟩
  rw [← Signals.digging_iff]
  have entry : ∀ {phase}, s.trk.phase = phase → phase ≠ .parked → s.candidate = s.tableEntry phase := by
    rintro phase rfl other
    exact table free other seen
  refine ⟨fun phase => ?_, fun phase => ?_, fun phase => ?_, fun phase => ?_, fun phase => ?_, fun phase => ?_⟩ <;>
    rw [entry phase nofun, State.tableEntry]
  · refine ⟨fun high dumping => ?_, fun high level => ?_, fun mid => ?_, fun low digging => ?_, fun low idle => ?_⟩
    · rw [CycleRecord.zone_high high, decide_eq_true dumping]
      rfl
    · rw [CycleRecord.zone_high high, decide_eq_false level]
      rfl
    · rw [CycleRecord.zone_mid mid]
      rfl
    · rw [CycleRecord.zone_low low, digging]
      rfl
    · rw [CycleRecord.zone_low low, eq_false_of_ne_true idle]
      rfl
  · refine ⟨fun up => ?_, fun low => ?_⟩
    · exact if_neg (CycleRecord.zone_not_low (up.elim And.left And.left))
    · exact if_pos (CycleRecord.zone_low low)
  · refine ⟨fun high level => ?_, fun high dumping => ?_, fun low => ?_, fun mid => ?_⟩
    · rw [CycleRecord.zone_high high, decide_eq_false level]
      rfl
    · rw [CycleRecord.zone_high high, decide_eq_true dumping]
      rfl
    · rw [CycleRecord.zone_low low]
      rfl
    · rw [CycleRecord.zone_mid mid]
      rfl
  · refine ⟨fun high dumping => ?_, fun low => ?_, ?_⟩
    · rw [CycleRecord.zone_high high, decide_eq_true dumping]
      rfl
    · rw [CycleRecord.zone_low low]
      rfl
    · rintro (mid | ⟨high, level⟩)
      · rw [CycleRecord.zone_mid mid]
        rfl
      · rw [CycleRecord.zone_high high, decide_eq_false level]
        rfl
  · refine ⟨?_, fun dumping up => ?_⟩
    · rintro (level | low)
      · rw [decide_eq_false level]
        rfl
      · rw [CycleRecord.zone_low low]
        exact if_pos (Bool.or_true _)
    · refine if_neg ?_
      rw [decide_eq_true dumping]
      simpa using CycleRecord.zone_not_low up
  · refine ⟨fun low digging => if_pos ⟨CycleRecord.zone_low low, digging⟩, fun stays => if_neg ?_⟩
    rintro ⟨zone, digging⟩
    exact stays.elim (fun up => CycleRecord.zone_not_low up zone) fun idle => idle digging

/-! ### The age test (R134) -/

theorem State.Aged.eq {s u : State} (h : s.Aged u) : u = s.ageTest := by
  unfold State.ageTest
  cases held : s.trk.cycleStart with
  | none => exact h.young fun start hs => by rw [held] at hs; cases hs
  | some start =>
    dsimp only
    split
    next old => exact h.old start held old
    next young =>
      refine h.young fun start' hs => ?_
      rw [held] at hs
      obtain rfl := Option.some.inj hs
      exact Nat.not_le.1 young

theorem State.Aged.config {s u : State} (h : s.Aged u) : u.mgt.config = s.mgt.config := by
  rw [h.eq, State.ageTest_frame]

/-! ### Acting on the candidate (R131, R133) -/

/-- The candidates that follow one another from one set of slot values come to rest after three. -/
theorem candidateOf_rests (g : Signals) (p : CycleRecord) (phase : Phase) :
    candidateOf g p (candidateOf g p (candidateOf g p (candidateOf g p phase))) =
      candidateOf g p (candidateOf g p (candidateOf g p phase)) := by
  unfold candidateOf
  cases g.parkApplied
  · cases g.freshOf .boom && g.freshOf .tilt
    · by_cases parked : phase = .parked <;> simp [parked]
    · generalize p.zone (g.valueOf .boom) = zone
      generalize decide (g.valueOf .tilt < p.tauDump) = dumping
      generalize g.digging p = digging
      cases phase <;> cases zone <;> cases dumping <;> cases digging <;> rfl
  · rfl

theorem State.transitionActions_phase (left q : Phase) (s : State) :
    (s.transitionActions left q).trk.phase = s.trk.phase ∧ (s.transitionActions left q).trk.starts = s.trk.starts := by
  have completed : s.completeCycle.trk.phase = s.trk.phase ∧ s.completeCycle.trk.starts = s.trk.starts := by
    unfold State.completeCycle
    split
    · split <;> exact ⟨rfl, rfl⟩
    · exact ⟨rfl, rfl⟩
  have returned : s.returnToPile.trk.phase = s.trk.phase ∧ s.returnToPile.trk.starts = s.trk.starts := by
    unfold State.returnToPile
    split <;> exact ⟨rfl, rfl⟩
  have dumped : (s.dumpBucket left).trk.phase = s.trk.phase ∧ (s.dumpBucket left).trk.starts = s.trk.starts := by
    unfold State.dumpBucket
    dsimp only
    split <;> exact ⟨rfl, rfl⟩
  cases q
  case dig =>
    cases left
    case ret => exact completed
    case lift | carry => exact returned
    all_goals exact ⟨rfl, rfl⟩
  case dump => exact dumped
  all_goals exact ⟨rfl, rfl⟩

theorem State.transition_phase (q : Phase) (s : State) :
    (s.transition q).trk.phase = q ∧ (s.transition q).trk.starts = s.trk.starts :=
  State.transitionActions_phase ..

theorem State.transition_candidate (q : Phase) (s : State) :
    (s.transition q).candidate = candidateOf s.sig s.trk.params q := by
  rw [State.candidate, (s.transition_phase q).1, (s.transition_stops q).1, State.transition_frame]

theorem State.atOnce_iff (q : Phase) (s : State) : s.atOnce q = true ↔ q = .unknown ∨ s.trk.params.dwell q = 0 := by
  simp [State.atOnce]

/-- One evaluation of the candidate, by what it finds (R131). -/
theorem State.settle_succ (n : Nat) (s : State) :
    (s.candidate = s.trk.phase → State.settle (n + 1) s = s.stopDwell) ∧
    (s.candidate ≠ s.trk.phase → s.candidate = .unknown ∨ s.trk.params.dwell s.candidate = 0 →
      State.settle (n + 1) s = State.settle n (s.transition s.candidate)) ∧
    (s.candidate ≠ s.trk.phase → s.candidate ≠ .unknown → s.trk.params.dwell s.candidate ≠ 0 →
      (s.trk.candidate = some s.candidate → State.settle (n + 1) s = s) ∧
      (s.trk.candidate ≠ some s.candidate → State.settle (n + 1) s = s.startDwell s.candidate)) := by
  have slow : s.candidate ≠ .unknown → s.trk.params.dwell s.candidate ≠ 0 → ¬ s.atOnce s.candidate = true := by
    rw [State.atOnce_iff]
    exact fun known dwells => not_or.2 ⟨known, dwells⟩
  refine ⟨fun same => if_pos same, fun differs once => (if_neg differs).trans (if_pos ((s.atOnce_iff _).2 once)),
    fun differs known dwells => ⟨fun remembered => ?_, fun other => ?_⟩⟩
  · exact (if_neg differs).trans ((if_neg (slow known dwells)).trans (if_pos remembered))
  · exact (if_neg differs).trans ((if_neg (slow known dwells)).trans (if_neg other))

/-- The phase after as many candidates, each entered, from one set of slot values. -/
def phaseAfter (g : Signals) (p : CycleRecord) : Nat → Phase → Phase
  | 0, phase => phase
  | n + 1, phase => phaseAfter g p n (candidateOf g p phase)

/-- The evaluation ends with the candidate acted on, where the candidates come to rest within its fuel. -/
theorem State.settle_settled (n : Nat) {s : State} (dwell : s.trk.startOpen = s.trk.candidate.isSome)
    (rests : candidateOf s.sig s.trk.params (phaseAfter s.sig s.trk.params n s.trk.phase) =
      phaseAfter s.sig s.trk.params n s.trk.phase) : (State.settle (n + 1) s).settled := by
  induction n generalizing s with
  | zero =>
    obtain ⟨stops, -⟩ := s.settle_succ 0
    rw [stops rests]
    exact .inl ⟨rests, rfl, rfl⟩
  | succ n ih =>
    obtain ⟨stops, moves, dwells⟩ := s.settle_succ (n + 1)
    by_cases same : s.candidate = s.trk.phase
    · rw [stops same]
      exact .inl ⟨same, rfl, rfl⟩
    by_cases once : s.candidate = .unknown ∨ s.trk.params.dwell s.candidate = 0
    · rw [moves same once]
      obtain ⟨params, startOpen, candidate⟩ := s.transition_stops s.candidate
      refine ih (by rw [startOpen, candidate]; rfl) ?_
      rw [params, (s.transition_phase _).1, State.transition_frame]
      exact rests
    · obtain ⟨known, timed⟩ := not_or.1 once
      obtain ⟨remembers, starts⟩ := dwells same known timed
      by_cases remembered : s.trk.candidate = some s.candidate
      · rw [remembers remembered]
        exact .inr ⟨same, known, timed, remembered, by rw [dwell, remembered]; rfl⟩
      · rw [starts remembered]
        exact .inr ⟨same, known, timed, rfl, rfl⟩

theorem State.settle_fuel_settled {s : State} (dwell : s.trk.startOpen = s.trk.candidate.isSome) :
    (State.settle 4 s).settled :=
  State.settle_settled 3 dwell (candidateOf_rests _ _ _)

theorem evaluates_iff (n : Notice) : evaluates n = true ↔
    match n with
    | .written r _ _ => r = .boom ∨ r = .tilt ∨ r = .headP ∨ r = .park
    | .stale r => r = .boom ∨ r = .tilt ∨ r = .headP ∨ r = .park := by
  cases n <;> simp [evaluates, or_assoc]

theorem exec_candidateEvaluation {n : Notice} {s u : State} (run : s.mgt.config = .run)
    (aged : State.Aged (s.take (.candidateEvaluation n)) u) :
    exec (.candidateEvaluation n) s = .next (if evaluates n = true then State.settle 4 u else u) := by
  rw [aged.eq]
  exact congrArg Host.Outcome.next (if_pos run)

/-- Settles O43. -/
theorem candidateActedOn : Obligations.CandidateActedOn := by
  intro n k s u
  dsimp only
  refine ⟨fun other => congrArg Host.Outcome.next (if_neg (by exact other)), fun run aged => ?_, fun ignored => ?_,
    fun q opened last remembered aged => ?_⟩
  · have told := evaluates_iff n
    have evaluated := exec_candidateEvaluation run aged
    obtain ⟨stops, moves, dwells⟩ := u.settle_succ 3
    refine ⟨fun silent => ?_, fun tells same => ?_, fun tells differs known timed => ?_, fun tells differs once => ?_,
      fun tells dwell => ⟨_, ?_, State.settle_fuel_settled dwell⟩⟩
    · rw [evaluated, if_neg (mt told.1 silent)]
    all_goals rw [if_pos (told.2 tells)] at evaluated
    · rw [evaluated, stops same]
      rfl
    · obtain ⟨remembers, starts⟩ := dwells differs known timed
      exact ⟨fun h => evaluated.trans (congrArg _ (remembers h)), fun h => evaluated.trans (congrArg _ (starts h))⟩
    · exact evaluated.trans (congrArg _ (moves differs once))
    · exact evaluated
  · refine congrArg Host.Outcome.next (if_neg ?_)
    rintro ⟨opened, last⟩
    exact ignored.elim (fun closed => Bool.false_ne_true (closed.symm.trans opened)) fun ne => ne last
  · replace aged : State.Aged (s.take (.dwellEnd k)) u := aged
    have dwells := State.ageTest_dwells (s.take (.dwellEnd k))
    rw [← aged.eq] at dwells
    have candidate : u.trk.candidate = some q := dwells.candidate.trans remembered
    refine ⟨?_, State.settle_fuel_settled ?_⟩
    · refine congrArg Host.Outcome.next ((if_pos ⟨opened, last⟩).trans ?_)
      rw [← aged.eq]
      dsimp only [State.onTrk]
      rw [candidate]
      rfl
    · obtain ⟨-, startOpen, stopped⟩ := State.transition_stops q { u with trk := { u.trk with startOpen := false } }
      rw [startOpen, stopped]
      rfl

/-! ### What a transition does (R135 to R138) -/

/-- A state whose tracker has left its phase for another, with TD stopped. -/
def State.leaves (q : Phase) (s : State) : State :=
  { s with
    trk := { s.trk with startOpen := false, candidate := none, phase := q }
    handed := s.handed ++ s.trk.stops }

theorem State.transition_eq (q : Phase) (s : State) : s.transition q = (s.leaves q).transitionActions s.trk.phase q :=
    rfl

/-- The notice that a pending lift cleared brings. -/
def Tracker.pendingNotice (k : Tracker) : List Instr := if k.pending = none then [] else [.pendingLiftNotice]

theorem State.dropPending_eq (s : State) :
    s.dropPending = { s with trk := { s.trk with pending := none }, handed := s.handed ++ s.trk.pendingNotice } := by
  have notice : (if s.trk.pending.isSome = true then [Instr.pendingLiftNotice] else []) = s.trk.pendingNotice := by
    unfold Tracker.pendingNotice
    cases s.trk.pending <;> rfl
  rw [← notice]
  rfl

theorem State.collecting_iff (s : State) : s.collecting = true ↔ s.cal.run = .collecting := beq_iff_eq

/-- The figures after a cycle of a length (R136). -/
theorem completeFigures_eq (f : TrackerFigures) (ms : Nat) :
    (completeFigures f ms).cycles = satInc 65535 f.cycles ∧
    (f.timeSum + ms ≤ 4294967295 → (completeFigures f ms).timeSum = f.timeSum + ms ∧
      (completeFigures f ms).timeCount = satInc 65535 f.timeCount) ∧
    (4294967295 < f.timeSum + ms → (completeFigures f ms).timeSum = f.timeSum ∧
      (completeFigures f ms).timeCount = f.timeCount) ∧
    (completeFigures f ms).returned = f.returned ∧ (completeFigures f ms).strays = f.strays ∧
    (completeFigures f ms).reversals = f.reversals := by
  unfold completeFigures
  dsimp only
  split
  next room => exact ⟨rfl, fun _ => ⟨rfl, rfl⟩, fun none => absurd room (Nat.not_le.2 none), rfl, rfl, rfl⟩
  next full => exact ⟨rfl, fun room => absurd room full, fun _ => ⟨rfl, rfl⟩, rfl, rfl, rfl⟩

theorem State.completeCycle_completes {s : State} {start : TimeTag} (held : s.trk.cycleStart = some start)
    (dumped : s.trk.dumped = true) (calm : s.cal.run ≠ .collecting) :
    s.completeCycle =
      { s with trk := { s.trk with
          figures := completeFigures s.trk.figures ((s.time.tag - start).toNat / 1000) } } := by
  rw [State.completeCycle, held]
  refine if_pos ?_
  rw [dumped, eq_false_of_ne_true (mt s.collecting_iff.1 calm)]
  rfl

theorem State.completeCycle_idle {s : State} (h : s.trk.cycleStart = none ∨ s.trk.dumped = false ∨
    ¬ s.cal.run ≠ .collecting) :
    s.completeCycle = s := by
  unfold State.completeCycle
  cases held : s.trk.cycleStart with
  | none => rfl
  | some start =>
    refine if_neg ?_
    rw [Bool.and_eq_true, Bool.not_eq_true']
    rintro ⟨dumped, calm⟩
    rcases h with none | clear | collecting
    · rw [held] at none
      cases none
    · exact Bool.false_ne_true (clear.symm.trans dumped)
    · exact Bool.false_ne_true (calm.symm.trans ((State.collecting_iff s).2 (Classical.not_not.1 collecting)))

theorem State.completeCycle_pending (s : State) :
    s.completeCycle = { s with trk := { s.trk with figures := s.completeCycle.trk.figures } } := by
  unfold State.completeCycle
  split
  · split <;> rfl
  · rfl

theorem State.returnToPile_eq (s : State) :
    (s.cal.run ≠ .collecting → s.returnToPile =
      { s with trk := { s.trk with figures := { s.trk.figures with returned := satInc 65535 s.trk.figures.returned } }
        }) ∧
    (¬ s.cal.run ≠ .collecting → s.returnToPile = s) :=
  ⟨fun calm => if_neg (mt s.collecting_iff.1 calm), fun on => if_pos (s.collecting_iff.2 (Classical.not_not.1 on))⟩

/-- What a lift given up in LIFT or CARRY does (R135). -/
theorem State.giveUp_eq (s : State) :
    let t := s.returnToPile.dropPending.startCycle
    (s.cal.run ≠ .collecting → t = { s with
      trk := { s.trk with
        pending := none, cycleStart := some s.time.tag, dumped := false
        figures := { s.trk.figures with returned := satInc 65535 s.trk.figures.returned } }
      handed := s.handed ++ s.trk.pendingNotice }) ∧
    (¬ s.cal.run ≠ .collecting → t = { s with
      trk := { s.trk with pending := none, cycleStart := some s.time.tag, dumped := false }
      handed := s.handed ++ s.trk.pendingNotice }) := by
  obtain ⟨counts, stays⟩ := s.returnToPile_eq
  refine ⟨fun calm => ?_, fun on => ?_⟩
  · rw [counts calm, State.dropPending_eq]
    rfl
  · rw [stays on, State.dropPending_eq]
    rfl

/-- The credit of a dump, handed on (R137). -/
def creditCommands (pending : Option LiftResult) (left : Phase) (tag : TimeTag) : List Instr :=
  (creditOf pending left tag).toList.map Instr.bucketCredit

theorem State.dumpBucket_eq (left : Phase) (s : State) :
    (s.cal.run ≠ .collecting → s.dumpBucket left = { s with
      trk := { s.trk with pending := none, dumped := true }
      handed := s.handed ++ creditCommands s.trk.pending left s.time.tag ++ s.trk.pendingNotice }) ∧
    (¬ s.cal.run ≠ .collecting → s.dumpBucket left = { s with
      trk := { s.trk with pending := none }
      handed := s.handed ++ s.trk.pendingNotice }) := by
  refine ⟨fun calm => ?_, fun on => ?_⟩
  · rw [State.dumpBucket, eq_false_of_ne_true (mt s.collecting_iff.1 calm), if_neg Bool.false_ne_true,
      if_neg Bool.false_ne_true, State.dropPending_eq]
    rfl
  · rw [State.dumpBucket, s.collecting_iff.2 (Classical.not_not.1 on), if_pos rfl, if_pos rfl, State.dropPending_eq]

/-- Settles O44: by the phase entered, and for DIG by the phase left. -/
theorem transitionActions : Obligations.TransitionActions := by
  intro q s
  dsimp only
  obtain ⟨params, startOpen, candidate⟩ := s.transition_stops q
  obtain ⟨phase, starts⟩ := s.transition_phase q
  refine ⟨phase, candidate, startOpen, params, starts, State.transition_frame q s, ?_, ?_, ?_, ?_, ?_, ?_⟩
  · rintro rfl left
    have acts : s.transition .dig = (s.leaves .dig).completeCycle.startCycle := by rw [State.transition_eq, left]; rfl
    rw [acts]
    refine ⟨?_, ?_, ?_, fun start held dumped calm => ?_, fun idle => ?_⟩
    · rw [State.completeCycle_pending]
      exact ⟨rfl, rfl⟩
    · rw [State.completeCycle_pending]
      rfl
    · rw [State.completeCycle_pending]
      rfl
    · rw [State.completeCycle_completes (s := s.leaves .dig) held dumped calm]
      exact completeFigures_eq _ _
    · rw [State.completeCycle_idle (s := s.leaves .dig) idle]
      rfl
  · rintro rfl left
    have acts : s.transition .dig = (s.leaves .dig).returnToPile.dropPending.startCycle := by
      rw [State.transition_eq]
      rcases left with left | left <;> rw [left] <;> rfl
    obtain ⟨counts, stays⟩ := (s.leaves .dig).giveUp_eq
    rw [acts]
    by_cases calm : s.cal.run ≠ .collecting
    · rw [counts calm]
      exact ⟨⟨rfl, rfl⟩, rfl, rfl, fun _ => rfl, fun on => absurd calm on⟩
    · rw [stays calm]
      exact ⟨⟨rfl, rfl⟩, rfl, rfl, fun h => absurd h calm, fun _ => rfl⟩
  · rintro rfl left
    have acts : s.transition .dig = (s.leaves .dig).startCycle := by rw [State.transition_eq, left]; rfl
    rw [acts]
    exact ⟨⟨rfl, rfl⟩, rfl, rfl, rfl⟩
  · rintro rfl
    have acts : s.transition .dump = (s.leaves .dump).dumpBucket s.trk.phase := rfl
    obtain ⟨credits, drops⟩ := (s.leaves .dump).dumpBucket_eq s.trk.phase
    rw [acts]
    by_cases calm : s.cal.run ≠ .collecting
    · rw [credits calm]
      refine ⟨rfl, rfl, rfl, fun _ => ⟨rfl, ?_⟩, fun on => absurd calm on⟩
      refine congrArg (fun credit => s.handed ++ s.trk.stops ++ credit ++ s.trk.pendingNotice) ?_
      change creditCommands s.trk.pending s.trk.phase s.time.tag = _
      unfold creditCommands creditOf
      cases s.trk.pending with
      | none =>
        dsimp only
        split <;> rfl
      | some r =>
        dsimp only
        cases r.grade <;> rfl
    · rw [drops calm]
      exact ⟨rfl, rfl, rfl, fun h => absurd h calm, fun _ => ⟨rfl, rfl⟩⟩
  · rintro rfl
    exact ⟨rfl, rfl, rfl, rfl, rfl⟩
  · rintro (rfl | rfl | rfl | rfl) <;> exact ⟨rfl, rfl, rfl, rfl, rfl⟩

/-! ### Lifts, reversals and boundaries (R139 to R142) -/

/-- Settles O45. -/
theorem trackerEventsTaken : Obligations.TrackerEventsTaken := by
  intro r closing new s u
  refine ⟨fun aged => ⟨fun run holds => ?_, fun run stray => ?_, fun other => ?_⟩,
    fun aged => ⟨fun run => ?_, fun other => ?_⟩,
    fun aged => ?_⟩
  · refine congrArg Host.Outcome.next ((if_pos run).trans ?_)
    change (if holdsPending (State.ageTest (s.take (.pendingLift r))).trk.phase = true then _ else _) = _
    rw [← State.Aged.eq (s := s.take (.pendingLift r)) aged]
    exact if_pos (by rcases holds with h | h | h | h <;> rw [h] <;> rfl)
  · refine congrArg Host.Outcome.next ((if_pos run).trans ?_)
    change (if holdsPending (State.ageTest (s.take (.pendingLift r))).trk.phase = true then _ else _) = _
    rw [← State.Aged.eq (s := s.take (.pendingLift r)) aged]
    exact if_neg (by rcases stray with h | h | h <;> rw [h] <;> nofun)
  · exact congrArg Host.Outcome.next (if_neg other)
  · refine congrArg Host.Outcome.next ((if_pos run).trans ?_)
    rw [← State.Aged.eq (s := s.take .reversalNotice) aged]
    rfl
  · exact congrArg Host.Outcome.next (if_neg other)
  · rw [State.Aged.eq aged]
    rfl

end Sys2Proof.Machine
end

section
/-!
# Load accounting

Target slots are opened, selected and closed, buckets removed and totals latched, by keys, dispatch messages and
commands (O47 to O51).
-/

namespace Sys2Proof.Machine

open Sys2Proof

/-- A command whose body leaves the link is answered on the state its body leaves. -/
theorem exec_admitted_effect {c : Instr} {req : Request} {g : Group} {s t : State} {status : Status} {data : List Byte}
    (hr : requestOf c = some req) (hg : commandGroup c = some g) (h : s.admits g req)
    (long : commandNeed c ≤ req.data.length) (body : bodyOf c (s.take c) = ⟨t, status, data⟩) (link : t.link = s.link) :
    exec c s = .next { t with link := s.link.answered req status data } := by
  rw [exec_admitted_body hr hg h long body, ← link]
  rfl

/-! ### Keys and dispatch messages -/

theorem State.selectKey_held {s : State} {i : Fin 4} (held : (s.acc.slot i).state ≠ .free) :
    s.selectKey i = s.selectTarget i :=
  if_pos ((TargetSlot.held_iff _).2 held)

theorem TargetSlot.held_eq_false_iff (t : TargetSlot) : t.held = false ↔ t.state = .free := by simp [TargetSlot.held]

theorem State.selectKey_free {s : State} {i : Fin 4} (free : (s.acc.slot i).state = .free) : s.selectKey i = s :=
  if_neg (by rw [(TargetSlot.held_eq_false_iff _).2 free]; nofun)

theorem State.nextTarget_found {s : State} {i : Fin 4}
    (found : ((nextOrder s.acc.pointer).find? fun j => (s.acc.slot j).held) = some i) :
    s.nextTarget = s.selectTarget i := by
  unfold State.nextTarget
  rw [found]

/-- The search from a pointer stops at the first held slot behind it. -/
theorem find_nextOrder {held : Fin 4 → Bool} {p : Fin 4} {d : Nat} (low : 1 ≤ d) (high : d ≤ 3)
    (found : held (p + Fin.ofNat 4 d) = true) (between : ∀ k, 1 ≤ k → k < d → held (p + Fin.ofNat 4 k) = false) :
    (nextOrder (some p)).find? held = some (p + Fin.ofNat 4 d) := by
  have first : 1 < d → held (p + 1) = false := between 1 (Nat.le_refl 1)
  have second : 2 < d → held (p + 2) = false := between 2 (by decide)
  obtain rfl | rfl | rfl : d = 1 ∨ d = 2 ∨ d = 3 := by omega
  · exact List.find?_cons_of_pos found
  · exact (List.find?_cons_of_neg (by simp [first])).trans (List.find?_cons_of_pos found)
  · exact (List.find?_cons_of_neg (by simp [first])).trans
      ((List.find?_cons_of_neg (by simp [second])).trans (List.find?_cons_of_pos found))

theorem not_mem_nextOrder (p : Fin 4) : p ∉ nextOrder (some p) := by
  revert p
  decide

/-- With no held slot but the current one, NEXT_TARGET changes nothing. -/
theorem State.nextTarget_alone {s : State} (alone : ∀ j, s.acc.pointer ≠ some j → (s.acc.slot j).state = .free) :
    s.nextTarget = s := by
  have nowhere : ((nextOrder s.acc.pointer).find? fun j => (s.acc.slot j).held) = none := by
    refine List.find?_eq_none.2 fun j hj => ?_
    rw [(TargetSlot.held_eq_false_iff _).2 (alone j fun current => not_mem_nextOrder j (current ▸ hj))]
    nofun
  unfold State.nextTarget
  rw [nowhere]

theorem State.newTarget_free {s : State} {i : Fin 4} (h : lowestSlot (fun j => (s.acc.slot j).state = .free) i) :
    s.newTarget = s.openTarget i 0 0 true := by
  unfold State.newTarget
  rw [(Accounts.lowestFree_iff _ _).2 h]

theorem State.newTarget_full {s : State} (h : ∀ j, (s.acc.slot j).state ≠ .free) : s.newTarget = s.refuseOpen := by
  unfold State.newTarget
  rw [(Accounts.lowestFree_none _).2 h]

theorem State.arrive_free {s : State} {id : Nat} (capacity : Nat) {i : Fin 4}
    (strange : ∀ j, ¬ ((s.acc.slot j).state ≠ .free ∧ (s.acc.slot j).id = id))
    (h : lowestSlot (fun j => (s.acc.slot j).state = .free) i) :
    s.arrive id capacity = s.openTarget i id capacity true := by
  unfold State.arrive
  rw [(Accounts.holder_none _ _).2 strange, (Accounts.lowestFree_iff _ _).2 h]

theorem State.arrive_full {s : State} {id : Nat} (capacity : Nat)
    (strange : ∀ j, ¬ ((s.acc.slot j).state ≠ .free ∧ (s.acc.slot j).id = id)) (h : ∀ j, (s.acc.slot j).state ≠ .free) :
    s.arrive id capacity = s.refuseOpen := by
  unfold State.arrive
  rw [(Accounts.holder_none _ _).2 strange, (Accounts.lowestFree_none _).2 h]

theorem State.arrive_held {s : State} {id : Nat} (capacity : Nat) {i : Fin 4}
    (h : lowestSlot (fun j => (s.acc.slot j).state ≠ .free ∧ (s.acc.slot j).id = id) i) :
    s.arrive id capacity = s.arriveHeld i capacity := by
  unfold State.arrive
  rw [(Accounts.holder_iff _ _ _).2 h]

theorem capacityChanges_iff (t : TargetSlot) (capacity : Nat) :
    capacityChanges t capacity = true ↔ capacity ≠ 0 ∧ capacity ≠ t.capacity := by
  simp [capacityChanges]

/-- The slot an arrival for a held id leaves (R154). -/
def TargetSlot.arrived (t : TargetSlot) (p : AccountRecord) (capacity : Nat) : TargetSlot :=
  if capacityChanges t capacity then { t with capacity := capacity }.evaluate p else t

theorem State.arriveHeld_slot (i : Fin 4) (capacity : Nat) (s : State) (j : Fin 4) :
    (s.arriveHeld i capacity).acc.slot j =
      if j = i then (s.acc.slot i).arrived s.acc.params capacity else s.acc.slot j := by
  unfold TargetSlot.arrived
  cases changes : capacityChanges (s.acc.slot i) capacity
  · have h : (s.arriveHeld i capacity).acc.slot j = s.acc.slot j := by
      simp only [State.arriveHeld, changes]
      rfl
    rw [h]
    by_cases hj : j = i <;> simp [hj]
  · have h : (s.arriveHeld i capacity).acc.slot j =
        ((s.acc.select i).setSlot i fun t => { t with capacity := capacity }.evaluate s.acc.params).slot j := by
      simp only [State.arriveHeld, changes]
      rfl
    rw [h, Accounts.slot_setSlot]
    rfl

/-- What an arrival for a held id leaves, but for the slots: the pointer, the reports and the rest. -/
theorem State.arriveHeld_eq (i : Fin 4) (capacity : Nat) (s : State) :
    (s.arriveHeld i capacity).handed = s.handed ++
      (if s.acc.pointer = some i then [] else [(s.arriveHeld i capacity).acc.report .selected i]) ++
      (if capacityChanges (s.acc.slot i) capacity = true then [(s.arriveHeld i capacity).acc.report .capacity i] else
        []) ++
      s.acc.stateReport (s.arriveHeld i capacity).acc i ∧
    s.arriveHeld i capacity = { s with
      acc := { s.acc with
        slots := (s.arriveHeld i capacity).acc.slots, pointer := some i
        overloadAhead := (s.arriveHeld i capacity).acc.overloadAhead }
      handed := (s.arriveHeld i capacity).handed } := by
  unfold State.arriveHeld
  dsimp only
  cases capacityChanges (s.acc.slot i) capacity
  all_goals
    refine ⟨?_, rfl⟩
    simp only [List.append_assoc]
    rfl

/-- Settles O47. -/
theorem targetsOpened : Obligations.TargetsOpened := by
  intro s
  dsimp only
  refine ⟨fun i => ⟨fun held => ⟨_, State.selectTarget_selects i _, ?_⟩, fun free => ?_⟩,
    fun p d current low high held between => ⟨_, State.selectTarget_selects _ _, ?_⟩,
    fun i empty held => ⟨_, State.selectTarget_selects i _, ?_⟩, fun alone => ?_,
    fun i free => ⟨_, State.openTarget_opens i 0 0 true _, ?_⟩, fun full => ?_,
    fun id capacity => ⟨fun i strange free => ⟨_, State.openTarget_opens i id capacity true _, ?_⟩,
      fun strange full => ?_, fun i held => ?_⟩⟩
  · exact congrArg Host.Outcome.next (State.selectKey_held (s := s.take (.selectKey i)) held)
  · exact congrArg Host.Outcome.next (State.selectKey_free (s := s.take (.selectKey i)) free)
  · refine congrArg Host.Outcome.next (State.nextTarget_found (s := s.take .nextTarget) ?_)
    change ((nextOrder s.acc.pointer).find? fun j => (s.acc.slot j).held) = _
    rw [current]
    exact find_nextOrder low high ((TargetSlot.held_iff _).2 held)
      fun k hk hd => (TargetSlot.held_eq_false_iff _).2 (between k hk hd)
  · refine congrArg Host.Outcome.next (State.nextTarget_found (s := s.take .nextTarget) ?_)
    change ((nextOrder s.acc.pointer).find? fun j => (s.acc.slot j).held) = _
    rw [empty]
    exact (Accounts.lowestHeld_iff s.acc i).2 held
  · exact congrArg Host.Outcome.next (State.nextTarget_alone (s := s.take .nextTarget) alone)
  · exact congrArg Host.Outcome.next (State.newTarget_free (s := s.take .newTarget) free)
  · exact congrArg Host.Outcome.next (State.newTarget_full (s := s.take .newTarget) full)
  · exact congrArg Host.Outcome.next
      (State.arrive_free (s := s.take (.dispatchArrival id capacity)) capacity strange free)
  · exact congrArg Host.Outcome.next
      (State.arrive_full (s := s.take (.dispatchArrival id capacity)) capacity strange full)
  · let u := s.take (.dispatchArrival id capacity)
    have slots : ∀ j, (u.arriveHeld i capacity).acc.slot j = _ := State.arriveHeld_slot i capacity u
    obtain ⟨reports, rest⟩ := State.arriveHeld_eq i capacity u
    have iff : capacityChanges (u.acc.slot i) capacity = true ↔ _ := capacityChanges_iff (s.acc.slot i) capacity
    refine ⟨u.arriveHeld i capacity, congrArg Host.Outcome.next (State.arrive_held (s := u) capacity held), ?_,
      State.evalAhead_fresh _, fun j hj => (slots j).trans (if_neg hj), fun same => ?_, fun changes => ?_, ?_, rest⟩
    · rw [rest]
    · rw [slots, if_pos rfl, TargetSlot.arrived, if_neg ((not_congr iff).2 same)]
      rfl
    · rw [slots, if_pos rfl, TargetSlot.arrived, if_pos (iff.2 changes)]
      exact ⟨rfl, TargetSlot.evaluate_evaluated _ _⟩
    · rw [reports]
      simp only [iff]
      rfl

/-! ### Commands on a target -/

theorem flagAt_unfit {d : List Byte} {n : Nat} (h : 1 < byteAt d n) : flagAt d n = none := by
  rw [flagAt, if_neg (by omega), if_neg (by omega)]

theorem flagAt_fit {d : List Byte} {n : Nat} (h : byteAt d n ≤ 1) : flagAt d n = some (byteAt d n == 1) := by
  unfold flagAt
  obtain h | h : byteAt d n = 0 ∨ byteAt d n = 1 := by omega
  all_goals
    rw [h]
    rfl

theorem capacityOk_iff (n : Nat) : capacityOk n = true ↔ n = 0 ∨ 1000 ≤ n ∧ n ≤ 250000 := by
  unfold capacityOk
  simp only [Bool.or_eq_true, beq_iff_eq, decide_eq_true_eq]
  omega

theorem Accounts.holder_isSome (a : Accounts) (id : Nat) :
    (a.holder id).isSome = true ↔ ∃ j, (a.slot j).state ≠ .free ∧ (a.slot j).id = id := by
  rw [Option.isSome_iff_ne_none, ne_eq, Accounts.holder_none]
  rw [Classical.not_forall]
  simp only [Classical.not_not]

/-- TARGET_OPEN with a select flag and a capacity that fit, in RUN. -/
theorem State.doTargetOpen_fit {s : State} {req : Request} (run : s.mgt.config = .run)
    (flag : byteAt req.data 6 ≤ 1) (capacity : capacityOk (natAt req.data 2 4) = true) :
    s.doTargetOpen req =
      if natAt req.data 0 2 ≠ 0 ∧ (s.acc.holder (natAt req.data 0 2)).isSome then refuse s .duplicate
      else s.acc.lowestFree.elim (refuse s .noSlot) fun i =>
        answerOk (s.openTarget i (natAt req.data 0 2) (natAt req.data 2 4) (byteAt req.data 6 == 1)) (u8 i) := by
  unfold State.doTargetOpen
  dsimp only
  rw [State.inRun_run run, flagAt_fit flag]
  simp only [capacity, Bool.not_true, Bool.false_eq_true, if_false]
  cases s.acc.lowestFree <;> rfl

theorem State.doTargetOpen_unfit {s : State} {req : Request} (run : s.mgt.config = .run)
    (unfit : 1 < byteAt req.data 6 ∨ capacityOk (natAt req.data 2 4) = false) :
    s.doTargetOpen req = refuse s .badValue := by
  unfold State.doTargetOpen
  dsimp only
  rw [State.inRun_run run]
  by_cases flag : 1 < byteAt req.data 6
  · rw [flagAt_unfit flag]
  · rw [flagAt_fit (Nat.le_of_not_lt flag)]
    simp only [unfit.resolve_left flag, Bool.not_false, if_true]

theorem State.namedSlot_none {s : State} {req : Request}
    (h : ∀ i : Fin 4, i.val = byteAt req.data 0 → (s.acc.slot i).state = .free) : s.namedSlot req = none := by
  refine Option.filter_eq_none_iff.2 fun i named => ?_
  have value : i.val = byteAt req.data 0 := by
    unfold finAt at named
    split at named
    · cases named
      rfl
    · cases named
  rw [(TargetSlot.held_eq_false_iff _).2 (h i value)]
  nofun

theorem State.namedSlot_some {s : State} {req : Request} {i : Fin 4} (value : i.val = byteAt req.data 0)
    (held : (s.acc.slot i).state ≠ .free) : s.namedSlot req = some i := by
  refine Option.filter_eq_some_iff.2 ⟨?_, (TargetSlot.held_iff _).2 held⟩
  have below : byteAt req.data 0 < 4 := value ▸ i.isLt
  rw [finAt, dif_pos below]
  exact congrArg some (Fin.ext value.symm)

theorem State.openTarget_link (i : Fin 4) (id capacity : Nat) (current : Bool) (s : State) :
    (s.openTarget i id capacity current).link = s.link := by
  rw [(State.openTarget_opens i id capacity current s).rest]

theorem State.closeSlot_link (i : Fin 4) (cause : CloseCause) (s : State) : (s.closeSlot i cause).link = s.link := by
  rw [(State.closeSlot_closes i cause s).rest]

theorem State.selectTarget_link (i : Fin 4) (s : State) : (s.selectTarget i).link = s.link := by
  by_cases current : s.acc.pointer = some i
  · rw [(State.selectTarget_selects i s).stays current]
  · rw [((State.selectTarget_selects i s).moves current).2]

/-- A target selected by TARGET_SELECT: the pointer moves, with a report, if it stood elsewhere (R155). -/
theorem State.selectTarget_evalAhead (i : Fin 4) (s : State) :
    (s.selectTarget i).evalAhead = { s with
      acc := { s.acc with
        pointer := some i, overloadAhead := (s.selectTarget i).evalAhead.acc.overloadAhead }
      handed := s.handed ++
        if s.acc.pointer = some i then [] else [(s.selectTarget i).evalAhead.acc.report .selected i] } := by
  unfold State.selectTarget
  by_cases current : s.acc.pointer = some i
  · simp only [current, if_true, List.append_nil]
    rw [State.evalAhead_frame]
    change _ = { s with acc := { s.acc with pointer := _, overloadAhead := _ } }
    rw [← current]
    rfl
  · simp only [current, if_false]
    rfl

/-- Settles O48. -/
theorem targetCommands : Obligations.TargetCommands := by
  refine ⟨fun req s admitted long => ?_, fun req s admitted long => ?_⟩
  all_goals
    dsimp only
  · let u := s.take (.targetOpen req)
    have refused : ∀ {status}, u.doTargetOpen req = refuse u status →
        exec (.targetOpen req) s = .next (s.answers (.targetOpen req) req status []) :=
      exec_admitted_refuse (c := .targetOpen req) rfl rfl admitted long
    have fits : ∀ {flag : Nat}, ¬ (1 < flag ∨ ¬ (natAt req.data 2 4 = 0 ∨ 1000 ≤ natAt req.data 2 4 ∧
      natAt req.data 2 4 ≤ 250000)) →
        flag ≤ 1 ∧ capacityOk (natAt req.data 2 4) = true := by
      intro flag fit
      rw [capacityOk_iff]
      omega
    have fitting := fun run fit => State.doTargetOpen_fit (s := u) (req := req) run (fits fit).1 (fits fit).2
    refine ⟨fun other => refused (State.inRun_other (s := u) other _), fun run unfit => refused ?_,
      fun run fit twice => refused ?_, fun run fit once full => refused ?_, fun i run fit once free => ?_⟩
    · refine State.doTargetOpen_unfit (s := u) run (unfit.imp_right fun h => ?_)
      rw [Bool.eq_false_iff, ne_eq, capacityOk_iff]
      exact h
    · refine (fitting run fit).trans (if_pos ⟨twice.1, (Accounts.holder_isSome _ _).2 twice.2⟩)
    · refine ((fitting run fit).trans (if_neg fun h => once ⟨h.1, (Accounts.holder_isSome _ _).1 h.2⟩)).trans ?_
      rw [(Accounts.lowestFree_none u.acc).2 full]
      rfl
    · have body : u.doTargetOpen req = _ :=
        (fitting run fit).trans (if_neg fun h => once ⟨h.1, (Accounts.holder_isSome _ _).1 h.2⟩)
      rw [(Accounts.lowestFree_iff u.acc i).2 free] at body
      exact ⟨_, State.openTarget_opens i _ _ _ _,
        exec_admitted_effect (c := .targetOpen req) rfl rfl admitted long body (State.openTarget_link ..)⟩
  · let u := s.take (.targetSelect req)
    have refused : ∀ {status}, u.doTargetSelect req = refuse u status →
        exec (.targetSelect req) s = .next (s.answers (.targetSelect req) req status []) :=
      exec_admitted_refuse (c := .targetSelect req) rfl rfl admitted long
    refine ⟨fun other => refused (State.inRun_other (s := u) other _), fun run free => refused ?_,
      fun i run value held => ⟨(u.selectTarget i).evalAhead, ?_, State.evalAhead_fresh _, ?_⟩⟩
    · unfold State.doTargetSelect
      rw [State.inRun_run (s := u) run, State.namedSlot_none (s := u) free]
    · refine exec_admitted_effect (c := .targetSelect req) rfl rfl admitted long ?_ (State.selectTarget_link i u)
      change u.doTargetSelect req = _
      unfold State.doTargetSelect
      rw [State.inRun_run (s := u) run, State.namedSlot_some (s := u) value held]
      rfl
    · exact State.selectTarget_evalAhead i u

/-! ### Closing, removing, latching -/

theorem State.depart_held {s : State} {id : Nat} {i : Fin 4}
    (h : lowestSlot (fun j => (s.acc.slot j).state ≠ .free ∧ (s.acc.slot j).id = id) i) :
    s.depart id = s.closeSlot i .dispatch := by
  unfold State.depart
  rw [(Accounts.holder_iff _ _ _).2 h]

theorem State.depart_strange {s : State} {id : Nat}
    (strange : ∀ j, ¬ ((s.acc.slot j).state ≠ .free ∧ (s.acc.slot j).id = id)) :
    s.depart id = s.onAcc fun a => { a with unknownDepartures := satInc 65535 a.unknownDepartures } := by
  unfold State.depart
  rw [(Accounts.holder_none _ _).2 strange]

theorem State.closeLoad_current {s : State} {i : Fin 4} (current : s.acc.pointer = some i) :
    s.closeLoad = s.closeSlot i .operator := by
  unfold State.closeLoad
  rw [current]

theorem State.closeLoad_empty {s : State} (empty : s.acc.pointer = none) : s.closeLoad = s := by
  unfold State.closeLoad
  rw [empty]

/-- Settles O49. -/
theorem targetCloses : Obligations.TargetCloses := by
  refine ⟨fun s => ?_, fun id s => ?_, fun req s admitted long => ?_⟩
  all_goals
    dsimp only
  · exact ⟨fun i current => ⟨_, State.closeSlot_closes i .operator _,
        congrArg Host.Outcome.next (State.closeLoad_current (s := s.take .closeLoad) current)⟩,
      fun empty => congrArg Host.Outcome.next (State.closeLoad_empty (s := s.take .closeLoad) empty)⟩
  · exact ⟨fun i held => ⟨_, State.closeSlot_closes i .dispatch _,
        congrArg Host.Outcome.next (State.depart_held (s := s.take (.dispatchDeparture id)) held)⟩,
      fun strange => congrArg Host.Outcome.next (State.depart_strange (s := s.take (.dispatchDeparture id)) strange)⟩
  · let u := s.take (.targetClose req)
    have refused : ∀ {status}, u.doTargetClose req = refuse u status →
        exec (.targetClose req) s = .next (s.answers (.targetClose req) req status []) :=
      exec_admitted_refuse (c := .targetClose req) rfl rfl admitted long
    refine ⟨fun other => refused (State.inRun_other (s := u) other _), fun run free => refused ?_,
      fun i run value held => ⟨_, State.closeSlot_closes i .command u, ?_⟩⟩
    · unfold State.doTargetClose
      rw [State.inRun_run (s := u) run, State.namedSlot_none (s := u) free]
    · refine exec_admitted_effect (c := .targetClose req) rfl rfl admitted long ?_ (State.closeSlot_link i .command u)
      change u.doTargetClose req = _
      unfold State.doTargetClose
      rw [State.inRun_run (s := u) run, State.namedSlot_some (s := u) value held]
      rfl

theorem Accounts.lastBucket_some {a : Accounts} {i : Fin 4} {e : BucketEntry} {l : List BucketEntry}
    (current : a.pointer = some i) (tail : (a.slot i).list = l ++ [e]) : a.lastBucket = some (i, e) := by
  rw [Accounts.lastBucket, current, Option.bind_some, tail, List.getLast?_concat]
  rfl

theorem Accounts.lastBucket_none {a : Accounts} (h : ∀ i, a.pointer = some i → (a.slot i).list = []) :
    a.lastBucket = none := by
  unfold Accounts.lastBucket
  cases current : a.pointer with
  | none => rfl
  | some i => rw [Option.bind_some, h i current]; rfl

theorem State.deleteLast_some {s : State} {i : Fin 4} {e : BucketEntry} (last : s.acc.lastBucket = some (i, e)) :
    s.deleteLast = s.removeBucket i e := by
  unfold State.deleteLast
  rw [last]

theorem State.deleteLast_none {s : State} (last : s.acc.lastBucket = none) : s.deleteLast = s := by
  unfold State.deleteLast
  rw [last]

theorem State.removeBucket_link (i : Fin 4) (e : BucketEntry) (s : State) : (s.removeBucket i e).link = s.link := by
  rw [(State.removeBucket_removes i e s).rest]

/-- Settles O50. -/
theorem bucketRemoved : Obligations.BucketRemoved := by
  refine ⟨fun s => ?_, fun req s admitted => ?_⟩
  all_goals
    dsimp only
  · exact ⟨fun i e l current tail => ⟨_, State.removeBucket_removes i e _, congrArg Host.Outcome.next
        (State.deleteLast_some (s := s.take .deleteLast) (Accounts.lastBucket_some (a := s.acc) current tail))⟩,
      fun empty => congrArg Host.Outcome.next
        (State.deleteLast_none (s := s.take .deleteLast) (Accounts.lastBucket_none (a := s.acc) empty))⟩
  · let u := s.take (.deleteLastBucket req)
    have refused : ∀ {status}, u.doDeleteLastBucket = refuse u status →
        exec (.deleteLastBucket req) s = .next (s.answers (.deleteLastBucket req) req status []) :=
      exec_admitted_refuse (c := .deleteLastBucket req) rfl rfl admitted (Nat.zero_le _)
    refine ⟨fun other => refused (State.inRun_other (s := u) other _), fun run empty => refused ?_,
      fun i e l run current tail => ⟨_, State.removeBucket_removes i e u, ?_⟩⟩
    · unfold State.doDeleteLastBucket
      rw [State.inRun_run (s := u) run, Accounts.lastBucket_none (a := u.acc) empty]
    · refine exec_admitted_effect (c := .deleteLastBucket req) rfl rfl admitted (Nat.zero_le _) ?_
        (State.removeBucket_link i e u)
      change u.doDeleteLastBucket = _
      unfold State.doDeleteLastBucket
      rw [State.inRun_run (s := u) run, Accounts.lastBucket_some (a := u.acc) current tail]
      rfl

theorem snapshotBytes_latched {x : Snapshot} (latched : x.latched = true) :
    snapshotBytes x = u8 1 ++ s32 x.totals.weighed ++ u32 x.totals.buckets ++ u32 x.totals.unweighed ++
      u32 x.totals.loads ++ s32 x.totals.unallocated ++ u16 x.figures.cycles ++ u16 x.figures.returned ++
      u32 x.figures.timeSum ++ u16 x.figures.timeCount ++ u16 x.figures.strays ++ u16 x.figures.reversals ++
      u16 x.shift.toNat ++ clockBytes x.clock ++ u32 x.tag.toNat := by
  rw [snapshotBytes, latched]
  simp only [accountFigures, trackerFigures, flagByte, if_true, List.append_assoc]

/-- Settles O51. -/
theorem totalsSnapshot : Obligations.TotalsSnapshot := by
  refine ⟨fun req s admitted => ⟨fun latched => ?_, fun free => ?_⟩,
    fun req s admitted => ⟨fun free => ?_, fun latched => ?_⟩⟩
  · exact exec_admitted_refuse (c := .latchTotals req) rfl rfl admitted (Nat.zero_le _) (if_pos latched)
  · refine (exec_admitted_effect (c := .latchTotals req) rfl rfl admitted (Nat.zero_le _)
      (if_neg (Bool.eq_false_iff.1 free)) rfl).trans ?_
    rfl
  · exact exec_admitted_refuse (c := .readTotals req) rfl rfl admitted (Nat.zero_le _)
      (if_neg (Bool.eq_false_iff.1 free))
  · refine (exec_admitted_effect (c := .readTotals req) rfl rfl admitted (Nat.zero_le _) (if_pos latched) rfl).trans ?_
    change Host.Outcome.next { State.onAcc _ _ with link := s.link.answered req .ok (snapshotBytes s.acc.snapshot) } = _
    rw [snapshotBytes_latched latched]
    rfl

end Sys2Proof.Machine
end

section
/-!
# Bucket credits

What a credit does to the slot that takes it, and when none takes it (O46).
-/

namespace Sys2Proof.Machine

open Sys2Proof

/-! ### The entry and the list -/

theorem creditEntry_eq (c : Credit) (shift : Word16) :
    creditEntry c shift =
      { sequence := if c.grade = .unweighed then none else c.sequence
        payload := if c.grade = .unweighed then 0 else c.payload
        grade := c.grade, tag := c.tag, shift := shift } := by
  unfold creditEntry
  cases c.grade <;> rfl

theorem creditEntry_payload (c : Credit) (shift : Word16) :
    (creditEntry c shift).payload = if c.grade = .unweighed then 0 else c.payload := by
  rw [creditEntry_eq]

theorem gradeCount_creditEntry (g : BucketGrade) (c : Credit) (shift : Word16) :
    gradeCount g (creditEntry c shift) = if c.grade = g then 1 else 0 := by
  rw [gradeCount, creditEntry_eq]

theorem TargetSlot.fold_short {t : TargetSlot} (short : t.list.length < 12) : t.fold = t := by
  unfold TargetSlot.fold
  split
  · rfl
  · exact if_neg (Nat.not_le.2 short)

theorem TargetSlot.fold_full {t : TargetSlot} {oldest : BucketEntry} {rest : List BucketEntry}
    (list : t.list = oldest :: rest) (full : 12 ≤ t.list.length) :
    t.fold = { t with list := rest, folded := t.folded + 1, foldedPayload := t.foldedPayload + oldest.payload } := by
  unfold TargetSlot.fold
  rw [list] at full ⊢
  exact if_pos full

/-- Folding changes the list and what is folded, nothing else (R147). -/
theorem TargetSlot.fold_frame (t : TargetSlot) :
    t.fold = { t with list := t.fold.list, folded := t.fold.folded, foldedPayload := t.fold.foldedPayload } := by
  by_cases short : t.list.length < 12
  · rw [TargetSlot.fold_short short]
  · cases list : t.list with
    | nil => simp [list] at short
    | cons oldest rest => rw [TargetSlot.fold_full list (Nat.le_of_not_lt short)]

/-- A slot after it took an entry. -/
def TargetSlot.took (t : TargetSlot) (p : AccountRecord) (e : BucketEntry) (now : Clock) : TargetSlot :=
  (t.fold.append e now).evaluate p

/-- What a slot that took an entry kept and what it counted (R151, step 4). -/
theorem TargetSlot.took_eq (t : TargetSlot) (p : AccountRecord) (e : BucketEntry) (now : Clock) :
    t.took p e now = { t with
      state := (t.took p e now).state, overloaded := (t.took p e now).overloaded
      list := t.fold.list ++ [e], folded := t.fold.folded, foldedPayload := t.fold.foldedPayload
      accumulated := t.accumulated + e.payload, buckets := t.buckets + 1
      unweighed := t.unweighed + gradeCount .unweighed e, marginal := t.marginal + gradeCount .marginal e
      firstBucket := if t.buckets = 0 then now else t.firstBucket, lastBucket := now } := by
  unfold TargetSlot.took TargetSlot.append TargetSlot.evaluate
  rw [TargetSlot.fold_frame t]

/-! ### Where a credit goes -/

theorem State.credit_unallocated {s : State} (c : Credit)
    (h : (s.acc.pointer = none ∧ ∀ i, (s.acc.slot i).state ≠ .free) ∨
      ∃ i, s.acc.pointer = some i ∧ 65535 ≤ (s.acc.slot i).buckets) : s.credit c = s.unallocated c := by
  unfold State.credit
  obtain ⟨empty, full⟩ | ⟨i, current, full⟩ := h
  · rw [empty, (Accounts.lowestFree_none _).2 full]
  · rw [current]
    exact if_pos full

/-- The slot that takes a credit (R151, steps 1 to 3). -/
def Accounts.Takes (a : Accounts) (i : Fin 4) : Prop :=
  (a.pointer = some i ∧ (a.slot i).buckets < 65535) ∨
    (a.pointer = none ∧ lowestSlot (fun j => (a.slot j).state = .free) i)

theorem State.credit_takes {s : State} (c : Credit) {i : Fin 4} (h : s.acc.Takes i) :
    s.credit c = s.creditSlot i (decide (s.acc.pointer = none)) c := by
  unfold State.credit
  obtain ⟨current, room⟩ | ⟨empty, free⟩ := h
  · rw [current]
    exact if_neg (Nat.not_le.2 room)
  · rw [empty, (Accounts.lowestFree_iff _ _).2 free]
    rfl

/-- The slot as a credit finds it: opened first, where the credit opens it. -/
def State.creditBase (s : State) (i : Fin 4) (opening : Bool) : TargetSlot :=
  if opening then { TargetSlot.free with state := .opened, opened := s.time.clockValue } else s.acc.slot i

/-- The accounts as a credit finds them. -/
def State.creditAccounts (s : State) (i : Fin 4) (opening : Bool) : Accounts :=
  if opening then (s.acc.openSlot i 0 0 s.time.clockValue).select i else s.acc

theorem State.creditAccounts_slot (s : State) (i : Fin 4) (opening : Bool) (j : Fin 4) :
    (s.creditAccounts i opening).slot j = if j = i then s.creditBase i opening else s.acc.slot j := by
  unfold State.creditAccounts State.creditBase
  cases opening
  · by_cases hj : j = i <;> simp [hj]
  · rw [if_pos rfl, if_pos rfl]
    exact Accounts.slot_setSlot s.acc i j fun _ => _

theorem State.creditSlot_slot (i : Fin 4) (opening : Bool) (c : Credit) (s : State) (j : Fin 4) :
    (s.creditSlot i opening c).acc.slot j =
      if j = i then (s.creditBase i opening).took s.acc.params (creditEntry c s.acc.shift) s.time.clockValue
      else s.acc.slot j := by
  have taken : (s.creditSlot i opening c).acc.slot j = ((s.creditAccounts i opening).setSlot i fun t =>
        t.took s.acc.params (creditEntry c s.acc.shift) s.time.clockValue).slot j := by
    cases opening <;> rfl
  rw [taken, Accounts.slot_setSlot, State.creditAccounts_slot, State.creditAccounts_slot, if_pos rfl]
  by_cases hj : j = i <;> simp only [hj, if_true, if_false]

theorem State.creditSlot_handed (i : Fin 4) (opening : Bool) (c : Credit) (s : State) :
    (s.creditSlot i opening c).handed = s.handed ++
      (if opening = true then [(s.creditSlot i opening c).acc.report .opened i] else []) ++
      [(s.creditSlot i opening c).acc.bucketReport i (creditEntry c s.acc.shift)] ++
      (if (s.creditBase i opening).state = ((s.creditSlot i opening c).acc.slot i).state then []
        else [(s.creditSlot i opening c).acc.report .state i]) := by
  have found : (s.creditAccounts i opening).slot i = s.creditBase i opening :=
    (State.creditAccounts_slot s i opening i).trans (if_pos rfl)
  rw [← found]
  cases opening
  all_goals
    unfold State.creditSlot
    simp only [List.append_assoc]
    rfl

theorem State.creditSlot_rest (i : Fin 4) (opening : Bool) (c : Credit) (s : State) :
    s.creditSlot i opening c = { s with
      acc := { s.acc with
        slots := (s.creditSlot i opening c).acc.slots
        pointer := if opening = true then some i else s.acc.pointer
        overloadAhead := overloadAhead (s.creditSlot i opening c).acc (s.payloadAtCredit c)
        totals := addToTotals (creditEntry c s.acc.shift) s.acc.totals }
      handed := (s.creditSlot i opening c).handed } := by
  cases opening <;> rfl

theorem State.creditSlot_kept (i : Fin 4) (opening : Bool) (c : Credit) (s : State) :
    s.creditSlot i opening c = { s with
      acc := { s.acc with
        slots := (s.creditSlot i opening c).acc.slots, pointer := (s.creditSlot i opening c).acc.pointer
        overloadAhead := (s.creditSlot i opening c).acc.overloadAhead
        totals := (s.creditSlot i opening c).acc.totals }
      handed := (s.creditSlot i opening c).handed } := by
  cases opening <;> rfl

/-- What a credit does to the slot that takes it. -/
theorem State.creditSlot_cell {i : Fin 4} {opening : Bool} {c : Credit} {s : State} :
    let b := s.creditBase i opening
    let e := creditEntry c s.acc.shift
    (s.creditSlot i opening c).acc.slot i = b.took s.acc.params e s.time.clockValue :=
  (State.creditSlot_slot i opening c s i).trans (if_pos rfl)

/-- Overload-ahead after a credit that found a lift pending, or that was unweighed. -/
theorem State.creditSlot_fresh (i : Fin 4) (opening : Bool) {c : Credit} {s : State}
    (h : s.trk.pending ≠ none ∨ c.grade = .unweighed) : (s.creditSlot i opening c).aheadFresh := by
  have trk : (s.creditSlot i opening c).trk = s.trk := by rw [State.creditSlot_rest]
  have ahead : (s.creditSlot i opening c).acc.overloadAhead = _ :=
    (congrArg (·.acc.overloadAhead) (State.creditSlot_rest i opening c s)).trans rfl
  unfold State.aheadFresh
  rw [ahead, ← overloadAhead_iff, trk, ← State.payloadAtCredit_pending c s h]

/-- Overload-ahead after a credit whose own lift alone was pending (log 42). -/
theorem State.creditSlot_ahead {i : Fin 4} {opening : Bool} {c : Credit} {s : State}
    (current : (s.creditSlot i opening c).acc.pointer = some i) (pending : s.trk.pending = none)
    (weighed : c.grade ≠ .unweighed) :
    (s.creditSlot i opening c).acc.overloadAhead = true ↔
      ((s.creditSlot i opening c).acc.slot i).capacity ≠ 0 ∧
        (((s.creditSlot i opening c).acc.slot i).capacity * (100 + s.acc.params.tolerance) : Int) <
          (((s.creditSlot i opening c).acc.slot i).accumulated + c.payload) * 100 := by
  have ahead : (s.creditSlot i opening c).acc.overloadAhead = _ :=
    (congrArg (·.acc.overloadAhead) (State.creditSlot_rest i opening c s)).trans rfl
  have params : (s.creditSlot i opening c).acc.params = s.acc.params := by rw [State.creditSlot_rest]
  rw [ahead]
  simp only [overloadAhead, current, State.payloadAtCredit, pending, if_neg weighed, overFigure, params,
    Bool.and_eq_true, bne_iff_ne, decide_eq_true_eq]

/-- Settles O46. -/
theorem bucketCredited : Obligations.BucketCredited := by
  refine ⟨fun s => ⟨_, rfl, State.evalAhead_fresh _, rfl⟩, fun c s => ?_⟩
  dsimp only
  let u := s.take (.bucketCredit c)
  rw [← creditEntry_eq c s.acc.shift, ← creditEntry_payload c s.acc.shift]
  refine ⟨fun taken => ?_, fun i takes => ?_⟩
  · refine congrArg Host.Outcome.next ((State.credit_unallocated (s := u) c taken).trans ?_)
    unfold State.unallocated
    dsimp only
    rw [State.setFault_acc]
    rfl
  · have base : (if s.acc.pointer = none then { TargetSlot.free with state := .opened, opened := s.time.clockValue }
        else s.acc.slot i) = u.creditBase i (decide (s.acc.pointer = none)) := by
      simp only [State.creditBase, decide_eq_true_eq]
      rfl
    rw [base, ← gradeCount_creditEntry .unweighed c s.acc.shift, ← gradeCount_creditEntry .marginal c s.acc.shift]
    have pointer : (if decide (s.acc.pointer = none) = true then some i else s.acc.pointer) = some i := by
      obtain ⟨current, -⟩ | ⟨empty, -⟩ := takes
      · simp [current]
      · simp [empty]
    let b := u.creditBase i (decide (s.acc.pointer = none))
    let t := u.creditSlot i (decide (s.acc.pointer = none)) c
    have cell : t.acc.slot i = b.took s.acc.params (creditEntry c s.acc.shift) s.time.clockValue :=
      State.creditSlot_cell (s := u)
    have kept := cell.trans (TargetSlot.took_eq b _ _ _)
    have rest : t = _ := State.creditSlot_rest i (decide (s.acc.pointer = none)) c u
    have current : t.acc.pointer = some i := (congrArg (·.acc.pointer) rest).trans pointer
    refine ⟨t, congrArg Host.Outcome.next (State.credit_takes (s := u) c takes), ⟨?_, ?_, ?_, ?_, fun short => ?_,
      fun oldest newer list full => ?_, ?_, ?_, ?_, ?_, ?_, ?_, ?_⟩, fun j other => ?_, current,
      State.creditSlot_fresh (s := u) i _, State.creditSlot_ahead (s := u) current, ?_, ?_⟩
    · exact (congrArg TargetSlot.accumulated kept).trans rfl
    · exact (congrArg TargetSlot.buckets kept).trans rfl
    · exact (congrArg TargetSlot.unweighed kept).trans rfl
    · exact (congrArg TargetSlot.marginal kept).trans rfl
    · rw [kept, TargetSlot.fold_short short]
      exact ⟨rfl, rfl, rfl⟩
    · rw [kept, TargetSlot.fold_full list full]
      exact ⟨rfl, rfl, rfl⟩
    · exact (congrArg TargetSlot.lastBucket kept).trans rfl
    · exact (congrArg TargetSlot.firstBucket kept).trans rfl
    · exact (congrArg TargetSlot.id kept).trans rfl
    · exact (congrArg TargetSlot.capacity kept).trans rfl
    · exact (congrArg TargetSlot.opened kept).trans rfl
    · rw [cell]
      exact TargetSlot.evaluate_evaluated _ _
    · refine (State.creditSlot_handed i (decide (s.acc.pointer = none)) c u).trans ?_
      simp only [decide_eq_true_eq, eq_comm (a := (t.acc.slot i).state)]
      rfl
    · exact (State.creditSlot_slot i _ c u j).trans (if_neg other)
    · exact (congrArg (·.acc.totals) rest).trans rfl
    · exact State.creditSlot_kept i _ c u

end Sys2Proof.Machine
end

section
/-!
# Reports on the wire

The widths of the operand forms, the contents of the reports that are sent at once (O52), the shift assembly (O54) and
the emptying of the load log (O55).
-/

namespace Sys2Proof.Machine

open Sys2Proof

/-! ### Widths (R192 to R194) -/

@[simp] theorem bytesOf_length (k n : Nat) : (bytesOf k n).length = k := by simp [bytesOf]

@[simp] theorem intBytes_length (k : Nat) (x : Int) : (intBytes k x).length = k := bytesOf_length ..

@[simp] theorem u8_length (n : Nat) : (u8 n).length = 1 := bytesOf_length ..

@[simp] theorem u16_length (n : Nat) : (u16 n).length = 2 := bytesOf_length ..

@[simp] theorem u32_length (n : Nat) : (u32 n).length = 4 := bytesOf_length ..

@[simp] theorem s32_length (x : Int) : (s32 x).length = 4 := intBytes_length ..

@[simp] theorem s16_length (x : Int) : (s16 x).length = 2 := intBytes_length ..

@[simp] theorem flagByte_length (b : Bool) : (flagByte b).length = 1 := u8_length _

@[simp] theorem enumByte_length {α : Type} [DecidableEq α] (values : List α) (x : α) : (enumByte values x).length = 1 :=
  u8_length _

@[simp] theorem clockBytes_length (c : Clock) : (clockBytes c).length = 7 := by simp [clockBytes]

@[simp] theorem liftRecord_length (r : LiftResult) : (liftRecord r).length = 27 := by simp [liftRecord]

@[simp] theorem loadRecord_length (r : LoadRecord) : (loadRecord r).length = 39 := by simp [loadRecord]

/-! ### Contents (R175, R193) -/

theorem optSlot_eq (slot : Option (Fin 4)) : optSlot slot = u8 (slot.elim 255 Fin.val) := by cases slot <;> rfl

/-- A presence byte is the mask of its one bit. -/
theorem presence_eq (b : Bool) : presence b = u8 (maskOf [b]) := by cases b <;> rfl

theorem entryHead_eq (e : BucketEntry) :
    entryHead e = u8 (maskOf [e.sequence.isSome]) ++ u16 (e.sequence.getD 0).toNat ++ s32 e.payload ++
      enumByte [.good, .marginal, .unweighed] e.grade := by
  rw [entryHead, presence_eq]
  rfl

theorem bucketContents_eq (b : BucketReport) :
    bucketContents b = u8 (b.slot.elim 255 Fin.val) ++ u8 (maskOf [b.entry.sequence.isSome]) ++
      u16 (b.entry.sequence.getD 0).toNat ++ s32 b.entry.payload ++
      enumByte [.good, .marginal, .unweighed] b.entry.grade ++ u32 b.entry.tag.toNat ++ u16 b.entry.shift.toNat ++
      s32 b.total ++ u16 b.buckets ++ enumByte [.free, .opened, .full] b.state ++ flagByte b.overloaded := by
  simp only [bucketContents, bucketEntry, optSlot_eq, entryHead_eq, List.append_assoc]
  rfl

theorem targetContents_eq (r : TargetReport) (removed : List Byte)
    (h : r.removed.elim (bytesOf 8 0) entryHead = removed) :
    targetContents r = enumByte [.opened, .selected, .state, .capacity, .removed, .closed] r.event ++
      u8 (r.figures.slot.elim 255 Fin.val) ++ enumByte [.free, .opened, .full] r.figures.state ++ u16 r.figures.id ++
      u32 r.figures.capacity ++ s32 r.figures.accumulated ++ u16 r.figures.buckets ++ flagByte r.figures.overloaded ++
      flagByte r.figures.current ++ removed := by
  rw [targetContents, optSlot_eq, h]
  rfl

/-- Settles O52. -/
theorem reportsRouted : Obligations.ReportsRouted := by
  refine ⟨fun k contents s => State.sendReport_sent k contents s, fun s => ?_⟩
  dsimp only
  refine ⟨fun r => ⟨rfl, liftRecord_length r⟩, fun b => ?_, fun r => ?_, fun r => ⟨rfl, ?_⟩, fun set => ⟨rfl, ?_⟩⟩
  · rw [← bucketContents_eq]
    refine ⟨rfl, ?_⟩
    rw [bucketContents_eq]
    simp
  · cases removed : r.removed with
    | none =>
      have bytes : r.removed.elim (bytesOf 8 0) entryHead = List.replicate 8 0 := by
        rw [removed]
        rfl
      rw [← targetContents_eq r _ bytes]
      refine ⟨rfl, ?_⟩
      rw [targetContents_eq r _ bytes]
      simp
    | some e =>
      have bytes := (congrArg (Option.elim · (bytesOf 8 0) entryHead) removed).trans (entryHead_eq e)
      rw [← targetContents_eq r _ bytes]
      refine ⟨rfl, ?_⟩
      rw [targetContents_eq r _ bytes]
      simp
  · simp
  · simp

/-! ### The shift assembly -/

theorem State.arriveShift_ignored {s : State} {n : Word16} (h : s.rep.lastClosing = some n) (part : ShiftPart) :
    s.arriveShift n part = s := if_pos h

/-- An arrival joins an assembly (R176, steps 4 and 5). -/
def State.joinAssembly (s : State) (a : Assembly) (part : ShiftPart) : State :=
  if (a.add part).complete then s.raiseShift (a.add part)
  else s.onRep fun r => { r with assembly := some (a.add part) }

theorem State.arriveShift_joins {s : State} {n : Word16} (h : s.rep.lastClosing ≠ some n) (part : ShiftPart) :
    s.arriveShift n part =
      (s.flushAssembly n).joinAssembly ((s.flushAssembly n).rep.assembly.getD ⟨n, none, none⟩) part := if_neg h

theorem State.flushAssembly_none {s : State} (n : Word16) (h : s.rep.assembly = none) : s.flushAssembly n = s := by
  unfold State.flushAssembly
  rw [h]

theorem State.flushAssembly_own {s : State} {a : Assembly} (h : s.rep.assembly = some a) :
    s.flushAssembly a.closing = s := by
  unfold State.flushAssembly
  rw [h]
  exact if_pos rfl

theorem State.flushAssembly_other {s : State} {n : Word16} {a : Assembly} (h : s.rep.assembly = some a)
    (other : a.closing ≠ n) : s.flushAssembly n = s.raiseShift a := by
  unfold State.flushAssembly
  rw [h]
  exact if_neg other

theorem Assembly.complete_iff (a : Assembly) : a.complete = true ↔ a.tracker ≠ none ∧ a.account ≠ none := by
  simp [Assembly.complete, Option.isSome_iff_ne_none]

theorem shiftContents_eq (a : Assembly) :
    shiftContents a =
      let f := a.tracker.getD ⟨0, 0, 0, 0, 0, 0⟩
      let g := a.account.getD ⟨0, 0, 0, 0, 0⟩
      u16 a.closing.toNat ++ u16 (a.closing + 1).toNat ++ u8 (maskOf [a.tracker.isSome, a.account.isSome]) ++
        u16 f.cycles ++ u16 f.returned ++ u32 f.timeSum ++ u16 f.timeCount ++ u16 f.strays ++ u16 f.reversals ++
        s32 g.weighed ++ u32 g.buckets ++ u32 g.unweighed ++ u32 g.loads ++ s32 g.unallocated := by
  simp only [shiftContents, trackerFigures, accountFigures, List.append_assoc]
  rfl

theorem State.raiseShift_eq (a : Assembly) (s : State) :
    s.raiseShift a =
      { s.sendReport .shift (shiftContents a) with
        rep := { (s.sendReport .shift (shiftContents a)).rep with assembly := none, lastClosing := some a.closing } } :=
  rfl

theorem State.joinAssembly_eq (s : State) (a : Assembly) (part : ShiftPart) :
    s.joinAssembly a part =
      if (a.add part).tracker ≠ none ∧ (a.add part).account ≠ none then s.raiseShift (a.add part)
      else { s with rep := { s.rep with assembly := some (a.add part) } } := by
  unfold State.joinAssembly
  simp only [Assembly.complete_iff]
  rfl

/-- Settles O54. -/
theorem shiftCloses : Obligations.ShiftCloses := by
  refine ⟨fun closing new s => rfl, fun n part s => ?_⟩
  let u := s.take (.shiftAssemblyArrival n part)
  have joins : ∀ (a : Assembly), s.rep.lastClosing ≠ some n →
    (u.flushAssembly n).rep.assembly.getD ⟨n, none, none⟩ = a →
      exec (.shiftAssemblyArrival n part) s = .next ((u.flushAssembly n).joinAssembly a part) := by
    intro a new found
    rw [← found]
    exact congrArg Host.Outcome.next (State.arriveShift_joins (s := u) new part)
  refine ⟨fun old => congrArg Host.Outcome.next (State.arriveShift_ignored (s := u) old part),
    fun new none => ?_, fun a new some same => ?_, fun a new some other => ?_⟩
  · rw [joins ⟨n, .none, .none⟩ new, State.flushAssembly_none (s := u) n none, State.joinAssembly_eq,
      State.raiseShift_eq,
      shiftContents_eq]
    · rfl
    · rw [State.flushAssembly_none (s := u) n none, show u.rep.assembly = .none from none]
      rfl
  · subst same
    rw [joins a new, State.flushAssembly_own (s := u) some, State.joinAssembly_eq, State.raiseShift_eq,
      shiftContents_eq]
    · rfl
    · rw [State.flushAssembly_own (s := u) some, show u.rep.assembly = .some a from some]
      rfl
  · rw [joins ⟨n, .none, .none⟩ new, State.flushAssembly_other (s := u) some other, State.joinAssembly_eq,
      State.raiseShift_eq, State.raiseShift_eq, shiftContents_eq, shiftContents_eq]
    · rfl
    · rw [State.flushAssembly_other (s := u) some other]
      rfl

/-! ### The load log -/

theorem loadRecord_answer (r : LoadRecord) (left : Nat) :
    loadRecord r ++ u8 left =
      u32 r.sequence ++ u16 r.id ++ u32 r.capacity ++ s32 r.payload ++ u16 r.buckets ++ u16 r.unweighed ++
        u16 r.marginal ++ clockBytes r.opened ++ clockBytes r.closed ++ enumByte closeCauses r.cause ++
        flagByte r.overloaded ++ u16 r.shift.toNat ++ u8 r.missed ++ u8 left := rfl

/-- READ_LOAD_LOG on a log that it may read (R163). -/
theorem State.doReadLoadLog_reads {s : State} {r : LoadRecord} {rest : List LoadRecord} (off : s.rep.route .load = .off)
    (landed : s.acc.log.inFlight = false) (records : s.acc.log.records = r :: rest) :
    s.doReadLoadLog =
      answerOk (s.onAcc fun a => { a with log := { a.log with records := rest } }) (loadRecord r ++
        u8 rest.length) := by
  unfold State.doReadLoadLog
  rw [if_neg (by rw [off]; nofun), if_neg (by rw [landed]; nofun), records]

theorem State.drain_closed {s : State} (h : s.canDrain = false ∨ s.acc.log.records = []) : s.drain = s := by
  unfold State.drain
  obtain h | h := h
  · rw [h]
    rfl
  · rw [h]
    exact ite_self s

theorem State.drain_drains {s : State} {r : LoadRecord} {rest : List LoadRecord} (can : s.canDrain = true)
    (records : s.acc.log.records = r :: rest) :
    s.drain = (routePorts (s.rep.route .load)).foldl (State.queueCopy r)
      (s.onAcc fun a => { a with log := { a.log with inFlight := true } }) := by
  unfold State.drain
  rw [if_pos can, records]

/-- What queueing the copies keeps. -/
theorem foldl_queueCopy_kept (r : LoadRecord) (ps : List Port) (s : State) :
    ps.foldl (State.queueCopy r) s =
      { s with
        link := { s.link with origQ := (ps.foldl (State.queueCopy r) s).link.origQ }
        rep := { s.rep with
          tags := (ps.foldl (State.queueCopy r) s).rep.tags, drain :=
            (ps.foldl (State.queueCopy r) s).rep.drain } } := by
  induction ps generalizing s with
  | nil => rfl
  | cons p ps ih => exact (ih (s.queueCopy r p)).trans rfl

/-- Settles O55. -/
theorem loadLogEmptied : Obligations.LoadLogEmptied := by
  refine ⟨fun req s admitted => ?_, fun s => ?_⟩
  · let u := s.take (.readLoadLog req)
    have refused : ∀ {status}, u.doReadLoadLog = refuse u status →
        exec (.readLoadLog req) s = .next (s.answers (.readLoadLog req) req status []) :=
      exec_admitted_refuse (c := .readLoadLog req) rfl rfl admitted (Nat.zero_le _)
    refine ⟨fun routed => refused (if_pos routed), fun off busy => refused ?_, fun off landed empty => refused ?_,
      fun r rest off landed records => ?_⟩
    · exact (if_neg fun h => h off).trans (if_pos busy)
    · refine ((if_neg fun h => h off).trans (if_neg (Bool.eq_false_iff.1 landed))).trans ?_
      rw [show u.acc.log.records = [] from empty]
    · exact (exec_admitted_effect (c := .readLoadLog req) rfl rfl admitted (Nat.zero_le _)
        (State.doReadLoadLog_reads (s := u) off landed records) rfl).trans rfl
  · let u := s.take .loadDrain
    dsimp only
    refine ⟨fun r rest ready records => ?_, fun shut => congrArg Host.Outcome.next (State.drain_closed (s := u) ?_)⟩
    · obtain ⟨routed, absent, landed, room⟩ := ready
      have can : u.canDrain = true := (State.canDrain_iff u).2 ⟨routed, absent, by simp [u, records], landed, room⟩
      let v := u.onAcc fun a => { a with log := { a.log with inFlight := true } }
      let t := (routePorts (s.rep.route .load)).foldl (State.queueCopy r) v
      have ports := fun p => foldl_queueCopy_port r _ (routePorts_nodup (s.rep.route .load)) v p
      have kept : t = _ := foldl_queueCopy_kept r (routePorts (s.rep.route .load)) v
      have acc : t.acc = v.acc := (congrArg State.acc kept).trans rfl
      have named : ∀ {p}, p ∈ routePorts (s.rep.route .load) ↔ s.routes .load p := State.routes_iff s .load _
      have none : ∀ p, s.rep.drain.get p = .absent := by
        rw [absent]
        exact fun p => by cases p <;> rfl
      refine ⟨t, congrArg Host.Outcome.next (State.drain_drains (s := u) can records), fun p => ?_, loadRecord_length r,
        fun p routes => ?_, fun p off => ?_, acc, acc ▸ kept⟩
      all_goals
        obtain ⟨queue, drain, tags⟩ := ports p
      · refine ⟨fun routes _ => ⟨queue.trans (if_pos (named.2 routes)), tags.trans (if_pos (named.2 routes))⟩,
          fun refused => ?_⟩
        have off : p ∉ routePorts (s.rep.route .load) := fun h => refused ⟨named.1 h, room p (named.1 h)⟩
        exact ⟨queue.trans (if_neg off), tags.trans (if_neg off)⟩
      · exact drain.trans (if_pos (named.2 routes))
      · exact (drain.trans (if_neg fun h => off (named.1 h))).trans (none p)
    · refine shut.imp_left fun notReady => ?_
      by_cases empty : s.acc.log.records = []
      · simp [State.canDrain, u, empty]
      · rw [Bool.eq_false_iff, ne_eq, State.canDrain_iff]
        exact fun ⟨routed, absent, _, landed, room⟩ => notReady ⟨routed, absent, landed, room⟩

end Sys2Proof.Machine
end

section
/-!
# STATUS reports

What a STATUS report carries, and what sending it to the ports of its route does (R178; O53).
-/

namespace Sys2Proof.Machine

open Sys2Proof

/-! ### Contents -/

theorem zipWith_finRange {α β γ : Type} {n : Nat} (f : α → β → γ) (g : Fin n → α) (v : Vector β n) :
    List.zipWith f ((List.finRange n).map g) v.toList = (List.finRange n).map fun i => f (g i) v[i] := by
  refine List.ext_getElem (by simp) fun i _ _ => ?_
  simp

theorem map_finRange_getD {n : Nat} (g : Fin n → Bool) (i : Fin n) :
    ((List.finRange n).map g)[i]?.getD false = g i := by
  simp

/-- The bytes that a STATUS report sends for its fields. -/
def statusSent (g : Fin 8 → Bool) (fields : Vector (Option Int) 8) : List Byte :=
  (List.finRange 8).flatMap fun n =>
    if g n = true then (fields[n]).elim [] fun x => intBytes ([1, 1, 4, 4, 4, 4, 2, 1].getD n 0) x else []

theorem statusContents_eq (g : Fin 8 → Bool) (full : Bool) (fields : Vector (Option Int) 8) :
    statusContents ((List.finRange 8).map g) full fields =
      u8 (maskOf ((List.finRange 8).map g)) ++
        u8 (maskOf ((List.finRange 8).map fun n => g n && (fields[n]).isNone)) ++ flagByte full ++
        statusSent g fields := by
  have widths : ((List.finRange 8).map g).zip statusWidths =
      (List.finRange 8).map fun n => (g n, [1, 1, 4, 4, 4, 4, 2, 1].getD n.val 0) := by
    refine List.ext_getElem (by simp [statusWidths]) fun i _ _ => ?_
    simp [statusWidths]
  rw [statusContents, widths, zipWith_finRange, zipWith_finRange, statusSent, List.flatMap]
  refine congrArg (_ ++ List.flatten ·) (List.map_congr_left fun n _ => ?_)
  unfold statusField
  cases fields[n] <;> cases g n <;> rfl

/-- Whether a field of a STATUS report is included (R178). -/
def statusIncludes (memory : Option (Vector (Option Int) 8)) (full : Bool) (fields : Vector (Option Int) 8)
    (n : Fin 8) : Bool :=
  full || memory.any fun m => decide (m[n] ≠ fields[n])

theorem statusIncluded_eq (memory : Option (Vector (Option Int) 8)) (full : Bool) (fields : Vector (Option Int) 8)
    (empty : memory = none → full = true) :
    statusIncluded memory full fields = (List.finRange 8).map (statusIncludes memory full fields) := by
  unfold statusIncluded statusIncludes
  cases memory with
  | none =>
    rw [empty rfl]
    refine List.ext_getElem (by simp) fun i _ _ => ?_
    simp
  | some m =>
    refine List.ext_getElem (by simp) fun i _ _ => ?_
    simp

theorem State.statusFields_eq (s : State) :
    s.statusFields =
      #v[s.item .phase, s.item .targetSlot, s.item .accPayload, s.item .remaining, s.item .pending,
        s.item .shiftPayload, s.item .shiftCycles, s.item .statusBits].map fun v => v.map fun x =>
          max (-2147483648) (min 2147483647 x) := by
  have clamp : (fun x => max (-2147483648) (min 2147483647 x)) = clampS32 := funext fun x =>
    (clampS32_eq_max_min x).symm
  rw [clamp]
  simp [State.statusFields, statusItems]

/-! ### Sending -/

/-- The contents of the STATUS report that a port would be offered. -/
def State.statusFor (fields : Vector (Option Int) 8) (s : State) (p : Port) : List Byte :=
  statusContents (statusIncluded (s.rep.memory.get p) (s.rep.statusFull p) fields) (s.rep.statusFull p) fields

/-- The entry that joins a port's queue with its STATUS report. -/
def State.statusEntry (fields : Vector (Option Int) 8) (s : State) (p : Port) : OrigEntry :=
  ⟨.report, buildFrame 0xF2 (s.rep.nodes.get p) s.link.node (s.rep.tags.get p)
    (u8 (codeOfKind .status) ++ s.statusFor fields p)⟩

/-- What STATUS reports see and change of a port. -/
structure PortView where
  queue : List OrigEntry
  tag : Byte
  memory : Option (Vector (Option Int) 8)
  changes : Nat

def State.portView (s : State) (p : Port) : PortView :=
  ⟨s.link.origQ.get p, s.rep.tags.get p, s.rep.memory.get p, s.rep.changes.get p⟩

/-- The port after a STATUS report of these fields joined its queue. -/
def State.reportedView (fields : Vector (Option Int) 8) (s : State) (p : Port) : PortView :=
  ⟨s.link.origQ.get p ++ [s.statusEntry fields p], s.rep.tags.get p + 1, some fields,
    if s.rep.statusFull p then 0 else s.rep.changes.get p + 1⟩

/-- The offer of a STATUS report to a port that has room. -/
theorem State.offerStatus_room {s : State} {q : Port} (fields : Vector (Option Int) 8) (room : s.roomFor q) :
    s.offerStatus fields q =
      { s with
        link := { s.link with origQ := s.link.origQ.set q (s.link.origQ.get q ++ [s.statusEntry fields q]) }
        rep := { s.rep with
          tags := s.rep.tags.set q (s.rep.tags.get q + 1), memory := s.rep.memory.set q (some fields)
          changes := s.rep.changes.set q (if s.rep.statusFull q then 0 else s.rep.changes.get q + 1) } } := by
  unfold State.offerStatus
  exact if_pos ((State.hasRoom_iff s q).2 room)

theorem State.offerStatus_full {s : State} {q : Port} (fields : Vector (Option Int) 8) (full : ¬ s.roomFor q) :
    s.offerStatus fields q = s.setFault .reportDrop := by
  unfold State.offerStatus
  exact if_neg fun h => full ((State.hasRoom_iff s q).1 h)

theorem State.offerStatus_touches (fields : Vector (Option Int) 8) (s : State) (q : Port) :
    s.offerStatus fields q =
      { s with
        link := { s.link with origQ := (s.offerStatus fields q).link.origQ }
        rep := { s.rep with
          tags := (s.offerStatus fields q).rep.tags, memory := (s.offerStatus fields q).rep.memory
          changes := (s.offerStatus fields q).rep.changes }
        mgt := (s.offerStatus fields q).mgt
        handed := (s.offerStatus fields q).handed } := by
  by_cases room : s.roomFor q
  · rw [State.offerStatus_room fields room]
  · rw [State.offerStatus_full fields room, State.setFault_frame]

/-- The offer of a STATUS report to a port, as a port sees it. -/
theorem State.offerStatus_portView (fields : Vector (Option Int) 8) (s : State) (q : Port) :
    (s.roomFor q → (s.offerStatus fields q).portView q = s.reportedView fields q) ∧
    (¬ s.roomFor q → (s.offerStatus fields q).portView q = s.portView q) ∧
    ∀ p, p ≠ q → (s.offerStatus fields q).portView p = s.portView p := by
  refine ⟨fun room => ?_, fun full => ?_, fun p other => ?_⟩
  · rw [State.offerStatus_room fields room]
    simp [State.portView, State.reportedView]
  · rw [State.offerStatus_full fields full]
    simp [State.portView]
  · by_cases room : s.roomFor q
    · rw [State.offerStatus_room fields room]
      simp [State.portView, PerPort.get_set, other]
    · rw [State.offerStatus_full fields room]
      simp [State.portView]

/-- What a port makes of a STATUS report depends on its view, the line and the nodes. -/
structure State.SamePort (p : Port) (s u : State) : Prop where
  view : u.portView p = s.portView p
  relay : u.link.relay = s.link.relay
  node : u.link.node = s.link.node
  nodes : u.rep.nodes = s.rep.nodes

theorem State.offerStatus_samePort (fields : Vector (Option Int) 8) (s : State) {p q : Port} (other : p ≠ q) :
    s.SamePort p (s.offerStatus fields q) where
  view := (State.offerStatus_portView fields s q).2.2 p other
  relay := by rw [State.offerStatus_touches]
  node := by rw [State.offerStatus_touches]
  nodes := by rw [State.offerStatus_touches]

theorem State.SamePort.roomFor {p : Port} {s u : State} (h : s.SamePort p u) : u.roomFor p ↔ s.roomFor p := by
  have queue : u.link.origQ.get p = s.link.origQ.get p := congrArg PortView.queue h.view
  rw [State.roomFor, State.roomFor, h.relay, queue]

theorem State.SamePort.reportedView {p : Port} {s u : State} (h : s.SamePort p u) (fields : Vector (Option Int) 8) :
    u.reportedView fields p = s.reportedView fields p := by
  obtain ⟨queue, tag, memory, changes⟩ := PortView.mk.inj h.view
  have full : u.rep.statusFull p = s.rep.statusFull p := by rw [Reports.statusFull, memory, changes]; rfl
  unfold State.reportedView State.statusEntry State.statusFor
  rw [queue, tag, memory, changes, full, h.node, h.nodes]

theorem foldl_offerStatus_portView (fields : Vector (Option Int) 8) (ps : List Port) (distinct : ps.Nodup) (s : State)
    (p : Port) :
    (p ∈ ps → s.roomFor p → (ps.foldl (State.offerStatus fields) s).portView p = s.reportedView fields p) ∧
    (¬ (p ∈ ps ∧ s.roomFor p) → (ps.foldl (State.offerStatus fields) s).portView p = s.portView p) := by
  induction ps generalizing s with
  | nil => exact ⟨nofun, fun _ => rfl⟩
  | cons q ps ih =>
    obtain ⟨fresh, distinct⟩ := List.nodup_cons.1 distinct
    obtain ⟨joins, stays⟩ := ih distinct (s.offerStatus fields q)
    obtain ⟨room, full, -⟩ := State.offerStatus_portView fields s q
    by_cases hp : p = q
    · subst hp
      have stays := stays fun h => fresh h.1
      exact ⟨fun _ h => stays.trans (room h), fun h => stays.trans (full fun r => h ⟨List.mem_cons_self, r⟩)⟩
    · have same := State.offerStatus_samePort fields s hp
      have mem : p ∈ q :: ps ↔ p ∈ ps := by simp [hp]
      rw [same.roomFor] at joins stays
      rw [same.reportedView] at joins
      rw [same.view] at stays
      rw [mem]
      exact ⟨joins, stays⟩

/-- What setting a fault flag does to the flags and the requests depends on these alone. -/
theorem State.setFault_congr {s u : State} (x : FaultFlag) (mgt : u.mgt = s.mgt) (handed : u.handed = s.handed) :
    (u.setFault x).mgt = (s.setFault x).mgt ∧ (u.setFault x).handed = (s.setFault x).handed := by
  unfold State.setFault
  dsimp only
  rw [mgt]
  split
  · exact ⟨mgt, handed⟩
  · exact ⟨congrArg (fun m : Management => { m with faults := addFault s.mgt.faults x }) mgt,
      congrArg (· ++ [Instr.faultReport (addFault s.mgt.faults x)]) handed⟩

theorem foldl_offerStatus_faults (fields : Vector (Option Int) 8) (ps : List Port) (distinct : ps.Nodup) (s : State) :
    let t := ps.foldl (State.offerStatus fields) s
    ((∃ p ∈ ps, ¬ s.roomFor p) →
      t.mgt = (s.setFault .reportDrop).mgt ∧ t.handed = (s.setFault .reportDrop).handed) ∧
    ((∀ p ∈ ps, s.roomFor p) → t.mgt = s.mgt ∧ t.handed = s.handed) := by
  induction ps generalizing s with
  | nil => exact ⟨nofun, fun _ => ⟨rfl, rfl⟩⟩
  | cons q ps ih =>
    obtain ⟨fresh, distinct⟩ := List.nodup_cons.1 distinct
    obtain ⟨drops, keeps⟩ := ih distinct (s.offerStatus fields q)
    have same : ∀ p ∈ ps, ((s.offerStatus fields q).roomFor p ↔ s.roomFor p) := fun p hp =>
      (State.offerStatus_samePort fields s (ne_of_mem_of_not_mem hp fresh)).roomFor
    by_cases room : s.roomFor q
    · have mgt : (s.offerStatus fields q).mgt = s.mgt := by rw [State.offerStatus_room fields room]
      have handed : (s.offerStatus fields q).handed = s.handed := by rw [State.offerStatus_room fields room]
      obtain ⟨mgt', handed'⟩ := State.setFault_congr .reportDrop mgt handed
      refine ⟨fun ⟨p, hp, full⟩ => ?_, fun all => ?_⟩
      · obtain rfl | hp := List.mem_cons.1 hp
        · exact absurd room full
        · obtain ⟨hm, hh⟩ := drops ⟨p, hp, fun h => full ((same p hp).1 h)⟩
          exact ⟨hm.trans mgt', hh.trans handed'⟩
      · obtain ⟨hm, hh⟩ := keeps fun p hp => (same p hp).2 (all p (List.mem_cons_of_mem _ hp))
        exact ⟨hm.trans mgt, hh.trans handed⟩
    · have dropped : s.offerStatus fields q = s.setFault .reportDrop := State.offerStatus_full fields room
      refine ⟨fun _ => ?_, fun all => absurd (all q List.mem_cons_self) room⟩
      rw [dropped, State.setFault_twice] at drops
      rw [dropped] at keeps same
      by_cases more : ∃ p ∈ ps, ¬ s.roomFor p
      · obtain ⟨p, hp, full⟩ := more
        rw [List.foldl_cons, dropped]
        exact drops ⟨p, hp, fun h => full ((same p hp).1 h)⟩
      · rw [List.foldl_cons, dropped]
        exact keeps fun p hp => (same p hp).2 (Classical.byContradiction fun h => more ⟨p, hp, h⟩)

theorem foldl_offerStatus_touches (fields : Vector (Option Int) 8) (ps : List Port) (s : State) :
    let t := ps.foldl (State.offerStatus fields) s
    t = { s with
      link := { s.link with origQ := t.link.origQ }
      rep := { s.rep with tags := t.rep.tags, memory := t.rep.memory, changes := t.rep.changes }
      mgt := t.mgt
      handed := t.handed } := by
  induction ps generalizing s with
  | nil => rfl
  | cons q ps ih =>
    have step := ih (s.offerStatus fields q)
    dsimp only at step ⊢
    rw [List.foldl_cons]
    generalize List.foldl _ (s.offerStatus fields q) ps = t at step ⊢
    rw [State.offerStatus_touches] at step
    exact step

/-- R178: the ports of the route are offered each its own STATUS report. -/
theorem State.sendStatus_sent (s : State) {contents : Port → List Byte}
    (h : ∀ p, contents p = s.statusFor s.statusFields p) : s.Sent .status contents s.sendStatus := by
  have view := foldl_offerStatus_portView s.statusFields _ (routePorts_nodup (s.rep.route .status)) s
  obtain ⟨drops, keeps⟩ := foldl_offerStatus_faults s.statusFields _ (routePorts_nodup (s.rep.route .status)) s
  simp only [State.routes_iff] at view drops keeps
  refine ⟨fun p => ⟨fun routed room => ?_, fun off => ?_⟩, drops, keeps⟩
  · obtain ⟨queue, tag, -, -⟩ := PortView.mk.inj ((view p).1 routed room)
    rw [h]
    exact ⟨queue, tag⟩
  · obtain ⟨queue, tag, -, -⟩ := PortView.mk.inj ((view p).2 off)
    exact ⟨queue, tag⟩

/-- What a port remembers of the STATUS reports offered to it. -/
theorem State.sendStatus_memory (s : State) (p : Port) :
    (s.routes .status p → s.roomFor p →
      s.sendStatus.rep.memory.get p = some s.statusFields ∧
      s.sendStatus.rep.changes.get p = if s.rep.statusFull p = true then 0 else s.rep.changes.get p + 1) ∧
    (¬ (s.routes .status p ∧ s.roomFor p) →
      s.sendStatus.rep.memory.get p = s.rep.memory.get p ∧
      s.sendStatus.rep.changes.get p = s.rep.changes.get p) := by
  have view := foldl_offerStatus_portView s.statusFields _ (routePorts_nodup (s.rep.route .status)) s p
  simp only [State.routes_iff] at view
  refine ⟨fun routed room => ?_, fun off => ?_⟩
  · obtain ⟨-, -, memory, changes⟩ := PortView.mk.inj (view.1 routed room)
    exact ⟨memory, changes⟩
  · obtain ⟨-, -, memory, changes⟩ := PortView.mk.inj (view.2 off)
    exact ⟨memory, changes⟩

theorem Reports.statusFull_of_none {r : Reports} {p : Port} (empty : r.memory.get p = none) :
    r.statusFull p = true := by
  rw [Reports.statusFull, empty]
  rfl

/-- Settles O53. -/
theorem statusReport : Obligations.StatusReport := by
  intro s
  dsimp only
  rw [← State.statusFields_eq]
  let u := s.take .statusReport
  refine ⟨u.sendStatus, rfl, State.sendStatus_sent u fun p => ?_, fun p => (State.sendStatus_memory u p).1,
    fun p => (State.sendStatus_memory u p).2, foldl_offerStatus_touches u.statusFields _ u⟩
  rw [State.statusFor, statusIncluded_eq _ _ _ Reports.statusFull_of_none, statusContents_eq]
  simp only [map_finRange_getD]
  rfl

end Sys2Proof.Machine
end

section
/-!
# The overlay

The value of every overlay item (R169, R170; O29), and the overlay stage that writes them into a page (R171, R172; O22).
-/

namespace Sys2Proof.Machine

open Sys2Proof

/-! ### Codes and status bits -/

/-- The code of a value is its place in the list. -/
theorem codeIn_of_getElem? {α : Type} [DecidableEq α] {l : List α} (distinct : l.Nodup) {n : Nat} {x : α}
    (h : l[n]? = some x) : codeIn l x = n := by
  induction l generalizing n with
  | nil => cases h
  | cons y ys ih =>
    obtain ⟨fresh, distinct⟩ := List.nodup_cons.1 distinct
    cases n with
    | zero =>
      cases h
      exact if_pos rfl
    | succ n =>
      have other : y ≠ x := fun same => fresh (same ▸ List.mem_of_getElem? h)
      exact (if_neg other).trans (congrArg (· + 1) (ih distinct h))

theorem ite_eq_mul_toNat {p : Prop} [Decidable p] {b : Bool} (h : b = true ↔ p) (k : Int) :
    (if p then k else 0) = k * b.toNat := by
  cases b
  · rw [if_neg fun hp => Bool.false_ne_true (h.2 hp)]
    simp
  · rw [if_pos (h.1 rfl)]
    simp

theorem maskOf_cons (b : Bool) (bits : List Bool) : maskOf (b :: bits) = b.toNat + 2 * maskOf bits := by cases b <;> rfl

/-! ### The current target -/

theorem State.current_none {s : State} (empty : s.acc.pointer = none) : s.current = none := by
  rw [State.current, empty]
  rfl

theorem State.current_some {s : State} {i : Fin 4} (current : s.acc.pointer = some i) :
    s.current = some (s.acc.slot i) := by
  rw [State.current, current]
  rfl

theorem State.current_any {s : State} (q : TargetSlot → Bool) :
    s.current.any q = true ↔ ∃ i, s.acc.pointer = some i ∧ q (s.acc.slot i) = true := by
  cases pointer : s.acc.pointer with
  | none => simp [State.current_none pointer]
  | some i => simp [State.current_some pointer]

theorem State.tailEntry_eq_some {s : State} {e : BucketEntry} :
    s.tailEntry = some e ↔ ∃ i l, s.acc.pointer = some i ∧ (s.acc.slot i).list = l ++ [e] := by
  unfold State.tailEntry
  cases pointer : s.acc.pointer with
  | none => simp [State.current_none pointer]
  | some i =>
    rw [State.current_some pointer]
    constructor
    · intro last
      obtain ⟨l, tail⟩ := List.getLast?_eq_some_iff.1 last
      exact ⟨i, l, rfl, tail⟩
    · rintro ⟨j, l, same, tail⟩
      cases same
      exact List.getLast?_eq_some_iff.2 ⟨l, tail⟩

theorem percent_eq {whole : Nat} (h : whole ≠ 0) (part : Int) : percent part whole = (part * 100).tdiv whole :=
  truncDiv_of_ne_zero (Int.natCast_ne_zero.2 h)

/-! ### Items -/

theorem pendingPayload_weighed {r : LiftResult} {p : Int} (weighed : r.grade ≠ .rejected)
    (payload : r.payload = some p) :
    pendingPayload (some r) = some p := by
  rw [pendingPayload, Option.bind_some, if_neg weighed, payload]
  rfl

theorem pendingPayload_none {pending : Option LiftResult} (h : ∀ r, pending = some r → r.grade = .rejected) :
    pendingPayload pending = none := by
  cases pending with
  | none => rfl
  | some r => exact if_pos (h r rfl)

theorem State.bucketPayload_tail {s : State} (h : pendingPayload s.trk.pending = none) :
    s.bucketPayload = s.tailEntry.bind fun e => if e.grade = .unweighed then none else some e.payload := by
  rw [State.bucketPayload, h]

theorem State.bucketPayload_pending {s : State} {p : Int} (h : pendingPayload s.trk.pending = some p) :
    s.bucketPayload = some p := by
  rw [State.bucketPayload, h]

/-- With no current target, the items on it are invalid. -/
theorem State.item_empty {s : State} (empty : s.acc.pointer = none) {x : Item}
    (member : x ∈ [Item.accPayload, .remaining, .targetFill, .buckets, .lastBucket, .targetId, .targetSlot]) :
    s.item x = none := by
  have none := State.current_none empty
  simp only [List.mem_cons, List.not_mem_nil, or_false] at member
  obtain rfl | rfl | rfl | rfl | rfl | rfl | rfl := member
  all_goals simp [State.item, State.tailEntry, none, empty, withCapacity]

/-- The items on the current target. -/
theorem State.item_current {s : State} {i : Fin 4} (current : s.acc.pointer = some i) :
    s.item .accPayload = some (s.acc.slot i).accumulated ∧ s.item .buckets = some ((s.acc.slot i).buckets : Int) ∧
    s.item .targetId = some ((s.acc.slot i).id : Int) ∧ s.item .targetSlot = some (i.val : Int) ∧
    ((s.acc.slot i).capacity = 0 → s.item .remaining = none ∧ s.item .targetFill = none) ∧
    ((s.acc.slot i).capacity ≠ 0 →
      s.item .remaining = some ((s.acc.slot i).capacity - (s.acc.slot i).accumulated) ∧
      s.item .targetFill = some (((s.acc.slot i).accumulated * 100).tdiv (s.acc.slot i).capacity)) ∧
    ((s.acc.slot i).list = [] → s.item .lastBucket = none) := by
  have target := State.current_some current
  refine ⟨?_, ?_, ?_, ?_, fun none => ?_, fun some => ?_, fun empty => ?_⟩
  · simp [State.item, target]
  · simp [State.item, target]
  · simp [State.item, target]
  · simp [State.item, current]
  · simp [State.item, target, withCapacity, none]
  · simp [State.item, target, withCapacity, some, percent_eq some]
  · simp [State.item, State.tailEntry, target, empty]

theorem State.inputStale_iff (s : State) :
    s.inputStale = true ↔ ∃ r, (r = .headP ∨ r = .rodP ∨ r = .boom ∨ r = .tilt) ∧ s.sig.freshOf r = false := by
  simp only [State.inputStale, Bool.not_eq_true', Bool.and_eq_false_iff]
  constructor
  · rintro (((h | h) | h) | h)
    · exact ⟨_, .inl rfl, h⟩
    · exact ⟨_, .inr (.inl rfl), h⟩
    · exact ⟨_, .inr (.inr (.inl rfl)), h⟩
    · exact ⟨_, .inr (.inr (.inr rfl)), h⟩
  · rintro ⟨r, rfl | rfl | rfl | rfl, h⟩ <;> simp [h]

/-- STATUS_BITS as a sum of weights (R170). -/
theorem State.statusBits_eq (s : State) :
    s.item .statusBits = some (
      (if (s.current.any fun t => t.state == .full) = true then 1 else 0) +
        (if s.acc.overloadAhead = true then 2 else 0) +
        (if (s.current.any fun t => t.overloaded) = true then 4 else 0) +
        (if s.cal.active.valid = true then 0 else 8) + (if s.cal.run = .off then 0 else 16) +
        (if s.mgt.faults = 0 then 0 else 32) + (if s.time.valid = true then 0 else 64) +
        (if s.inputStale = true then 128 else 0) : Int) := by
  have invalid : ∀ b : Bool, (!b) = true ↔ ¬ b = true := by decide
  have running : (s.cal.run == .collecting || s.cal.run == .review) = true ↔ ¬ s.cal.run = .off := by
    cases s.cal.run <;> decide
  rw [ite_eq_mul_toNat Iff.rfl 1, ite_eq_mul_toNat Iff.rfl 2, ite_eq_mul_toNat Iff.rfl 4,
    ← ite_not (s.cal.active.valid = true), ite_eq_mul_toNat (invalid _) 8,
    ← ite_not (s.cal.run = .off), ite_eq_mul_toNat running 16, ← ite_not (s.mgt.faults = 0),
    ite_eq_mul_toNat bne_iff_ne 32, ← ite_not (s.time.valid = true),
    ite_eq_mul_toNat (invalid _) 64, ite_eq_mul_toNat Iff.rfl 128]
  refine congrArg some ?_
  simp only [State.statusBits, maskOf_cons]
  simp only [maskOf, List.foldr_nil]
  omega

/-- Settles O29. -/
theorem itemValues : Obligations.ItemValues := by
  intro s
  dsimp only
  have full := State.current_any (s := s) fun t => t.state == .full
  have overloads := State.current_any (s := s) fun t => t.overloaded
  simp only [beq_iff_eq] at full
  refine ⟨fun empty x member => ?_, fun i current => ?_, fun e tail => ?_, fun p ⟨r, pending, weighed, payload⟩ => ?_,
    fun rejected => ?_, fun n named => ?_, rfl, ?_, ?_, fun none => ?_, fun some => ?_,
    s.current.any fun t => t.state == .full, s.current.any fun t => t.overloaded, s.inputStale, full, overloads,
    State.inputStale_iff s, ?_⟩
  · exact State.item_empty empty member
  · exact State.item_current current
  · rw [State.item, State.tailEntry_eq_some.2 tail]
    rfl
  · have shown : s.item .pending = Option.some p :=
      (congrArg pendingPayload pending).trans (pendingPayload_weighed weighed payload)
    refine ⟨shown, fun rated => ?_⟩
    rw [State.item, State.bucketPayload_pending shown, Option.map_some, percent_eq (by omega)]
  · have idle : s.item .pending = none := pendingPayload_none rejected
    refine ⟨idle, fun e tail weighed rated => ?_, fun unweighed => ?_⟩
    · rw [State.item, State.bucketPayload_tail idle, State.tailEntry_eq_some.2 tail, Option.bind_some, if_neg weighed,
        Option.map_some, percent_eq (by omega)]
    · rw [State.item, State.bucketPayload_tail idle]
      cases tail : s.tailEntry with
      | none => rfl
      | some e => rw [Option.bind_some, if_pos (unweighed e (State.tailEntry_eq_some.1 tail))]; rfl
  · exact congrArg (fun n : Nat => Option.some (n : Int)) (codeIn_of_getElem? (by decide) named)
  · rfl
  · rfl
  · exact if_pos none
  · refine (if_neg some).trans (congrArg Option.some ?_)
    have positive : s.trk.figures.timeCount * 100 ≠ 0 := by omega
    exact (truncDiv_of_ne_zero (b := ((s.trk.figures.timeCount * 100 : Nat) : Int)) (by omega)).trans
      (Int.ofNat_tdiv ..).symm
  · exact State.statusBits_eq s

/-! ### The overlay stage -/

theorem clampInt_eq_max_min {lo hi : Int} (h : lo ≤ hi) (x : Int) : clampInt lo hi x = max lo (min hi x) := by
  unfold clampInt
  split
  · omega
  · split <;> omega

theorem divisor_ne_zero {n : Nat} (h : n ∈ [1, 10, 100, 1000]) : (n : Int) ≠ 0 := by
  rintro h0
  have zero : n = 0 := by omega
  subst zero
  exact absurd h (by decide)

/-- What an entry writes (R171). -/
theorem OverlayEntry.field_writes {e : OverlayEntry} (divisor : e.divisor ∈ [1, 10, 100, 1000]) (v : Option Int) :
    e.Writes v (e.field v) where
  leave := fun none leave => by rw [none, OverlayEntry.field, leave]; rfl
  fills := fun none fill => by rw [none, OverlayEntry.field, fill]; rfl
  narrow := fun x some narrow => by
    rw [some, OverlayEntry.field, narrow, truncDiv_of_ne_zero (divisor_ne_zero divisor)]
    simp only [Bool.false_eq_true, if_false]
    rw [clampInt_eq_max_min (by decide)]
  broad := fun x some wide => by
    rw [some, OverlayEntry.field, wide, truncDiv_of_ne_zero (divisor_ne_zero divisor)]
    simp only [if_true]
    rw [clampS32_eq_max_min]

theorem OverlayEntry.field_length {e : OverlayEntry} {v : Option Int} {bytes : List Byte} (h : e.field v = some bytes) :
    bytes.length = e.width := by
  unfold OverlayEntry.field OverlayEntry.bytes at h
  unfold OverlayEntry.width
  cases v with
  | none =>
    cases fill : e.fill <;> simp only [fill, Bool.false_eq_true, if_false, if_true] at h
    · cases h
    · cases h
      exact List.length_replicate
  | some x =>
    cases h
    cases e.wide <;> simp

/-- A field's bytes stand in a payload that has room for it. -/
theorem split_at_field {α : Type} {d : List α} {offset width : Nat} (fits : offset + width ≤ d.length) :
    ∃ before old after, d = before ++ old ++ after ∧ before.length = offset ∧ old.length = width :=
  ⟨d.take offset, (d.drop offset).take width, (d.drop offset).drop width, 
    by rw [List.append_assoc, List.take_append_drop, List.take_append_drop], by rw [List.length_take]; omega,
    by rw [List.length_take, List.length_drop]; omega⟩

theorem writeAt_split {before old after new : List Byte} (same : new.length = old.length) :
    writeAt (before ++ old ++ after) before.length new = before ++ new ++ after := by
  unfold writeAt
  rw [same, ← List.length_append, List.drop_left, List.append_assoc before old, List.take_left]

/-- One entry at a payload: it does not fit, leaves the payload, or writes its field (R171, R172). -/
inductive OverlayEntry.Applies (e : OverlayEntry) (s : State) : List Byte → State × List Byte → Prop where
  | skips (d : List Byte) : d.length < e.offset + e.width → e.Applies s d (s.setFault .overlayFit, d)
  | leaves (d : List Byte) : e.offset + e.width ≤ d.length → e.field (s.item e.item) = none → e.Applies s d (s, d)
  | writes (before old after new : List Byte) : before.length = e.offset → old.length = e.width →
      new.length = e.width → e.field (s.item e.item) = some new →
      e.Applies s (before ++ old ++ after) (s, before ++ new ++ after)

theorem applyOverlay_applies (e : OverlayEntry) (s : State) (d : List Byte) :
    e.Applies s d (applyOverlay e (s, d)) := by
  unfold applyOverlay
  by_cases short : d.length < e.offset + e.bytes
  · rw [if_pos short]
    exact .skips d short
  rw [if_neg short]
  have fits : e.offset + e.width ≤ d.length := Nat.le_of_not_lt short
  cases field : e.field (s.item e.item) with
  | none => exact .leaves d fits field
  | some new =>
    obtain ⟨before, old, after, rfl, offset, width⟩ := split_at_field fits
    have length : new.length = e.width := OverlayEntry.field_length field
    dsimp only
    rw [← offset, writeAt_split (length.trans width.symm)]
    exact .writes before old after new offset width length field

theorem OverlayEntry.Applies.length {e : OverlayEntry} {s : State} {d : List Byte} {x : State × List Byte}
    (h : e.Applies s d x) : x.2.length = d.length := by
  cases h with
  | skips => rfl
  | leaves => rfl
  | writes before old after new offset width length => simp [width, length]

/-- The bytes outside an entry's field stay. -/
theorem OverlayEntry.Applies.outside {e : OverlayEntry} {s : State} {d : List Byte} {x : State × List Byte}
    (h : e.Applies s d x) {n : Nat} (out : e.offset + e.width ≤ d.length → n < e.offset ∨ e.offset + e.width ≤ n) :
    x.2[n]? = d[n]? := by
  cases h with
  | skips => rfl
  | leaves => rfl
  | writes before old after new offset width length =>
    obtain below | above := out (by simp only [List.length_append]; omega)
    · rw [List.append_assoc, List.append_assoc, List.getElem?_append_left (by omega),
        List.getElem?_append_left (by omega)]
    · rw [List.getElem?_append_right (by simp only [List.length_append]; omega),
        List.getElem?_append_right (by simp only [List.length_append]; omega)]
      simp only [List.length_append, width, length]

theorem OverlayEntry.Applies.state {e : OverlayEntry} {s : State} {d : List Byte} {x : State × List Byte}
    (h : e.Applies s d x) :
    (d.length < e.offset + e.width → x.1 = s.setFault .overlayFit) ∧ (e.offset + e.width ≤ d.length → x.1 = s) := by
  cases h with
  | skips _ short => exact ⟨fun _ => rfl, fun fits => absurd short (Nat.not_lt.2 fits)⟩
  | leaves _ fits => exact ⟨fun short => absurd short (Nat.not_lt.2 fits), fun _ => rfl⟩
  | writes before old after new offset width length =>
    exact ⟨fun short => absurd short (by simp only [List.length_append]; omega), fun _ => rfl⟩

theorem OverlayEntry.Applies.overlaid {e : OverlayEntry} (divisor : e.divisor ∈ [1, 10, 100, 1000])
    {rest : List OverlayEntry} {s t : State} {d d' : List Byte} {x : State × List Byte} (h : e.Applies s d x)
    (later : Overlaid rest x.1 x.2 t d') : Overlaid (e :: rest) s d t d' := by
  have writes := OverlayEntry.field_writes divisor (s.item e.item)
  cases h with
  | skips _ short => exact .skips e rest s t d d' short later
  | leaves _ fits field => exact .leaves e rest s t d d' fits (field ▸ writes) later
  | writes before old after new offset width length field =>
    exact .writes e rest s t before old after new d' offset width length (field ▸ writes) later

/-- The entries of a set, one after another (R172). -/
def overlayAll (entries : List OverlayEntry) (s : State) (d : List Byte) : State × List Byte :=
  entries.foldl (fun x e => applyOverlay e x) (s, d)

theorem overlayAll_cons (e : OverlayEntry) (rest : List OverlayEntry) (s : State) (d : List Byte) :
    overlayAll (e :: rest) s d = overlayAll rest (applyOverlay e (s, d)).1 (applyOverlay e (s, d)).2 := rfl

theorem overlayAll_overlaid {entries : List OverlayEntry} (divisors : ∀ e ∈ entries, e.divisor ∈ [1, 10, 100, 1000])
    (s : State) (d : List Byte) : Overlaid entries s d (overlayAll entries s d).1 (overlayAll entries s d).2 := by
  induction entries generalizing s d with
  | nil => exact .done s d
  | cons e rest ih =>
    exact (applyOverlay_applies e s d).overlaid (divisors e List.mem_cons_self)
      (ih (fun e' h => divisors e' (List.mem_cons_of_mem _ h)) _ _)

theorem overlayAll_length (entries : List OverlayEntry) (s : State) (d : List Byte) :
    (overlayAll entries s d).2.length = d.length := by
  induction entries generalizing s d with
  | nil => rfl
  | cons e rest ih => exact (ih _ _).trans (applyOverlay_applies e s d).length

theorem overlayAll_outside {entries : List OverlayEntry} {d : List Byte} {n : Nat}
    (out : ∀ e ∈ entries, e.offset + e.width ≤ d.length → n < e.offset ∨ e.offset + e.width ≤ n) (s : State) :
    (overlayAll entries s d).2[n]? = d[n]? := by
  induction entries generalizing s d with
  | nil => rfl
  | cons e rest ih =>
    have applied := applyOverlay_applies e s d
    refine Eq.trans (ih (fun e' h fits => out e' (List.mem_cons_of_mem _ h) (applied.length ▸ fits)) _) ?_
    exact applied.outside (out e List.mem_cons_self)

theorem overlayAll_fits {entries : List OverlayEntry} {d : List Byte}
    (fits : ∀ e ∈ entries, e.offset + e.width ≤ d.length) (s : State) : (overlayAll entries s d).1 = s := by
  induction entries generalizing s d with
  | nil => rfl
  | cons e rest ih =>
    have applied := applyOverlay_applies e s d
    exact (ih (fun e' h => Nat.le_trans (fits e' (List.mem_cons_of_mem _ h)) (Nat.le_of_eq applied.length.symm)) _).trans
      (applied.state.2 (fits e List.mem_cons_self))

theorem overlayAll_skips {entries : List OverlayEntry} {d : List Byte}
    (short : ∃ e ∈ entries, d.length < e.offset + e.width) (s : State) :
    (overlayAll entries s d).1 = s.setFault .overlayFit := by
  induction entries generalizing s d with
  | nil => exact absurd short (by simp)
  | cons e rest ih =>
    have applied := applyOverlay_applies e s d
    rw [overlayAll_cons]
    by_cases more : ∃ e' ∈ rest, d.length < e'.offset + e'.width
    · rw [ih (applied.length.symm ▸ more)]
      by_cases here : d.length < e.offset + e.width
      · rw [applied.state.1 here, State.setFault_twice]
      · rw [applied.state.2 (Nat.le_of_not_lt here)]
    · have fits : ∀ e' ∈ rest, e'.offset + e'.width ≤ d.length := fun e' h =>
        Nat.le_of_not_lt fun here => more ⟨e', h, here⟩
      obtain ⟨e', member, here⟩ := short
      obtain rfl | member := List.mem_cons.1 member
      · rw [overlayAll_fits (applied.length.symm ▸ fits), applied.state.1 here]
      · exact absurd ⟨e', member, here⟩ more

/-- A good frame is its header and its payload, with their check. -/
theorem FrameIn.good.withCheck_payload {f : FrameIn} (h : f.good) :
    withCheck (f.stored.take 4 ++ framePayload f.stored) = f.stored := by
  obtain ⟨count, low, -, -, check⟩ := h
  have body : f.stored.take 4 ++ framePayload f.stored = f.stored.take (f.count - 2) := by
    rw [framePayload, ← List.take_add]
    exact congrArg (f.stored.take ·) (by omega)
  rw [body, ← check]

/-- Settles O22. -/
theorem overlayStage : Obligations.OverlayStage := by
  intro set frame s divisors
  dsimp only
  have all : ∀ e ∈ s.rep.entriesOf set, e.divisor ∈ [1, 10, 100, 1000] := fun e h =>
    divisors e ((List.mem_filter.1 h).1)
  refine ⟨(overlayAll (s.rep.entriesOf set) s (framePayload frame)).2, overlayAll_overlaid all s _, rfl,
    overlayAll_length _ s _, fun n out => overlayAll_outside out s, fun short => overlayAll_skips short s,
    fun fits => overlayAll_fits fits s, fun f good stored same => ?_⟩
  subst stored
  refine Eq.trans ?_ good.withCheck_payload
  exact congrArg (fun d => withCheck (f.stored.take 4 ++ d)) same

end Sys2Proof.Machine
end

section
/-!
# Requests refused, and what the reading commands answer

When a request is not carried out (R186; O59), what the reading commands answer (O56), and the sections of READ_STATE
(O34).
-/

namespace Sys2Proof.Machine

open Sys2Proof

/-! ### Requests that are not carried out -/

theorem eq_unknownCommand {c : Instr} {req : Request} (hr : requestOf c = some req) (hg : commandGroup c = none) :
    c = .unknownCommand req := by
  cases c <;> cases hr <;> cases hg
  rfl

/-- Every management request is looked at only when it is taken. -/
theorem run_whenTaken {c : Instr} {req : Request} (hr : requestOf c = some req) :
    ∃ handle, ∀ s : State, s.run c = (s.take c).whenTaken req handle := by
  cases hg : commandGroup c with
  | some g => exact ⟨_, fun s => (run_request hr hg s).trans (by rw [State.serve])⟩
  | none =>
    obtain rfl := eq_unknownCommand hr hg
    exact ⟨fun s => s.respond req .unknownCommand [], fun _ => rfl⟩

theorem State.whenTaken_cut_off {s : State} (h : carries s.link.relay = false) (req : Request) (handle : State →
    State) :
    s.whenTaken req handle = s :=
  if_neg (Bool.eq_false_iff.1 h)

theorem State.whenTaken_busy {s : State} {req : Request} (h : carries s.link.relay = true)
    (waits : holdsResponse (s.link.origQ.get req.port) = true) (handle : State → State) :
    s.whenTaken req handle = s.busyDrop req.port :=
  (if_pos h).trans (if_pos waits)

theorem holdsResponse_iff (q : List OrigEntry) : holdsResponse q = true ↔ ∃ e ∈ q, e.kind = .response := by
  simp [holdsResponse, isResponse_iff]

theorem exec_denied {c : Instr} {req : Request} {g : Group} {s : State} (hr : requestOf c = some req)
    (hg : commandGroup c = some g) (taken : s.canTake req) (outside : hasGroup (s.mgt.inForce.get req.port) g = false) :
    exec c s = .next (s.answers c req .denied []) := by
  rw [exec_eq_run, run_request hr hg, State.serve_denied (s := s.take c) taken outside]
  rfl

theorem exec_short {c : Instr} {req : Request} {g : Group} {s : State} (hr : requestOf c = some req)
    (hg : commandGroup c = some g) (admitted : s.admits g req) (short : req.data.length < commandNeed c) :
    exec c s = .next (s.answers c req .badValue []) := by
  rw [exec_eq_run, run_request hr hg, State.serve_short (s := s.take c) admitted short]
  rfl

/-- QUEUE_CONTROL on a queue byte that names no queue. -/
theorem State.onQueue_unnamed {s : State} {req : Request} (mode : s.mgt.config ≠ .unconfigured)
    (unnamed : 1 < byteAt req.data 0) (body : QueueId → State → Answer) : s.onQueue req body = refuse s .badValue := by
  have code : enumAt [QueueId.fast, .slow] req.data 0 = none := List.getElem?_eq_none unnamed
  rw [State.onQueue, if_neg mode, code]

/-- ARM with an operation that the rule does not list, on any queue byte (log 15). -/
theorem State.onQueue_doArm_unlisted {s : State} {req : Request} (mode : s.mgt.config ≠ .unconfigured)
    (unlisted : 2 < byteAt req.data 1) : s.onQueue req (State.doArm req) = refuse s .badValue := by
  obtain ⟨q, -, -, named⟩ | ⟨status, refused⟩ := s.onQueue_cases req (State.doArm req)
  · rw [named]
    exact if_pos (by omega)
  · rw [State.onQueue, if_neg mode] at refused ⊢
    cases code : enumAt [QueueId.fast, .slow] req.data 0 with
    | none => rfl
    | some q => exact if_pos (by omega)

/-- Settles O59. -/
theorem requestRefusals : Obligations.RequestRefusals := by
  refine ⟨fun c req s hr => ⟨fun cut => ?_, fun carried waits => ?_,
    fun g taken hg outside => exec_denied hr hg taken outside, fun g hg admitted short =>
      exec_short hr hg admitted short⟩,
    fun c req s queueControl admitted long => ?_⟩
  · obtain ⟨handle, run⟩ := run_whenTaken hr
    rw [exec_eq_run, run, State.whenTaken_cut_off (s := s.take c) cut]
    rfl
  · obtain ⟨handle, run⟩ := run_whenTaken hr
    rw [exec_eq_run, run, State.whenTaken_busy (s := s.take c) carried ((holdsResponse_iff _).2 waits)]
    rfl
  · have hr : requestOf c = some req := by obtain rfl | rfl | rfl := queueControl <;> rfl
    have hg : commandGroup c = some .control := by obtain rfl | rfl | rfl := queueControl <;> rfl
    have need : commandNeed c = 2 := by obtain rfl | rfl | rfl := queueControl <;> rfl
    obtain ⟨queueBody, body⟩ : ∃ body, bodyOf c = State.onQueue req body := by
      obtain rfl | rfl | rfl := queueControl <;> exact ⟨_, rfl⟩
    have refused : ∀ {status}, State.onQueue req queueBody (s.take c) = refuse (s.take c) status →
        exec c s = .next (s.answers c req status []) := fun h =>
      exec_admitted_refuse hr hg admitted (need ▸ long) (body ▸ h)
    refine ⟨fun mode => refused (State.onQueue_unconfigured (s := s.take c) mode req _),
      fun mode unnamed => refused (State.onQueue_unnamed (s := s.take c) mode unnamed _), fun mode arm unlisted => ?_⟩
    subst arm
    exact exec_admitted_refuse rfl rfl admitted long (State.onQueue_doArm_unlisted
      (s := s.take (.arm req)) mode unlisted)

/-! ### The reading commands -/

theorem tableCheck_badTable {table : Nat} (h : 16 ≤ table) (index : Nat) : tableCheck table index = some .badTable := by
  rw [tableCheck, show entryCounts[table]? = none from List.getElem?_eq_none h]

theorem tableCheck_badIndex {table index n : Nat} (counts : entryCounts[table]? = some n) (h : n ≤ index) :
    tableCheck table index = some .badIndex := by
  rw [tableCheck, counts]
  exact if_neg (Nat.not_lt.2 h)

theorem tableCheck_none {table index n : Nat} (counts : entryCounts[table]? = some n) (h : index < n) :
    tableCheck table index = none := by
  rw [tableCheck, counts]
  exact if_pos h

/-! ### Entries as they are read -/

theorem perPort_get_portOf {α : Type} (x : PerPort α) (n : Nat) : x.get (portOf n) = if n = 0 then x.mp else x.dp := by
  unfold portOf
  split <;> rfl

theorem perQueue_get_queueOf {α : Type} (x : PerQueue α) (n : Nat) :
    x.get (queueOf n) = if n = 0 then x.fast else x.slow := by
  unfold queueOf
  split <;> rfl

theorem optByte_fin {n : Nat} (x : Option (Fin n)) : optByte (x.map Fin.val) = u8 (x.elim 255 Fin.val) := by
  cases x <;> rfl

theorem actionBytes_eq (a : MatchAction) : actionBytes a = a.layout := by
  cases a with
  | target id capacity departure => cases capacity <;> cases departure <;> rfl
  | _ => rfl

theorem matchBytes_eq (e : MatchEntry) :
    matchBytes e = flagByte e.enable ++ enumByte [.fromMp, .fromDp, .either] e.direction ++
      [e.classValue, e.classMask] ++ u8 e.sourceValue.toNat ++ u8 e.sourceMask.toNat ++ [e.byte0Value, e.byte0Mask] ++
      u8 e.minLength ++ flagByte e.consume ++ e.action.layout := by
  rw [matchBytes, actionBytes_eq]
  rfl

theorem wordBytes_eq (w : SampleWord) :
    wordBytes w = u8 (w.channel.elim 255 Fin.val) ++ u8 w.settle ++ flagByte w.brk ++ flagByte w.last ++
      u8 (w.dest.elim 255 Fin.val) := by
  rw [wordBytes, optByte_fin, optByte_fin]

theorem wideByte_eq (b : Bool) : enumByte wides b = u8 (if b = true then 1 else 0) := by cases b <;> rfl

/-- The live state of a signal slot, in the order of its fields (R39; log 17). -/
theorem liveBytes_eq (s : State) (n : Nat) : (s.sig.slots[n]?).elim [] liveBytes = s.live 3 n := by
  change _ = Option.elim _ [] _
  cases s.sig.slots[n]? with
  | none => rfl
  | some v =>
    obtain ⟨value, fresh, tag, writes, source, timer⟩ := v
    cases source <;> rfl

/-- READ_ENTRY returns an entry as the table holds it, with its live state (R183). -/
theorem State.readTable_eq (s : State) (table index : Nat) :
    s.readTable table index = s.entry table index ++ s.live table index := by
  match table with
  | 0 => exact (List.append_nil _).symm
  | 1 =>
    change u8 _ ++ u8 _ = _
    rw [perPort_get_portOf, perPort_get_portOf]
    rfl
  | 2 =>
    refine Eq.trans ?_ (List.append_nil _).symm
    change (s.sig.matchTable[index]?).elim [] matchBytes = _
    rw [show matchBytes = _ from funext matchBytes_eq]
    rfl
  | 3 =>
    rw [← liveBytes_eq]
    rfl
  | 4 => exact (optByte_fin _).trans (List.append_nil _).symm
  | 5 => exact (List.append_nil _).symm
  | 6 =>
    change (if index = 48 then u8 s.acq.boundary else _) = (if index = 48 then _ else _) ++
      (if index = 48 then [] else _)
    by_cases boundary : index = 48
    · rw [if_pos boundary, if_pos boundary, if_pos boundary, List.append_nil]
    · rw [if_neg boundary, if_neg boundary, if_neg boundary, show wordBytes = _ from funext wordBytes_eq]
      rfl
  | 7 =>
    refine Eq.trans ?_ (List.append_nil _).symm
    change setupBytes _ = _
    rw [perQueue_get_queueOf]
    rfl
  | 8 => exact (List.append_nil _).symm
  | 9 => exact (List.append_nil _).symm
  | 10 => exact (List.append_nil _).symm
  | 11 => exact (List.append_nil _).symm
  | 12 =>
    change s.cal.read index = (if index = 0 then _ else if index = 17 then _ else _) ++ (if index = 17 then [] else _)
    unfold Calibration.read
    by_cases deadline : index = 17
    · subst deadline
      exact (List.append_nil _).symm
    · by_cases head : index = 0
      · subst head
        rfl
      · simp only [deadline, head, if_false, calBinBytes]
        cases (s.cal.active.empty[index - 1]?).getD none <;> cases
          (s.cal.active.reference[index - 1]?).getD none <;> rfl
  | 13 =>
    refine Eq.trans ?_ (List.append_nil _).symm
    change (s.rep.overlay[index]?).elim [] overlayBytes = _
    unfold overlayBytes
    simp only [wideByte_eq]
    rfl
  | 14 =>
    refine Eq.trans ?_ (List.append_nil _).symm
    change s.rep.read index = if index < 8 then _ else _
    unfold Reports.read
    by_cases route : index < 8
    · rw [if_pos route, if_pos route]
      rfl
    · have first : index - 8 = 0 ↔ index = 8 := by omega
      rw [if_neg route, if_neg route, perPort_get_portOf]
      simp only [first]
  | 15 => exact (List.append_nil _).symm
  | n + 16 => rfl

/-! ### What the reading commands answer -/

theorem State.doReadEntry_refused {s : State} {req : Request} {status : Status}
    (h : tableCheck (byteAt req.data 0) (byteAt req.data 1) = some status) : s.doReadEntry req = refuse s status := by
  unfold State.doReadEntry
  dsimp only
  rw [h]

theorem State.doReadEntry_reads {s : State} {req : Request}
    (h : tableCheck (byteAt req.data 0) (byteAt req.data 1) = none) :
    s.doReadEntry req = answerOk s (s.entry (byteAt req.data 0) (byteAt req.data 1) ++
      s.live (byteAt req.data 0) (byteAt req.data 1)) := by
  unfold State.doReadEntry
  dsimp only
  rw [h, State.readTable_eq]

theorem State.doCalStatus_summary {s : State} {req : Request} (h : byteAt req.data 0 = 0) :
    s.doCalStatus req = answerOk s s.calSummary := by
  have flag : flagAt req.data 0 = some false := if_pos h
  rw [State.doCalStatus, flag]

theorem State.doCalStatus_bin {s : State} {req : Request} (h : byteAt req.data 0 = 1) :
    s.doCalStatus req =
      if 15 < byteAt req.data 1 then refuse s .badValue else answerOk s (s.cal.binStatus (byteAt req.data 1)) := by
  have flag : flagAt req.data 0 = some true := (if_neg (by omega)).trans (if_pos h)
  rw [State.doCalStatus, flag]

theorem Calibration.binStatus_eq (c : Calibration) (b : Fin 16) :
    c.binStatus b.val = forceBytes c.candidate.empty[b] ++ forceBytes c.candidate.reference[b] ++
      u8 c.record.binLifts[b] := by
  simp [Calibration.binStatus, calBinBytes]

/-- Settles O56. -/
theorem readsAnswer : Obligations.ReadsAnswer := by
  refine ⟨fun req s taken => ?_, fun req s admitted => ?_, fun req s admitted => ?_⟩
  · exact congrArg Host.Outcome.next ((if_pos taken.1).trans (if_neg (Bool.eq_false_iff.1 taken.2)))
  · dsimp only
    refine ⟨exec_admitted_refuse rfl rfl admitted (Nat.zero_le _) rfl,
      exec_admitted_refuse rfl rfl admitted (Nat.zero_le _) rfl,
      exec_admitted_refuse rfl rfl admitted (Nat.zero_le _) rfl,
      exec_admitted_refuse rfl rfl admitted (Nat.zero_le _) rfl, fun long => ?_⟩
    have entry : ∀ {status data}, State.doReadEntry req (s.take (.readEntry req)) = ⟨_, status, data⟩ →
        exec (.readEntry req) s = .next (s.answers (.readEntry req) req status data) :=
      exec_admitted_refuse (c := .readEntry req) rfl rfl admitted long
    have status : ∀ {status data}, State.doCalStatus req (s.take (.calStatus req)) = ⟨_, status, data⟩ →
        exec (.calStatus req) s = .next (s.answers (.calStatus req) req status data) :=
      exec_admitted_refuse (c := .calStatus req) rfl rfl admitted long
    refine ⟨fun unlisted => entry (State.doReadEntry_refused (tableCheck_badTable unlisted _)),
      fun n counts above => entry (State.doReadEntry_refused (tableCheck_badIndex counts above)),
      fun n counts below => entry (State.doReadEntry_reads (tableCheck_none counts below)),
      fun summary => status (State.doCalStatus_summary summary), fun b bins named => status ?_, fun unfit => status ?_⟩
    · rw [State.doCalStatus_bin bins, if_neg (by omega), named, Calibration.binStatus_eq]
      rfl
    · obtain unfit | ⟨bins, above⟩ := unfit
      · rw [State.doCalStatus, flagAt_unfit unfit]
        rfl
      · exact (State.doCalStatus_bin bins).trans (if_pos above)
  · exact ⟨exec_admitted_body (c := .clearFaults req) rfl rfl admitted (Nat.zero_le _) rfl,
      exec_admitted_body (c := .clearCounters req) rfl rfl admitted (Nat.zero_le _) rfl⟩

end Sys2Proof.Machine
end

section
/-!
# The sections of READ_STATE

What each section shows, byte by byte (R188; O34).
-/

namespace Sys2Proof.Machine

open Sys2Proof

theorem exec_readState_section {req : Request} {s : State} {k : Nat} {data : List Byte} (admitted : s.admits .info req)
    (long : 1 ≤ req.data.length) (low : k ≤ 16) (other : k ≠ 1) (shows : s.stateSection k = data)
    (named : byteAt req.data 0 = k) :
    exec (.readState req) s = .next (s.answers (.readState req) req .ok data) := by
  refine exec_admitted_refuse rfl rfl admitted long ?_
  change State.doReadState req _ = _
  unfold State.doReadState
  rw [named, ← shows]
  exact (if_neg (Nat.not_lt.2 low)).trans (congrArg (answerOk · _) (if_neg other))

/-- A part behind its presence byte, of a width that the bytes of the part have. -/
theorem liftSection_some (r : LiftResult) : liftSection (some r) = u8 1 ++ liftRecord r := rfl

theorem liftSection_none : liftSection none = List.replicate 28 0 := rfl

theorem conversionBytes_eq (x : Option Conversion) :
    optBytes 1 (fun v : Conversion => u8 v.word) x =
      match x with
      | some v => u8 1 ++ u8 v.word
      | none => u8 0 ++ u8 0 := by
  cases x <;> rfl

theorem State.stateSection_slot (s : State) (i : Fin 4) : s.stateSection (9 + i.val) = slotSection s.acc i := by
  match i with
  | 0 => rfl
  | 1 => rfl
  | 2 => rfl
  | 3 => rfl

theorem State.stateSection_slotTimes (s : State) (i : Fin 4) :
    s.stateSection (13 + i.val) = slotTimesSection (s.acc.slot i) := by
  match i with
  | 0 => rfl
  | 1 => rfl
  | 2 => rfl
  | 3 => rfl

/-- Settles O34. -/
theorem sectionsRead : Obligations.SectionsRead := by
  intro req s admitted long
  have shows : ∀ {k : Nat} {data : List Byte}, k ≤ 16 → k ≠ 1 → s.stateSection k = data → byteAt req.data 0 = k → _ :=
    exec_readState_section admitted long
  refine ⟨fun above => ?_, shows (by decide) (by decide) ?_, fun named => ?_, shows (by decide) (by decide) ?_,
    shows (by decide) (by decide) ?_, shows (by decide) (by decide) ?_, shows (by decide) (by decide) ?_,
    shows (by decide) (by decide) ?_, shows (by decide) (by decide) ?_, shows (by decide) (by decide) ?_,
    fun i => ⟨shows (by omega) (by omega) ?_, shows (by omega) (by omega) ?_⟩⟩
  · exact exec_admitted_refuse rfl rfl admitted long (if_pos above)
  · simp only [State.stateSection, linkSection, relayBytes, reportCount, responseCount, List.append_assoc]
    cases s.link.ingress.mp.mode <;> cases s.link.ingress.dp.mode <;> rfl
  · refine (exec_admitted_body (c := .readState req) (t := (s.take (.readState req)).onAcq Acquisition.clearFlags)
      (status := .ok) (data := s.stateSection 1) rfl rfl admitted long ?_).trans ?_
    · change State.doReadState req _ = _
      unfold State.doReadState
      rw [named]
      rfl
    · simp only [State.stateSection, acquisitionSection]
      rw [conversionBytes_eq]
      rfl
  · simp only [State.stateSection, timerSection, timerBytes, List.flatMap_cons, List.flatMap_nil, List.append_nil,
      List.append_assoc]
    rfl
  · simp only [State.stateSection, weighSection]
    by_cases window : s.weigh.state = .window
    · simp only [window, if_true]
      rfl
    · simp only [window, if_false]
      rfl
  · cases last : s.weigh.last with
    | none => exact congrArg liftSection last
    | some r =>
      refine (congrArg liftSection last).trans ?_
      simp only [liftSection_some, liftRecord, List.append_assoc]
      rfl
  · simp only [State.stateSection, trackerSection, trackerFigures, List.append_assoc]
    cases s.trk.candidate <;> cases s.trk.cycleStart <;> rfl
  · cases last : s.trk.pending with
    | none => exact congrArg liftSection last
    | some r =>
      refine (congrArg liftSection last).trans ?_
      simp only [liftSection_some, liftRecord, List.append_assoc]
      rfl
  · simp only [State.stateSection, accountSection, accountFigures, optSlot_eq, List.append_assoc]
  · rfl
  · exact State.stateSection_slot s i
  · refine (State.stateSection_slotTimes s i).trans ?_
    unfold slotTimesSection
    cases (s.acc.slot i).list.getLast? with
    | none => rfl
    | some e =>
      simp only [optBytes, bucketEntry, entryHead, List.append_assoc]
      rfl

end Sys2Proof.Machine
end

section
/-!
# ENTER_CONFIG, SOFT_RESET and COMMIT

What the moves of the configuration state make of every block (R182, R184, R189; O57 and O31).
-/

namespace Sys2Proof.Machine

open Sys2Proof

/-! ### ENTER_CONFIG and SOFT_RESET -/

theorem State.endRunByConfig_kept (s : State) :
    s.endRunByConfig = { s with cal := s.endRunByConfig.cal, handed := s.endRunByConfig.handed } := by
  by_cases off : s.cal.run = .off
  · rw [State.endRunByConfig_off off]
  · rw [State.endRunByConfig_on off]

theorem State.endRunByConfig_starts (s : State) : s.endRunByConfig.cal.starts = s.cal.starts := by
  by_cases off : s.cal.run = .off
  · rw [State.endRunByConfig_off off]
  · rw [State.endRunByConfig_on off]
    rfl

theorem State.takeEnterConfig_eq (s : State) :
    s.takeEnterConfig = { s with
      acq := s.acq.stopAll
      time := s.time.enterConfig
      weigh := s.weigh.enterConfig
      cal := s.endRunByConfig.cal
      trk := { s.trk with
        phase := .unknown, candidate := none, pending := none, cycleStart := none, dumped := false, startOpen := false }
      mgt := { s.mgt with config := .config }
      handed := (s.handed ++ s.halts).filter outlivesRun } := by
  rw [← State.halted_handed, ← State.takeEnterConfig_handed]
  unfold State.takeEnterConfig
  rw [State.endRunByConfig_kept]
  rfl

/-- What a SOFT_RESET leaves of the requests handed before it (logs 24 and 44). -/
def outlivesReset (c : Instr) : Bool := !dwellOrDeadline c && outlivesRun c

theorem State.takeSoftReset_eq (s : State) :
    s.takeSoftReset = { s with
      link := s.link.softReset
      sig := s.sig.softReset
      acq := s.acq.softReset
      time := s.time.softReset
      weigh := s.weigh.softReset
      cal := { Calibration.initial with starts := s.cal.starts, startOpen := s.endRunByConfig.cal.startOpen }
      trk := { s.trk with
        phase := .unknown, candidate := none, pending := none, cycleStart := none, dumped := false, startOpen := false
        params := CycleRecord.zero }
      acc := { s.acc with params := ⟨0, 0⟩ }
      rep := s.rep.softReset
      mgt := { s.mgt with config := .unconfigured }
      handed := (s.handed ++ s.halts).filter outlivesReset } := by
  unfold outlivesReset
  rw [← State.halted_handed, ← State.takeSoftReset_handed, ← State.endRunByConfig_starts]
  unfold State.takeSoftReset
  rw [State.endRunByConfig_kept]
  rfl

theorem outlivesReset_timerStart (i : TimerId) (reload : Option Nat) (start : Nat) :
    outlivesReset (.timerStart i reload start) = (i != .td && i != .tc) := by
  cases i <;> rfl

theorem outlivesReset_timerStop (i : TimerId) : outlivesReset (.timerStop i) = (i != .td && i != .tc) := by
  cases i <;> rfl

/-! ### What moves the configuration state -/

/-- What a command other than a power reset can do to the configuration state and the groups (R182, R184, R185). -/
structure Management.Moves (c : Instr) (m m' : Management) : Prop where
  config : m'.config ≠ m.config →
    (∃ req, c = .enterConfig req ∧ m'.config = .config) ∨ (∃ req, c = .commit req ∧ m'.config = .run) ∨
      (∃ req, c = .softReset req ∧ m'.config = .unconfigured)
  inForce : m'.inForce ≠ m.inForce → ∃ req, c = .commit req
  written : m'.written ≠ m.written → ∃ req, c = .writeEntry req

theorem Management.Moves.of_raised (c : Instr) {m m' : Management} (h : m' = { m with faults := m'.faults }) :
    m.Moves c m' where
  config := fun moved => absurd (by rw [h]) moved
  inForce := fun moved => absurd (by rw [h]) moved
  written := fun moved => absurd (by rw [h]) moved

theorem Management.Moves.refl (c : Instr) (m : Management) : m.Moves c m := .of_raised c rfl

theorem State.writeTable_written {s t : State} {table index : Nat} {d : List Byte}
    (h : s.writeTable table index d = some t) : t.mgt = { s.mgt with written := t.mgt.written } := by
  unfold State.writeTable at h
  split at h
  case h_7 => split at h <;> obtain ⟨v, -, rfl⟩ := Option.map_eq_some_iff.1 h <;> rfl
  case h_17 => cases h
  all_goals obtain ⟨v, -, rfl⟩ := Option.map_eq_some_iff.1 h; rfl

theorem bodyOf_mgtMoves (c : Instr) (s : State) : s.mgt.Moves c (bodyOf c s).state.mgt := by
  cases ordinary : governs c
  · exact .of_raised c (bodyOf_raises ordinary s).frame
  cases c
  case clearFaults => exact .of_raised _ rfl
  case enterConfig req =>
    simp only [bodyOf, State.doEnterConfig]
    split
    · exact .refl _ _
    · rw [answerOk, State.takeEnterConfig_mgt]
      exact ⟨fun _ => .inl ⟨req, rfl, rfl⟩, fun h => absurd rfl h, fun h => absurd rfl h⟩
  case writeEntry req =>
    obtain ⟨status, hb⟩ | ⟨t, -, -, -, written, hb⟩ := s.doWriteEntry_cases req <;> simp only [bodyOf, hb]
    · exact .refl _ _
    · have kept := State.writeTable_written written
      exact ⟨fun h => absurd (congrArg Management.config kept) h, fun h => absurd (congrArg Management.inForce kept) h,
        fun _ => ⟨req, rfl⟩⟩
  case commit req =>
    obtain hb | ⟨-, -, hb⟩ := s.doCommit_cases
    · exact (congrArg State.mgt hb).symm ▸ .refl _ _
    · simp only [bodyOf, hb]
      rw [answerOk, State.takeCommit_mgt]
      exact ⟨fun _ => .inr (.inl ⟨req, rfl, rfl⟩), fun _ => ⟨req, rfl⟩, fun h => absurd rfl h⟩
  case softReset req =>
    simp only [bodyOf]
    rw [answerOk, State.takeSoftReset_mgt]
    exact ⟨fun _ => .inr (.inr ⟨req, rfl, rfl⟩), fun h => absurd rfl h, fun h => absurd rfl h⟩
  case powerReset => exact .refl _ _
  all_goals cases ordinary

theorem run_mgtMoves {c : Instr} (notReset : ∀ straps, c ≠ .powerReset straps) (s : State) :
    s.mgt.Moves c (s.run c).mgt := by
  cases ordinary : governs c
  · exact .of_raised c (run_raises ordinary s).frame
  cases c
  case powerReset straps => exact absurd rfl (notReset straps)
  case clearFaults | enterConfig | writeEntry | commit | softReset =>
    exact run_request_mgt (P := s.mgt.Moves _) rfl rfl (.refl _ _) (bodyOf_mgtMoves _ (s.take _))
  all_goals cases ordinary

/-- Settles O57. -/
theorem configurationStates : Obligations.ConfigurationStates := by
  refine ⟨fun req s admitted => ?_, fun req s admitted => ?_, fun c s t notReset hrun => ?_⟩
  · dsimp only
    let u := s.take (.enterConfig req)
    refine ⟨fun config => exec_admitted_refuse rfl rfl admitted (Nat.zero_le _) (if_pos config), fun mode => ?_⟩
    refine ⟨_, exec_admitted_body (c := .enterConfig req) rfl rfl admitted (Nat.zero_le _) (if_neg mode),
      fun off => ?_, fun on => ?_, ?_, ?_⟩
    · change u.takeEnterConfig.cal = _
      rw [State.takeEnterConfig_cal, State.endRunByConfig_off (s := u) off]
      rfl
    · change u.takeEnterConfig.cal = _
      rw [State.takeEnterConfig_cal, State.endRunByConfig_on (s := u) on]
      rfl
    · change u.takeEnterConfig.handed = _
      rw [State.takeEnterConfig_eq]
      rfl
    · rw [show (s.take (.enterConfig req)).takeEnterConfig = _ from State.takeEnterConfig_eq u]
      rfl
  · let u := s.take (.softReset req)
    refine ⟨_, exec_admitted_body (c := .softReset req) rfl rfl admitted (Nat.zero_le _) rfl, fun i => ?_, ?_, ?_⟩
    · change (u.takeSoftReset.time.timer i).running = false ∧ (u.takeSoftReset.time.timer i).left = 0 ∧
        (u.takeSoftReset.time.timer i).reload = 0
      rw [State.takeSoftReset_time]
      cases i <;> exact ⟨rfl, rfl, rfl⟩
    · change u.takeSoftReset.handed = _
      rw [State.takeSoftReset_eq]
      refine List.filter_congr fun c _ => ?_
      cases c
      case timerStart i reload start _ => exact outlivesReset_timerStart i reload start
      case timerStop i _ => exact outlivesReset_timerStop i
      all_goals rfl
    · rw [show (s.take (.softReset req)).takeSoftReset = _ from State.takeSoftReset_eq u]
      rfl
  · obtain rfl := eq_run_of_exec hrun
    obtain ⟨config, inForce, written⟩ := run_mgtMoves notReset s
    exact ⟨config, inForce, written⟩

end Sys2Proof.Machine
end

section
/-!
# The checks of COMMIT

The first failure that COMMIT finds is the first entry that fails (R184). Each step of COMMIT is compared with the
conditions of its chapter; the comparison of the orders is general.
-/

namespace Sys2Proof.Machine

open Sys2Proof

/-! ### The order of the steps -/

/-- A step of COMMIT: the table, its entries that are checked, and the check. -/
structure CommitStep where
  table : Nat
  count : Nat
  fails : Nat → Bool

def CommitStep.first (x : CommitStep) : Option (Nat × Nat) := firstFailure x.table x.count x.fails

/-- The steps of COMMIT that can fail, in their order (R184). -/
def State.commitSteps (s : State) : List CommitStep :=
  [ ⟨1, 1, fun _ => !(hasGroup s.mgt.written.mp .config || hasGroup s.mgt.written.dp .config)⟩,
    ⟨2, 24, fun i => (s.sig.matchTable[i]?).any MatchEntry.fails⟩,
    ⟨4, 7, fun i => (allRoles[i]?).any s.roleFails⟩,
    ⟨5, 16, s.sig.keyFails⟩,
    ⟨6, 48, s.acq.wordFails⟩,
    ⟨7, 2, fun i => s.acq.setupFails (queueOf i)⟩,
    ⟨9, 1, fun _ => !s.weigh.params.commits s.trk.params.thetaDig s.trk.params.thetaCarry⟩,
    ⟨10, 1, fun _ => !s.trk.params.commits⟩,
    ⟨11, 1, fun _ => !s.acc.params.commits⟩,
    ⟨13, 16, fun i => (s.rep.overlay[i]?).any OverlayEntry.fails⟩,
    ⟨14, 10, s.routeFails⟩ ]

theorem State.commitFailure_eq (s : State) : s.commitFailure = (s.commitSteps.map CommitStep.first).findSome? id := by
  simp only [State.commitSteps, List.map_cons, List.map_nil, CommitStep.first, State.commitFailure]

theorem State.commitSteps_ascending (s : State) : s.commitSteps.Pairwise fun x y => x.table < y.table := by
  simp [State.commitSteps]

theorem firstFailure_eq_some {table n t i : Nat} {fails : Nat → Bool} (h : firstFailure table n fails = some (t, i)) :
    t = table ∧ i < n ∧ fails i = true ∧ ∀ j < i, fails j = false := by
  obtain ⟨k, found, same⟩ := Option.map_eq_some_iff.1 h
  cases same
  obtain ⟨fails, member, before⟩ := List.find?_range_eq_some.1 found
  exact ⟨rfl, List.mem_range.1 member, fails, by simpa using before⟩

/-- An entry fails one of the steps. -/
def StepFails (steps : List CommitStep) (t i : Nat) : Prop :=
  ∃ x ∈ steps, x.table = t ∧ i < x.count ∧ x.fails i = true

theorem findSome_first_none {steps : List CommitStep} (h : (steps.map CommitStep.first).findSome? id = none)
    (t i : Nat) :
    ¬ StepFails steps t i := by
  rintro ⟨x, member, -, low, fails⟩
  have none : x.first = none := by
    rw [List.findSome?_eq_none_iff] at h
    exact h _ (List.mem_map_of_mem member)
  rw [firstFailure_eq_none.1 none i low] at fails
  cases fails

theorem findSome_first_some {steps : List CommitStep} (ascending : steps.Pairwise fun x y => x.table < y.table)
    {t i : Nat}
    (h : (steps.map CommitStep.first).findSome? id = some (t, i)) :
    StepFails steps t i ∧ ∀ t' i', StepFails steps t' i' → t < t' ∨ t = t' ∧ i ≤ i' := by
  induction steps with
  | nil => cases h
  | cons x rest ih =>
    obtain ⟨above, ascending⟩ := List.pairwise_cons.1 ascending
    rw [List.map_cons, List.findSome?_cons] at h
    cases first : x.first with
    | some r =>
      rw [id, first] at h
      cases h
      obtain ⟨rfl, low, fails, before⟩ := firstFailure_eq_some first
      refine ⟨⟨x, List.mem_cons_self, rfl, low, fails⟩, ?_⟩
      rintro t' i' ⟨y, member, rfl, low', fails'⟩
      obtain rfl | member := List.mem_cons.1 member
      · refine .inr ⟨rfl, Nat.le_of_not_lt fun less => ?_⟩
        rw [before i' less] at fails'
        cases fails'
      · exact .inl (above y member)
    | none =>
      rw [id, first] at h
      obtain ⟨⟨y, member, table, low, fails⟩, least⟩ := ih ascending h
      refine ⟨⟨y, List.mem_cons_of_mem _ member, table, low, fails⟩, ?_⟩
      rintro t' i' ⟨z, member', table', low', fails'⟩
      obtain rfl | member' := List.mem_cons.1 member'
      · rw [firstFailure_eq_none.1 first i' low'] at fails'
        cases fails'
      · exact least t' i' ⟨z, member', table', low', fails'⟩

/-! ### The MATCH step (R37) -/

theorem FieldDesc.tooLong_iff (f : FieldDesc) : f.tooLong = true ↔ 60 < f.offset + f.width.bytes := decide_eq_true_iff

theorem MatchEntry.fails_extract {e : MatchEntry} {fields : List (FieldDesc × Fin 32)}
    (h : e.action = .extract fields) :
    e.fails = true ↔
      e.enable = true ∧ ((fields = [] ∨ 3 < fields.length) ∨ ∃ f ∈ e.action.descriptors, f.tooLong = true) := by
  unfold MatchEntry.fails
  rw [h]
  simp [MatchAction.descriptors]

theorem MatchEntry.fails_target {e : MatchEntry} {id : FieldDesc} {capacity departure : Option FieldDesc}
    (h : e.action = .target id capacity departure) :
    e.fails = true ↔
      e.enable = true ∧
        ((∃ f ∈ e.action.descriptors, f.tooLong = true) ∨ ∃ d, departure = some d ∧ d.width ≠ .bit) := by
  unfold MatchEntry.fails
  rw [h]
  simp [MatchAction.descriptors, or_assoc, Option.any_eq_true, or_and_right, exists_or]

theorem MatchEntry.fails_page {e : MatchEntry} {set : Nat} (h : e.action = .page set) :
    e.fails = true ↔ e.enable = true ∧ (e.direction ≠ .fromMp ∨ e.consume = true) := by
  unfold MatchEntry.fails
  rw [h]
  simp

theorem MatchEntry.fails_key {e : MatchEntry} {offset : Nat} (h : e.action = .key offset) : e.fails = false := by
  unfold MatchEntry.fails
  rw [h]
  exact Bool.and_false _

theorem MatchEntry.fails_tooLong {e : MatchEntry} {f : FieldDesc} (enabled : e.enable = true)
    (member : f ∈ e.action.descriptors) (long : f.tooLong = true) : e.fails = true := by
  cases action : e.action with
  | extract fields => exact (MatchEntry.fails_extract action).2 ⟨enabled, .inr ⟨f, member, long⟩⟩
  | key offset =>
    rw [action] at member
    cases member
  | target id capacity departure => exact (MatchEntry.fails_target action).2 ⟨enabled, .inl ⟨f, member, long⟩⟩
  | page set =>
    rw [action] at member
    cases member

theorem State.entryFails_of_match {s : State} {n : Nat} {e : MatchEntry} (entry : s.sig.matchTable[n]? = some e)
    (fails : e.fails = true) : s.EntryFails 2 n := by
  have long : e.enable = true → (∃ f ∈ e.action.descriptors, f.tooLong = true) → s.EntryFails 2 n :=
    fun enabled ⟨f, member, long⟩ => .fieldFits n e f entry enabled member ((FieldDesc.tooLong_iff f).1 long)
  cases action : e.action with
  | extract fields =>
    obtain ⟨enabled, count | tooLong⟩ := (MatchEntry.fails_extract action).1 fails
    · exact .fieldCount n e fields entry enabled action count
    · exact long enabled tooLong
  | key offset =>
    rw [MatchEntry.fails_key action] at fails
    cases fails
  | target id capacity departure =>
    obtain ⟨enabled, tooLong | ⟨d, some, wide⟩⟩ := (MatchEntry.fails_target action).1 fails
    · exact long enabled tooLong
    · exact .departure n e id d capacity entry enabled (some ▸ action) wide
  | page set =>
    obtain ⟨enabled, wrong⟩ := (MatchEntry.fails_page action).1 fails
    exact .page n e set entry enabled action wrong

/-! ### The ROLE step (R43) -/

theorem getElem?_allRoles (r : Role) : allRoles[roleIndex r]? = some r := by cases r <;> rfl

theorem roleIndex_of_getElem? {n : Nat} {r : Role} (h : allRoles[n]? = some r) : roleIndex r = n :=
  (List.getElem?_inj (by cases r <;> decide) (by decide)).1 ((getElem?_allRoles r).trans h.symm)

theorem requiredRole_iff {n : Nat} {r : Role} (h : allRoles[n]? = some r) :
    requiredRole r = true ↔ [Role.headP, .rodP, .boom, .tilt][n]? = some r := by
  obtain rfl := roleIndex_of_getElem? h
  cases r <;> decide

theorem getElem?_allRoles_of_required {n : Nat} {r : Role} (h : [Role.headP, .rodP, .boom, .tilt][n]? = some r) :
    allRoles[n]? = some r := by
  match n with
  | 0 => exact h
  | 1 => exact h
  | 2 => exact h
  | 3 => exact h
  | n + 4 => cases h

theorem MatchEntry.feeds_iff (slot : Fin 32) (e : MatchEntry) :
    e.feeds slot = true ↔ ∃ fields, e.enable = true ∧ e.action = .extract fields ∧ ∃ f ∈ fields, f.2 = slot := by
  unfold MatchEntry.feeds
  cases action : e.action <;> simp

theorem State.hasSource_eq_false_iff (s : State) (slot : Fin 32) :
    s.hasSource slot = false ↔
      (∀ e ∈ s.sig.matchTable.toList, ∀ fields, e.enable = true → e.action = .extract fields →
        ∀ f ∈ fields, f.2 ≠ slot) ∧
      (∀ w ∈ s.acq.words.toList, w.channel ≠ none → w.dest ≠ some slot) := by
  unfold State.hasSource
  simp only [Bool.or_eq_false_iff, List.any_eq_false, MatchEntry.feeds_iff]
  refine and_congr (forall₂_congr fun e _ => ?_) (forall₂_congr fun w _ => ?_)
  · exact ⟨fun h fields enabled action f member same => h ⟨fields, enabled, action, f, member, same⟩,
      fun h ⟨fields, enabled, action, f, member, same⟩ => h fields enabled action f member same⟩
  · simp [Option.isSome_iff_ne_none]

theorem mem_take_iff_getElem? {α : Type} {l : List α} {n : Nat} {x : α} : x ∈ l.take n ↔ ∃ m < n, l[m]? = some x := by
  simp only [List.mem_iff_getElem?, List.getElem?_take]
  refine exists_congr fun m => ?_
  by_cases below : m < n <;> simp [below]

theorem State.entryFails_of_role {s : State} {n : Nat} {r : Role} (role : allRoles[n]? = some r)
    (fails : s.roleFails r = true) : s.EntryFails 4 n := by
  unfold State.roleFails at fails
  split at fails
  next unmapped => exact .unmapped n r ((requiredRole_iff role).1 fails) unmapped
  next slot mapped =>
    obtain shared | unfed := Bool.or_eq_true_iff.1 fails
    · obtain ⟨q, member, same⟩ := List.any_eq_true.1 shared
      rw [roleIndex_of_getElem? role] at member
      obtain ⟨m, below, other⟩ := mem_take_iff_getElem?.1 member
      exact .sharedSlot n m r q slot role other below mapped (by simpa using same)
    · obtain ⟨required, source⟩ := Bool.and_eq_true_iff.1 unfed
      obtain ⟨fields, words⟩ := (State.hasSource_eq_false_iff s slot).1 (by simpa using source)
      exact .unfed n r slot ((requiredRole_iff role).1 required) mapped fields words

theorem State.roleFails_unmapped {s : State} {r : Role} (unmapped : s.sig.slotOf r = none)
    (required : requiredRole r = true) :
    s.roleFails r = true := by
  unfold State.roleFails
  rw [unmapped]
  exact required

theorem State.roleFails_mapped {s : State} {r : Role} {slot : Fin 32} (mapped : s.sig.slotOf r = some slot)
    (h : (∃ q ∈ allRoles.take (roleIndex r), s.sig.slotOf q = some slot) ∨
      requiredRole r = true ∧ s.hasSource slot = false) : s.roleFails r = true := by
  unfold State.roleFails
  rw [mapped]
  obtain ⟨q, member, same⟩ | ⟨required, source⟩ := h
  · exact Bool.or_eq_true_iff.2 (.inl (List.any_eq_true.2 ⟨q, member, by simp [same]⟩))
  · exact Bool.or_eq_true_iff.2 (.inr (by simp [required, source]))

/-! ### The KEY, SAMPLE and QUEUE steps -/

theorem Signals.keyFails_iff (g : Signals) (n : Nat) :
    g.keyFails n = true ↔
      ∃ m e x, g.keyMap[n]? = some e ∧ g.keyMap[m]? = some x ∧ m < n ∧ e.inUse = true ∧ x.inUse = true ∧
        x.raw = e.raw := by
  unfold Signals.keyFails
  cases entry : g.keyMap[n]? with
  | none => simp
  | some e =>
    simp only [Bool.and_eq_true, List.any_eq_true, beq_iff_eq, mem_take_iff_getElem?, Vector.getElem?_toList,
      Option.some.injEq]
    constructor
    · rintro ⟨inUse, x, ⟨m, below, other⟩, inUse', raw⟩
      exact ⟨m, e, x, rfl, other, below, inUse, inUse', raw⟩
    · rintro ⟨m, _, x, rfl, other, below, inUse, inUse', raw⟩
      exact ⟨inUse, x, ⟨m, below, other⟩, inUse', raw⟩

theorem Acquisition.word_of_getElem? {a : Acquisition} {n : Nat} {w : SampleWord} (h : a.words[n]? = some w) :
    a.word n = w := by
  rw [Acquisition.word, h]
  rfl

theorem Acquisition.getElem?_word (a : Acquisition) {n : Nat} (h : n < 48) : a.words[n]? = some (a.word n) := by
  rw [Acquisition.word, Vector.getElem?_eq_getElem h]
  rfl

theorem Acquisition.wordFails_iff (a : Acquisition) {n : Nat} (low : n < 48) :
    a.wordFails n = true ↔
      ∃ m w v, a.words[n]? = some w ∧ a.words[m]? = some v ∧ m < n ∧ (n < a.boundary ∨ a.boundary ≤ m) ∧
        w.channel ≠ none ∧ v.channel = none := by
  have first : ∀ m, (if n < a.boundary then 0 else a.boundary) ≤ m ↔ n < a.boundary ∨ a.boundary ≤ m := by
    intro m
    split <;> omega
  unfold Acquisition.wordFails
  simp only [Bool.and_eq_true, List.any_eq_true, List.mem_range, decide_eq_true_eq, first, Option.isSome_iff_ne_none,
    Option.isNone_iff_eq_none]
  constructor
  · rintro ⟨used, m, below, range, unused⟩
    exact ⟨m, _, _, a.getElem?_word low, a.getElem?_word (by omega), below, range, used, unused⟩
  · rintro ⟨m, w, v, word, lower, below, range, used, unused⟩
    rw [Acquisition.word_of_getElem? word]
    exact ⟨used, m, below, range, by rw [Acquisition.word_of_getElem? lower]; exact unused⟩

theorem Acquisition.setupFails_iff (a : Acquisition) (q : QueueId) :
    a.setupFails q = true ↔
      ((a.setup.get q).mode ≠ .off ∧ (a.word (a.firstWord q)).channel = none) ∨
        (a.setup.get q).arm = true ∧ (a.setup.get q).mode = .off := by
  simp [Acquisition.setupFails]

theorem queueOf_of_getElem? {n : Nat} {q : QueueId} (h : [QueueId.fast, .slow][n]? = some q) :
    n < 2 ∧ queueOf n = q := by
  match n with
  | 0 => exact ⟨by decide, Option.some.inj h⟩
  | 1 => exact ⟨by decide, Option.some.inj h⟩
  | n + 2 => cases h

theorem getElem?_queueOf {n : Nat} (h : n < 2) : [QueueId.fast, .slow][n]? = some (queueOf n) := by
  match n with
  | 0 => rfl
  | 1 => rfl

/-! ### The PERMIT, WEIGH, CYCLE, ACCOUNT, OVERLAY and ROUTE steps -/

theorem CycleRecord.commits_iff (k : CycleRecord) :
    k.commits = true ↔ k.thetaDig < k.thetaCarry ∧ 1 ≤ k.pDig ∧ k.pDig ≤ 60000 := by
  simp only [CycleRecord.commits, inRange, Bool.and_eq_true, decide_eq_true_eq]
  omega

theorem AccountRecord.commits_iff (p : AccountRecord) :
    p.commits = true ↔ 80 ≤ p.full ∧ p.full ≤ 100 ∧ p.tolerance ≤ 20 := by
  simp only [AccountRecord.commits, inRange, Bool.and_eq_true, decide_eq_true_eq]
  omega

theorem OverlayEntry.fails_iff (e : OverlayEntry) : e.fails = true ↔ e.enable = true ∧ 60 < e.offset + e.width := by
  simp only [OverlayEntry.fails, Bool.and_eq_true, decide_eq_true_eq]
  rfl

/-- Every place of the route list is that of a report kind. -/
theorem route_of_getElem? {r : Reports} {n : Nat} {x : Route} (h : r.routes[n]? = some x) : ∃ k, r.route k = x := by
  have below : n < reportKinds.length := (Vector.getElem?_eq_some_iff.1 h).1
  refine ⟨reportKinds[n], ?_⟩
  rw [Reports.route, codeIn_of_getElem? (by decide) (List.getElem?_eq_getElem below), h]
  rfl

theorem route_mem (r : Reports) (k : ReportKind) : r.route k ∈ r.routes.toList := by
  have below : codeIn reportKinds k < 8 := by cases k <;> decide
  rw [Reports.route, Vector.getElem?_eq_getElem below]
  simp

theorem Reports.routesTo_iff (s : State) (p : Port) : s.rep.routesTo p = true ↔ ∃ k, s.routes k p := by
  unfold Reports.routesTo
  simp only [List.any_eq_true, List.contains_iff_mem, ← State.routes_iff]
  constructor
  · rintro ⟨x, member, names⟩
    obtain ⟨n, place⟩ := List.mem_iff_getElem?.1 member
    obtain ⟨k, rfl⟩ := route_of_getElem? (Vector.getElem?_toList.symm.trans place)
    exact ⟨k, names⟩
  · rintro ⟨k, names⟩
    exact ⟨_, route_mem s.rep k, names⟩

theorem State.routeFails_iff (s : State) {n : Nat} (low : n < 10) :
    s.routeFails n = true ↔
      ∃ p k, ((n, p) = (8, Port.mp) ∨ (n, p) = (9, Port.dp)) ∧ s.routes k p ∧ s.rep.nodes.get p = s.link.node := by
  unfold State.routeFails
  simp only [Bool.and_eq_true, decide_eq_true_eq, beq_iff_eq, Reports.routesTo_iff]
  constructor
  · rintro ⟨⟨high, k, routes⟩, own⟩
    refine ⟨portOf (n - 8), k, ?_, routes, own⟩
    obtain rfl | rfl : n = 8 ∨ n = 9 := by omega
    · exact .inl rfl
    · exact .inr rfl
  · rintro ⟨p, k, place | place, routes, own⟩
    all_goals
      cases place
      exact ⟨⟨by decide, k, routes⟩, own⟩

/-! ### Every step -/

theorem stepFails_at {steps : List CommitStep} (k : Nat) {x : CommitStep} (place : steps[k]? = some x) {t n : Nat}
    (table : x.table = t) (low : n < x.count) (fails : x.fails n = true) : StepFails steps t n :=
  ⟨x, List.mem_of_getElem? place, table, low, fails⟩

theorem State.EntryFails.stepFails {s : State} {t n : Nat} (h : s.EntryFails t n) : StepFails s.commitSteps t n := by
  have matching : ∀ {n e}, s.sig.matchTable[n]? = some e → e.fails = true → StepFails s.commitSteps 2 n :=
    fun entry fails => stepFails_at 1 rfl rfl (Vector.getElem?_eq_some_iff.1 entry).1 (by simp [entry, fails])
  have role : ∀ {n r}, allRoles[n]? = some r → s.roleFails r = true → StepFails s.commitSteps 4 n :=
    fun role fails => stepFails_at 2 rfl rfl (List.getElem?_eq_some_iff.1 role).1 (by simp [role, fails])
  cases h with
  | permit denied =>
    have mp : hasGroup s.mgt.written.mp .config = false := denied .mp
    have dp : hasGroup s.mgt.written.dp .config = false := denied .dp
    exact stepFails_at 0 rfl rfl Nat.one_pos (by simp [mp, dp])
  | fieldCount n e fields entry enabled action count =>
    exact matching entry ((MatchEntry.fails_extract action).2 ⟨enabled, .inl count⟩)
  | fieldFits n e f entry enabled member long =>
    exact matching entry (MatchEntry.fails_tooLong enabled member ((FieldDesc.tooLong_iff f).2 long))
  | departure n e id d capacity entry enabled action wide =>
    exact matching entry ((MatchEntry.fails_target action).2 ⟨enabled, .inr ⟨d, rfl, wide⟩⟩)
  | page n e set entry enabled action wrong =>
    exact matching entry ((MatchEntry.fails_page action).2 ⟨enabled, wrong⟩)
  | unmapped n r required unmapped =>
    have place := getElem?_allRoles_of_required required
    exact role place (State.roleFails_unmapped unmapped ((requiredRole_iff place).2 required))
  | sharedSlot n m r q slot place other below mapped shared =>
    refine role place (State.roleFails_mapped mapped (.inl ⟨q, ?_, shared⟩))
    rw [roleIndex_of_getElem? place]
    exact mem_take_iff_getElem?.2 ⟨m, below, other⟩
  | unfed n r slot required mapped fields words =>
    have place := getElem?_allRoles_of_required required
    exact role place (State.roleFails_mapped mapped
      (.inr ⟨(requiredRole_iff place).2 required, (State.hasSource_eq_false_iff s slot).2 ⟨fields, words⟩⟩))
  | sharedKey n m e x entry other below inUse inUse' raw =>
    exact stepFails_at 3 rfl rfl (Vector.getElem?_eq_some_iff.1 entry).1
      ((Signals.keyFails_iff _ n).2 ⟨m, e, x, entry, other, below, inUse, inUse', raw⟩)
  | unreachable n m w v word lower below range used unused =>
    have low := (Vector.getElem?_eq_some_iff.1 word).1
    exact stepFails_at 4 rfl rfl low
      ((Acquisition.wordFails_iff _ low).2 ⟨m, w, v, word, lower, below, range, used, unused⟩)
  | firstUnused n q place on unused =>
    obtain ⟨low, rfl⟩ := queueOf_of_getElem? place
    exact stepFails_at 5 rfl rfl low ((Acquisition.setupFails_iff _ _).2 (.inl ⟨on, unused⟩))
  | armOff n q place arm off =>
    obtain ⟨low, rfl⟩ := queueOf_of_getElem? place
    exact stepFails_at 5 rfl rfl low ((Acquisition.setupFails_iff _ _).2 (.inr ⟨arm, off⟩))
  | weigh idle =>
    exact stepFails_at 6 rfl rfl Nat.one_pos (by simpa [← WeighRecord.commits_iff] using idle)
  | cycle idle =>
    exact stepFails_at 7 rfl rfl Nat.one_pos (by simpa [← CycleRecord.commits_iff] using idle)
  | account idle =>
    exact stepFails_at 8 rfl rfl Nat.one_pos (by simpa [← AccountRecord.commits_iff] using idle)
  | overlay n e entry enabled long =>
    exact stepFails_at 9 rfl rfl (Vector.getElem?_eq_some_iff.1 entry).1
      (by simpa [entry] using (OverlayEntry.fails_iff e).2 ⟨enabled, long⟩)
  | node n p k place routes own =>
    have low : n < 10 := by obtain place | place := place <;> cases place <;> decide
    exact stepFails_at 10 rfl rfl low ((State.routeFails_iff s low).2 ⟨p, k, place, routes, own⟩)

theorem StepFails.entryFails {s : State} {t n : Nat} (h : StepFails s.commitSteps t n) : s.EntryFails t n := by
  obtain ⟨x, member, rfl, low, fails⟩ := h
  simp only [State.commitSteps, List.mem_cons, List.not_mem_nil, or_false] at member
  obtain rfl | rfl | rfl | rfl | rfl | rfl | rfl | rfl | rfl | rfl | rfl := member
  all_goals dsimp only at low fails ⊢
  · obtain rfl := Nat.lt_one_iff.1 low
    simp only [Bool.not_eq_true', Bool.or_eq_false_iff] at fails
    exact .permit fun p => by cases p <;> simp [PerPort.get, fails]
  · obtain ⟨e, entry, fails⟩ := Option.any_eq_true _ _ |>.mp fails
    exact State.entryFails_of_match entry fails
  · obtain ⟨r, role, fails⟩ := Option.any_eq_true _ _ |>.mp fails
    exact State.entryFails_of_role role fails
  · obtain ⟨m, e, x, entry, other, below, inUse, inUse', raw⟩ := (Signals.keyFails_iff _ n).1 fails
    exact .sharedKey n m e x entry other below inUse inUse' raw
  · obtain ⟨m, w, v, word, lower, below, range, used, unused⟩ := (Acquisition.wordFails_iff _ low).1 fails
    exact .unreachable n m w v word lower below range used unused
  · obtain ⟨on, unused⟩ | ⟨arm, off⟩ := (Acquisition.setupFails_iff _ _).1 fails
    · exact .firstUnused n _ (getElem?_queueOf low) on unused
    · exact .armOff n _ (getElem?_queueOf low) arm off
  · obtain rfl := Nat.lt_one_iff.1 low
    exact .weigh (by simpa [← WeighRecord.commits_iff] using fails)
  · obtain rfl := Nat.lt_one_iff.1 low
    exact .cycle (by simpa [← CycleRecord.commits_iff] using fails)
  · obtain rfl := Nat.lt_one_iff.1 low
    exact .account (by simpa [← AccountRecord.commits_iff] using fails)
  · obtain ⟨e, entry, fails⟩ := Option.any_eq_true _ _ |>.mp fails
    obtain ⟨enabled, long⟩ := (OverlayEntry.fails_iff e).1 fails
    exact .overlay n e entry enabled long
  · obtain ⟨p, k, place, routes, own⟩ := (State.routeFails_iff s low).1 fails
    exact .node n p k place routes own

theorem State.entryFails_iff (s : State) (t n : Nat) : s.EntryFails t n ↔ StepFails s.commitSteps t n :=
  ⟨State.EntryFails.stepFails, StepFails.entryFails⟩

/-! ### The first failure -/

/-- The failure that COMMIT finds is the first entry that fails. -/
theorem State.firstFailing_of_commitFailure {s : State} {t n : Nat} (h : s.commitFailure = some (t, n)) :
    s.firstFailing t n := by
  obtain ⟨fails, least⟩ := findSome_first_some s.commitSteps_ascending (s.commitFailure_eq.symm.trans h)
  exact ⟨fails.entryFails, fun t' n' fails' => least t' n' fails'.stepFails⟩

theorem State.not_entryFails_of_commitFailure {s : State} (h : s.commitFailure = none) (t n : Nat) :
    ¬ s.EntryFails t n :=
  fun fails => findSome_first_none (s.commitFailure_eq.symm.trans h) t n fails.stepFails

theorem State.firstFailing_unique {s : State} {t n t' n' : Nat} (h : s.firstFailing t n) (h' : s.firstFailing t' n') :
    (t, n) = (t', n') := by
  have le := h.2 t' n' h'.1
  have ge := h'.2 t n h.1
  have table : t = t' := by omega
  have index : n = n' := by omega
  rw [table, index]

theorem State.commitFailure_of_firstFailing {s : State} {t n : Nat} (h : s.firstFailing t n) :
    s.commitFailure = some (t, n) := by
  cases failure : s.commitFailure with
  | none => exact absurd h.1 (State.not_entryFails_of_commitFailure failure t n)
  | some x => rw [State.firstFailing_unique h (State.firstFailing_of_commitFailure failure)]

theorem State.exists_firstFailing {s : State} (h : ∃ t n, s.EntryFails t n) : ∃ t n, s.firstFailing t n := by
  obtain ⟨t, n, fails⟩ := h
  cases failure : s.commitFailure with
  | none => exact absurd fails (State.not_entryFails_of_commitFailure failure t n)
  | some x => exact ⟨_, _, State.firstFailing_of_commitFailure failure⟩

theorem State.commitFailure_of_passes {s : State} (h : ∀ t n, ¬ s.EntryFails t n) : s.commitFailure = none := by
  cases failure : s.commitFailure with
  | none => rfl
  | some x => exact absurd (State.firstFailing_of_commitFailure failure).1 (h _ _)

end Sys2Proof.Machine
end

section
/-!
# COMMIT taken

What a COMMIT that no entry fails makes of every block (R184; O31).
-/

namespace Sys2Proof.Machine

open Sys2Proof

/-! ### Load accounting at a COMMIT (R148, R167) -/

theorem Accounts.stateReport_congr {a a' b b' : Accounts} {i : Fin 4} (before : a.slot i = a'.slot i)
    (after : b.slot i = b'.slot i) (pointer : b.pointer = b'.pointer) : a.stateReport b i = a'.stateReport b' i := by
  simp only [Accounts.stateReport, Accounts.report, Accounts.figures, before, after, pointer]

theorem State.commitSlot_handed (s : State) (i : Fin 4) :
    (s.commitSlot i).handed = s.handed ++ s.acc.stateReport (s.commitSlot i).acc i := by
  unfold State.commitSlot Accounts.stateReport
  dsimp only
  by_cases held : (s.acc.slot i).held = true
  · rw [if_pos held]
    by_cases same : (s.acc.slot i).state =
        ((s.onAcc fun a => a.setSlot i fun t => t.evaluate a.params).acc.slot i).state
    · rw [if_pos same, if_pos same]
      exact (List.append_nil _).symm
    · rw [if_neg same]
      exact congrArg (s.handed ++ ·) (if_neg same).symm
  · rw [if_neg held, if_pos rfl]
    exact (List.append_nil _).symm

theorem State.commitSlot_slots (s : State) (i : Fin 4) :
    (s.commitSlot i).acc = { s.acc with slots := (s.commitSlot i).acc.slots } := by
  rw [State.commitSlot_acc]
  split <;> rfl

theorem foldl_commitSlot_slots (is : List (Fin 4)) (s : State) :
    (is.foldl State.commitSlot s).acc = { s.acc with slots := (is.foldl State.commitSlot s).acc.slots } := by
  induction is generalizing s with
  | nil => rfl
  | cons i is ih =>
    have step := ih (s.commitSlot i)
    rw [List.foldl_cons]
    generalize is.foldl State.commitSlot (s.commitSlot i) = t at step ⊢
    rw [State.commitSlot_slots] at step
    exact step

/-- The STATE reports of a COMMIT, slot by slot, with the figures after the request (log 21). -/
theorem foldl_commitSlot_handed (is : List (Fin 4)) (distinct : is.Nodup) (s : State) :
    (is.foldl State.commitSlot s).handed =
      s.handed ++ is.flatMap fun i => s.acc.stateReport (is.foldl State.commitSlot s).acc i := by
  induction is generalizing s with
  | nil => exact (List.append_nil _).symm
  | cons i is ih =>
    obtain ⟨fresh, rest⟩ := List.nodup_cons.1 distinct
    obtain ⟨-, -, slots⟩ := State.foldl_commitSlot is rest (s.commitSlot i)
    have pointer : (is.foldl State.commitSlot (s.commitSlot i)).acc.pointer = (s.commitSlot i).acc.pointer := by
      rw [foldl_commitSlot_slots]
    have head : s.acc.stateReport (is.foldl State.commitSlot (s.commitSlot i)).acc i =
        s.acc.stateReport (s.commitSlot i).acc i :=
      Accounts.stateReport_congr rfl ((slots i).trans (if_neg fresh)) pointer
    rw [List.foldl_cons, List.flatMap_cons, ih rest, State.commitSlot_handed, head, List.append_assoc]
    refine congrArg (fun l => s.handed ++ (s.acc.stateReport (s.commitSlot i).acc i ++ l)) ?_
    rw [List.flatMap_def, List.flatMap_def]
    refine congrArg List.flatten (List.map_congr_left fun j member => Accounts.stateReport_congr ?_ rfl rfl)
    rw [State.commitSlot_slot, if_neg (ne_of_mem_of_not_mem member fresh)]

theorem State.commitAccounts_handed (s : State) :
    s.commitAccounts.handed = s.handed ++ s.acc.stateReport s.commitAccounts.acc 0 ++
      s.acc.stateReport s.commitAccounts.acc 1 ++ s.acc.stateReport s.commitAccounts.acc 2 ++
      s.acc.stateReport s.commitAccounts.acc 3 := by
  have fold := foldl_commitSlot_handed allSlots (by decide) s
  unfold State.commitAccounts
  generalize allSlots.foldl State.commitSlot s = u at fold ⊢
  have reports : ∀ i, s.acc.stateReport u.acc i = s.acc.stateReport u.evalAhead.acc i := fun i =>
    Accounts.stateReport_congr rfl rfl rfl
  refine (show u.evalAhead.handed = u.handed from rfl).trans (fold.trans ?_)
  simp only [allSlots, List.flatMap_cons, List.flatMap_nil, List.append_nil, List.append_assoc, reports]

theorem State.commitAccounts_acc (s : State) :
    s.commitAccounts.acc = { s.acc with
      slots := s.commitAccounts.acc.slots, overloadAhead := s.commitAccounts.acc.overloadAhead } := by
  have fold := foldl_commitSlot_slots allSlots s
  unfold State.commitAccounts
  generalize allSlots.foldl State.commitSlot s = u at fold ⊢
  rw [State.evalAhead, State.setAhead, State.onAcc]
  dsimp only
  rw [fold]

/-! ### The queues and the timers at a COMMIT (R70, R78) -/

theorem Acquisition.commit_eq (a : Acquisition) :
    a.commit =
      let armed := fun q => { a.queue q with
        state := if a.released = false ∧ (a.setup.get q).arm = true then .idle else .off
        position := a.firstWord q
        subStart := a.firstWord q }
      { a with queues := ⟨armed .fast, armed .slow⟩, conversion := none } := by
  obtain ⟨words, boundary, results, ⟨⟨mode, trigger, fast, resume⟩, ⟨mode', trigger', slow, resume'⟩⟩, queues,
    conversion,
    released, freeReads⟩ := a
  cases released <;> cases fast <;> cases slow <;> rfl

theorem commitTimer_eq (t : Timer) (i : TimerId) (r : Nat) (milliseconds : timerUnit i = 1000) :
    startTimer i (writeReload r t) = { t with reload := r, left := r * 1000, running := r != 0 } := by
  rw [startTimer_eq, writeReload, milliseconds]
  by_cases zero : r = 0
  · subst zero
    rfl
  · rw [if_neg zero]

theorem TimeBase.commit_eq (t : TimeBase) :
    t.commit =
      let started := fun (n : Fin 3) (v : Timer) =>
        { v with reload := t.timerTable[n], left := t.timerTable[n] * 1000, running := t.timerTable[n] != 0 }
      { t with timers := { t.timers with
        tf := started 0 t.timers.tf, ts := started 1 t.timers.ts, tr := started 2 t.timers.tr } } := by
  dsimp only
  rw [← commitTimer_eq t.timers.tf .tf _ rfl, ← commitTimer_eq t.timers.ts .ts _ rfl,
    ← commitTimer_eq t.timers.tr .tr _ rfl]
  rfl

/-! ### COMMIT -/

theorem State.takeCommit_fresh (s : State) : s.takeCommit.aheadFresh := State.evalAhead_fresh _

theorem State.takeCommit_handed (s : State) :
    s.takeCommit.handed = s.handed ++ s.acc.stateReport s.takeCommit.acc 0 ++ s.acc.stateReport s.takeCommit.acc 1 ++
      s.acc.stateReport s.takeCommit.acc 2 ++ s.acc.stateReport s.takeCommit.acc 3 := by
  rw [State.takeCommit_eq]
  exact s.committing.commitAccounts_handed

theorem State.takeCommit_acc (s : State) :
    s.takeCommit.acc = { s.acc with
      slots := s.takeCommit.acc.slots, overloadAhead := s.takeCommit.acc.overloadAhead } := by
  rw [State.takeCommit_eq]
  exact s.committing.commitAccounts_acc

/-- A target slot after a COMMIT: re-evaluated, unless it is FREE (R148, R167). -/
theorem Accounts.committed_cases (a : Accounts) (i : Fin 4) :
    ((a.slot i).state = .free → a.committed i = a.slot i) ∧
    ((a.slot i).state ≠ .free →
      a.committed i = { a.slot i with state := (a.committed i).state, overloaded := (a.committed i).overloaded } ∧
        (a.committed i).Evaluated a.params) := by
  refine ⟨fun free => if_neg ?_, fun held => ?_⟩
  · rw [(TargetSlot.held_eq_false_iff _).2 free]
    nofun
  · rw [Accounts.committed, if_pos ((TargetSlot.held_iff _).2 held)]
    exact ⟨rfl, TargetSlot.evaluate_evaluated _ _⟩

theorem Signals.commit_slot (g : Signals) (i : Fin 32) :
    g.commit.slots[i] = { g.slots[i] with fresh := .never, timer := none } := by
  simp [Signals.commit]

theorem State.doCommit_fails {s : State} {table index : Nat} (config : s.mgt.config = .config)
    (failure : s.commitFailure = some (table, index)) :
    s.doCommit = ⟨s, .invalidConfig, u8 table ++ u8 index⟩ := by
  rw [State.doCommit, if_neg (Classical.not_not.2 config), failure]

theorem State.doCommit_passes {s : State} (config : s.mgt.config = .config) (passes : s.commitFailure = none) :
    s.doCommit = answerOk s.takeCommit [] := by
  rw [State.doCommit, if_neg (Classical.not_not.2 config), passes]

theorem State.commitFailure_take (c : Instr) (s : State) : (s.take c).commitFailure = s.commitFailure := by
  have steps : (s.take c).commitSteps = s.commitSteps := rfl
  rw [State.commitFailure_eq, State.commitFailure_eq, steps]

/-- The state after a COMMIT that no entry fails, and its answer. -/
def State.committed (req : Request) (s : State) : State := (s.take (.commit req)).takeCommit.respond req .ok []

theorem exec_commit_passes {req : Request} {s : State} (admitted : s.admits .config req)
    (config : s.mgt.config = .config)
    (passes : s.commitFailure = none) : exec (.commit req) s = .next (s.committed req) :=
  exec_admitted_body (c := .commit req) rfl rfl admitted (Nat.zero_le _)
    (State.doCommit_passes (s := s.take (.commit req)) config ((State.commitFailure_take _ s).trans passes))

theorem State.respond_handed (req : Request) (status : Status) (data : List Byte) (s : State) :
    (s.respond req status data).handed = s.handed := rfl

theorem State.respond_acc (req : Request) (status : Status) (data : List Byte) (s : State) :
    (s.respond req status data).acc = s.acc := rfl

theorem State.committed_acc (req : Request) (s : State) :
    (s.committed req).acc = (s.take (.commit req)).takeCommit.acc :=
  State.respond_acc ..

theorem State.committed_handed (req : Request) (s : State) :
    (s.committed req).handed = (s.take (.commit req)).takeCommit.handed :=
  State.respond_handed ..

theorem State.respond_aheadFresh {s : State} (h : s.aheadFresh) (req : Request) (status : Status) (data : List Byte) :
    (s.respond req status data).aheadFresh := h

theorem State.committed_eq (req : Request) (s : State) :
    s.committed req = { (s.take (.commit req)).committing with
      link := { s.link.answered req .ok [] with gapInUse := s.link.gapEntry }
      acc := (s.committed req).acc
      handed := (s.committed req).handed } := by
  have kept := State.takeCommit_committing (s.take (.commit req))
  unfold State.committed
  generalize (s.take (.commit req)).takeCommit = t at kept ⊢
  rw [kept]
  rfl

theorem State.committed_slots (req : Request) (s : State) :
    (s.committed req).acc = { s.acc with
      slots := (s.committed req).acc.slots, overloadAhead := (s.committed req).acc.overloadAhead } := by
  rw [State.committed_acc]
  exact State.takeCommit_acc (s.take (.commit req))

/-- Settles O31. -/
theorem commitTaken : Obligations.CommitTaken := by
  intro req s admitted
  dsimp only
  refine ⟨fun other => exec_admitted_refuse rfl rfl admitted (Nat.zero_le _) (if_pos other),
    fun table index config first => exec_admitted_refuse rfl rfl admitted (Nat.zero_le _)
      (State.doCommit_fails (s := s.take (.commit req)) config
        ((State.commitFailure_take _ s).trans (State.commitFailure_of_firstFailing first))),
    fun fails => State.exists_firstFailing fails, fun config passes => ⟨s.committed req,
      exec_commit_passes admitted config (State.commitFailure_of_passes passes), fun i => ?_, ?_, ?_, fun i => ?_, ?_⟩⟩
  · rw [State.committed_acc, (State.takeCommit_evaluates _).2.2]
    exact s.acc.committed_cases i
  · exact State.respond_aheadFresh (State.takeCommit_fresh (s.take (.commit req))) req .ok []
  · rw [State.committed_handed, State.committed_acc]
    exact State.takeCommit_handed (s.take (.commit req))
  · rw [State.committed_eq]
    exact s.sig.commit_slot i
  · have acq : (s.take (.commit req)).committing.acq = _ := s.acq.commit_eq
    have time : (s.take (.commit req)).committing.time = _ := s.time.commit_eq
    have acc := State.committed_slots req s
    rw [State.committed_eq]
    dsimp only at acq time ⊢
    rw [acq, time]
    generalize s.committed req = t at acc ⊢
    rw [acc]
    rfl

end Sys2Proof.Machine
end

section
/-!
The frame matcher (02, sections 2.1 to 2.6): when an entry meets a frame, and what a field descriptor reads.
-/
namespace Sys2Proof.Machine
open Sys2Proof

/-! ### Testing (R29) -/

/-- Two vectors agree where a mask is set. -/
theorem masked_eq_zero_iff {w : Nat} (a b m : BitVec w) :
    ((a ^^^ b) &&& m == 0) = true ↔ ∀ n < w, m.getLsbD n = true → a.getLsbD n = b.getLsbD n := by
  rw [beq_iff_eq]
  constructor
  · intro h n _ masked
    have bit : ((a ^^^ b) &&& m).getLsbD n = (0 : BitVec w).getLsbD n := by rw [h]
    simpa [masked] using bit
  · intro h
    refine BitVec.eq_of_getLsbD_eq fun n inside => ?_
    cases masked : m.getLsbD n with
    | false => simp [masked]
    | true => simp [masked, h n inside masked]

theorem MatchDirection.admits_iff (d : MatchDirection) (p : Port) :
    d.admits p = true ↔ d = .either ∨ (d = .fromMp ∧ p = .mp) ∨ (d = .fromDp ∧ p = .dp) := by
  cases d <;> cases p <;> simp [MatchDirection.admits]

/-- The byte 0 test: a mask of 0 passes any payload, any other wants a first byte that agrees (R29). -/
theorem MatchEntry.byte0_iff (e : MatchEntry) (payload : List Byte) :
    (e.byte0Mask == 0 || (!payload.isEmpty && (payload.getD 0 0 ^^^ e.byte0Value) &&& e.byte0Mask == 0)) = true ↔
      (e.byte0Mask ≠ 0 → ∃ b rest, payload = b :: rest ∧
        ∀ n < 8, e.byte0Mask.getLsbD n = true → b.getLsbD n = e.byte0Value.getLsbD n) := by
  rw [Bool.or_eq_true, beq_iff_eq, Classical.or_iff_not_imp_left]
  refine imp_congr_right fun _ => ?_
  cases payload with
  | nil => simp
  | cons b rest =>
    rw [Bool.and_eq_true, masked_eq_zero_iff]
    simp

theorem MatchEntry.matches_iff (e : MatchEntry) (p : Port) (frame : List Byte) :
    e.matches p frame = true ↔ e.Meets p frame := by
  simp only [MatchEntry.matches, Bool.and_eq_true, MatchDirection.admits_iff, masked_eq_zero_iff, e.byte0_iff,
    decide_eq_true_eq, and_assoc]
  exact ⟨fun ⟨enabled, direction, cls, source, byte0, length⟩ =>
      ⟨enabled, direction, cls, source, byte0, length⟩,
    fun ⟨enabled, direction, cls, source, byte0, length⟩ => ⟨enabled, direction, cls, source, byte0, length⟩⟩

/-! ### Reading (R28) -/

theorem toNat_append_byte {w : Nat} (x : BitVec w) (b : Byte) : (x ++ b).toNat = x.toNat * 256 + b.toNat := by
  rw [BitVec.toNat_append, ← Nat.shiftLeft_add_eq_or_of_lt b.isLt, Nat.shiftLeft_eq]

theorem natOf_one (a : Byte) : natOf [a] = a.toNat := by simp [natOf]

theorem natOf_two (a b : Byte) : natOf [a, b] = (a ++ b).toNat := by
  simp only [toNat_append_byte]
  simp [natOf]

theorem natOf_four (a b c d : Byte) : natOf [a, b, c, d] = (a ++ b ++ c ++ d).toNat := by
  simp only [toNat_append_byte]
  simp [natOf]

/-- Bytes whose value is that of a word read as the word does in two's complement. -/
theorem intOf_eq_toInt {w : Nat} {bs : List Byte} (x : BitVec w) (width : w = 8 * bs.length)
    (value : natOf bs = x.toNat) :
    intOf bs = x.toInt := by
  subst width
  have span : 256 ^ bs.length = 2 ^ (8 * bs.length) := (Nat.pow_mul 2 8 _).symm
  rw [intOf, BitVec.toInt_eq_toNat_cond, value, ← span]
  split
  · rfl
  · rw [Int.natCast_pow]
    rfl

theorem fieldAt_zero (d : List Byte) (o : Nat) : fieldAt d o 0 = [] := List.take_zero

theorem fieldAt_succ {d : List Byte} {o : Nat} {a : Byte} (here : d[o]? = some a) (k : Nat) :
    fieldAt d o (k + 1) = a :: fieldAt d (o + 1) k := by
  obtain ⟨inside, rfl⟩ := List.getElem?_eq_some_iff.1 here
  rw [fieldAt, List.drop_eq_getElem_cons inside, List.take_succ_cons]
  rfl

theorem FieldDesc.read_eq_none {f : FieldDesc} {payload : List Byte}
    (short : payload.length < f.offset + f.width.bytes) :
    f.read payload = none := if_neg (Nat.not_le.2 short)

/-- A number read from bytes whose value is that of a word is the word's, signed or not. -/
theorem number_eq {w : Nat} {bs : List Byte} (x : BitVec w) (width : w = 8 * bs.length) (value : natOf bs = x.toNat)
    (signed : Bool) : (if signed then intOf bs else (natOf bs : Int)) = if signed = true then x.toInt else x.toNat := by
  rw [intOf_eq_toInt x width value, value]

theorem inside_of_getElem? {d : List Byte} {n : Nat} {a : Byte} (here : d[n]? = some a) : n < d.length :=
  (List.getElem?_eq_some_iff.1 here).1

theorem FieldDesc.reads (f : FieldDesc) (payload : List Byte) : f.Reads payload (f.read payload) where
  skipped short := by
    refine FieldDesc.read_eq_none ?_
    cases width : f.width <;> rw [width] at short <;> exact short
  bit a width here := by
    have fits : f.offset + 1 ≤ payload.length := inside_of_getElem? here
    simp only [FieldDesc.read, width, FieldWidth.bytes, if_pos fits, fieldAt_succ here, fieldAt_zero,
      List.reverse_singleton, ite_self, natOf_one, BitVec.testBit_toNat]
  one a width here := by
    have fits : f.offset + 1 ≤ payload.length := inside_of_getElem? here
    simp only [FieldDesc.read, width, FieldWidth.bytes, if_pos fits, fieldAt_succ here, fieldAt_zero,
      List.reverse_singleton, ite_self]
    exact congrArg some (number_eq a rfl (natOf_one a) f.signed)
  two a b width first second := by
    have fits : f.offset + 2 ≤ payload.length := inside_of_getElem? second
    simp only [FieldDesc.read, width, FieldWidth.bytes, if_pos fits, fieldAt_succ first, fieldAt_succ second,
      fieldAt_zero]
    refine congrArg some ?_
    cases f.lowFirst
    · exact number_eq (a ++ b) rfl (natOf_two a b) f.signed
    · exact number_eq (b ++ a) rfl (natOf_two b a) f.signed
  four a b c d width first second third fourth := by
    have fits : f.offset + 4 ≤ payload.length := inside_of_getElem? fourth
    simp only [FieldDesc.read, width, FieldWidth.bytes, if_pos fits, fieldAt_succ first, fieldAt_succ second,
      fieldAt_succ third, fieldAt_succ fourth, fieldAt_zero]
    refine congrArg some ?_
    cases f.lowFirst
    · exact number_eq (a ++ b ++ c ++ d) rfl (natOf_four a b c d) f.signed
    · exact number_eq (d ++ c ++ b ++ a) rfl (natOf_four d c b a) f.signed

end Sys2Proof.Machine
end

section
/-!
What the matching entries of a frame yield (R32 to R36): the writes that stand, the requests and the counts.
-/
namespace Sys2Proof.Machine
open Sys2Proof

/-! ### The writes that stand (R32) -/

/-- Of the writes naming a slot the last stands, and no other. -/
theorem standing_find? (ws : List SlotWrite) (i : Fin 32) :
    (standing ws).find? (fun w => w.slot == i) = (ws.filter fun w => w.slot == i).getLast? := by
  induction ws with
  | nil => rfl
  | cons w ws ih =>
    by_cases here : w.slot = i
    · by_cases again : ws.any fun x => x.slot == w.slot
      · obtain ⟨x, within, same⟩ := List.any_eq_true.1 again
        have some' : (ws.filter fun w => w.slot == i) ≠ [] :=
          List.ne_nil_of_mem (List.mem_filter.2 ⟨within, by rw [← here]; exact same⟩)
        rw [standing, if_pos again, ih, List.filter_cons_of_pos (by simpa using here), List.getLast?_cons,
          List.getLast?_eq_some_getLast some']
        rfl
      · have none' : (ws.filter fun w => w.slot == i) = [] := by
          rw [List.filter_eq_nil_iff]
          exact fun x within same => again (List.any_eq_true.2 ⟨x, within, by rw [here]; exact same⟩)
        rw [standing, if_neg again, List.find?_cons_of_pos (by simpa using here),
          List.filter_cons_of_pos (by simpa using here), none']
        rfl
    · rw [List.filter_cons_of_neg (by simpa using here), ← ih, standing]
      split
      · rfl
      · rw [List.find?_cons_of_neg (by simpa using here)]

theorem mem_standing {ws : List SlotWrite} {w : SlotWrite} (stands : w ∈ standing ws) : w ∈ ws := by
  induction ws with
  | nil => exact stands
  | cons x ws ih =>
    rw [standing] at stands
    split at stands
    · exact List.mem_cons_of_mem _ (ih stands)
    · rcases List.mem_cons.1 stands with rfl | later
      · exact List.mem_cons_self
      · exact List.mem_cons_of_mem _ (ih later)

theorem standing_nodup (ws : List SlotWrite) : ((standing ws).map fun w => w.slot).Nodup := by
  induction ws with
  | nil => exact List.nodup_nil
  | cons w ws ih =>
    rw [standing]
    split
    next => exact ih
    next alone =>
      rw [List.map_cons, List.nodup_cons]
      refine ⟨fun again => ?_, ih⟩
      obtain ⟨x, stands, same⟩ := List.mem_map.1 again
      exact alone (List.any_eq_true.2 ⟨x, mem_standing stands, by simpa using same⟩)

theorem mem_slots_iff (ws : List SlotWrite) (i : Fin 32) :
    (i ∈ ws.map fun w => w.slot) ↔ ws.find? (fun w => w.slot == i) ≠ none := by
  simp only [List.mem_map, ne_eq, List.find?_eq_none, beq_iff_eq]
  rw [Classical.not_forall]
  simp only [Classical.not_imp, Classical.not_not]

/-! ### Slots written together (R40) -/

theorem SlotLive.write_eq_written (v : SlotLive) (c : SlotConfig) (raw : Int) (tag : TimeTag) (source : WriteSource) :
    v.write c raw tag source = writtenSlot v c raw tag source := by
  simp only [SlotLive.write, writtenSlot, scale, clampS32_eq_max_min]

theorem Signals.foldl_writeSlot_frame (tag : TimeTag) (ws : List SlotWrite) (g : Signals) :
    ws.foldl (Signals.writeSlot tag) g = { g with slots := (ws.foldl (Signals.writeSlot tag) g).slots } := by
  induction ws generalizing g with
  | nil => rfl
  | cons w ws ih => exact ih (g.writeSlot tag w)

theorem Signals.writeSlot_same (tag : TimeTag) (g : Signals) (w : SlotWrite) :
    (g.writeSlot tag w).slots[w.slot] = writtenSlot g.slots[w.slot] g.config[w.slot] w.raw tag w.source := by
  rw [← SlotLive.write_eq_written]
  exact Vector.getElem_set_self _

theorem Signals.writeSlot_other (tag : TimeTag) (g : Signals) {w : SlotWrite} {i : Fin 32} (apart : w.slot ≠ i) :
    (g.writeSlot tag w).slots[i] = g.slots[i] :=
  Vector.getElem_set_ne w.slot.isLt i.isLt fun same => apart (Fin.ext same)

/-- Writes that name each slot at most once: a slot named holds its write, any other what it held. -/
theorem Signals.foldl_writeSlot_slot (tag : TimeTag) {ws : List SlotWrite} (once : (ws.map fun w => w.slot).Nodup)
    (g : Signals) (i : Fin 32) :
    (ws.foldl (Signals.writeSlot tag) g).slots[i] =
      ((ws.find? fun w => w.slot == i).map fun w => writtenSlot g.slots[i] g.config[i] w.raw tag w.source).getD
        g.slots[i] := by
  induction ws generalizing g with
  | nil => rfl
  | cons w ws ih =>
    obtain ⟨alone, once⟩ := List.nodup_cons.1 once
    rw [List.foldl_cons, ih once]
    by_cases here : w.slot = i
    · subst here
      have none' : ws.find? (fun x => x.slot == w.slot) = none :=
        Classical.not_not.1 fun again => alone ((mem_slots_iff ws w.slot).2 again)
      rw [none', List.find?_cons_of_pos (by simp)]
      exact g.writeSlot_same tag w
    · rw [List.find?_cons_of_neg (by simpa using here), g.writeSlot_other tag here]
      rfl

/-- In RUN the writes of slots bring their notifications, slot by slot (R44). -/
theorem State.writeSlots_run {s : State} (mode : s.mgt.config = .run) (ws : List SlotWrite) :
    s.writeSlots ws =
      { s with
        sig := { s.sig with slots := (s.writeSlots ws).sig.slots }
        handed := s.handed ++ (ws.map fun w => w.slot).flatMap (s.writeSlots ws).sig.tells } := by
  have sig := s.writeSlots_sig ws
  have rest := s.sig.foldl_writeSlot_frame s.time.tag ws
  have handed : (s.writeSlots ws).handed = s.handed ++ ws.flatMap fun w => (s.writeSlots ws).sig.noticesOf w.slot := by
    rw [sig]
    simp only [State.writeSlots, mode, if_true]
    rfl
  rw [State.writeSlots_frame, handed, List.flatMap_map]
  simp only [Signals.noticesOf_eq_tells]
  generalize s.writeSlots ws = t at sig ⊢
  rw [← sig] at rest
  rw [← rest]

/-! ### What an entry yields -/

/-- The writes of a field list that name a slot. -/
theorem extractYield_writes (n : Nat) (fields : List (FieldDesc × Fin 32)) (payload : List Byte) (i : Fin 32) :
    (extractYield n fields payload).writes.filter (fun w => w.slot == i) =
      (fields.filterMap fun f => if f.2 = i then (f.1.read payload).map fun raw => (n, raw) else none).map
        fun x => SlotWrite.mk i x.2 (.entry x.1) := by
  induction fields with
  | nil => rfl
  | cons f fields ih =>
    simp only [extractYield, List.filterMap_cons] at ih ⊢
    cases f.1.read payload with
    | none =>
      rw [Option.map_none, ih]
      simp
    | some raw =>
      by_cases here : f.2 = i
      · simp [here, ih]
      · simp [here, ih]

theorem targetYield_writes (id : FieldDesc) (capacity departure : Option FieldDesc) (payload : List Byte) :
    (targetYield id capacity departure payload).writes = [] := by
  unfold targetYield dispatchYield arrivalYield
  dsimp only
  repeat' split
  all_goals rfl

theorem keyYield_writes (g : Signals) (offset : Nat) (payload : List Byte) :
    (keyYield g offset payload).writes = [] := by
  unfold keyYield
  repeat' split
  all_goals rfl

/-- The writes of the matching entries that name a slot end in the last field that names it and fits. -/
theorem Signals.lastField_eq (g : Signals) (p : Port) (frame : List Byte) (i : Fin 32) :
    ((((g.matching p frame).flatMap fun x => (x.1.yield g (framePayload frame) x.2).writes).filter
        fun w => w.slot == i).getLast?) =
      (g.lastField p frame i).map fun x => SlotWrite.mk i x.2 (.entry x.1) := by
  rw [Signals.lastField, ← List.getLast?_map, List.filter_flatMap, List.map_flatMap]
  refine congrArg (fun f => (List.flatMap f (g.matching p frame)).getLast?) (funext fun x => ?_)
  unfold MatchEntry.yield
  cases x.1.action with
  | extract fields => exact extractYield_writes x.2 fields (framePayload frame) i
  | key offset => simp only [keyYield_writes, List.filter_nil, List.map_nil]
  | target id capacity departure => simp only [targetYield_writes, List.filter_nil, List.map_nil]
  | page set => rfl

/-! ### What an entry hands on and counts (R33 to R36) -/

theorem keyRequest_mem (k : KeyFunction) : (k, keyRequest k) ∈ keyCommands := by
  cases k <;> simp [keyRequest, keyCommands]

theorem Signals.keyYield_presses (g : Signals) (offset : Nat) (payload : List Byte) :
    g.PressesKey offset payload (keyYield g offset payload) where
  short outside := by
    rw [keyYield, List.getElem?_eq_none outside]
    exact ⟨rfl, rfl, rfl, rfl⟩
  mapped raw k here within used same := by
    obtain ⟨k', found⟩ := Option.isSome_iff_exists.1
      (List.find?_isSome.2 ⟨k, within, by simp [used, same]⟩ : (g.keyOf raw).isSome)
    have holds := List.find?_some found
    simp only [Bool.and_eq_true, beq_iff_eq] at holds
    have yields : keyYield g offset payload = { Yield.nothing with requests := [keyRequest k'.function] } := by
      simp only [keyYield, here, show g.keyOf raw = some k' from found]
    rw [yields]
    exact ⟨k', List.mem_of_find?_eq_some found, holds.1, holds.2, ⟨_, rfl, keyRequest_mem _⟩, rfl, rfl, rfl⟩
  unmapped raw here free := by
    have none' : g.keyOf raw = none := by
      rw [Signals.keyOf, List.find?_eq_none]
      intro k within holds
      simp only [Bool.and_eq_true, beq_iff_eq] at holds
      exact free k within holds.1 holds.2
    have yields : keyYield g offset payload = { Yield.nothing with unmapped := 1 } := by
      simp only [keyYield, here, none']
    rw [yields]
    exact ⟨rfl, rfl, rfl, rfl⟩

theorem shortOf_eq (d : Option FieldDesc) (payload : List Byte) :
    shortOf d payload = if d.any (fun f => (f.read payload).isNone) = true then 1 else 0 := by
  cases d <;> rfl

theorem departs_eq (d : Option FieldDesc) (payload : List Byte) :
    departs d payload = d.any fun f => (f.read payload).any fun x => x != 0 := by
  cases d with
  | none => rfl
  | some f =>
    simp only [departs, Option.bind_some, Option.any_some]
    cases f.read payload <;> rfl

theorem dispatchYield_inRange {id : FieldDesc} {payload : List Byte} {v : Int} (here : id.read payload = some v)
    (low : 1 ≤ v) (high : v ≤ 65535) (capacity departure : Option FieldDesc) :
    dispatchYield id capacity departure payload =
      if shortOf departure payload = 1 then Yield.nothing
      else if departs departure payload then { Yield.nothing with requests := [.dispatchDeparture v.toNat] }
      else arrivalYield v.toNat capacity payload := by
  rw [dispatchYield, here]
  exact if_pos ⟨low, high⟩

theorem capacityOk_iff_range (x : Int) : capacityOk x = true ↔ x = 0 ∨ 1000 ≤ x ∧ x ≤ 250000 := by
  simp [capacityOk]

theorem arrivalYield_known {capacity : Option FieldDesc} {c : FieldDesc} {payload : List Byte} {x : Int}
    (present : capacity = some c) (here : c.read payload = some x) (id : Nat) :
    arrivalYield id capacity payload =
      if capacityOk x then { Yield.nothing with requests := [.dispatchArrival id x.toNat] }
      else { Yield.nothing with requests := [.dispatchArrival id 0], dispatch := 1 } := by
  rw [arrivalYield, present, Option.bind_some, here]

theorem arrivalYield_unknown {capacity : Option FieldDesc} {payload : List Byte}
    (unread : ∀ c, capacity = some c → c.read payload = none) (id : Nat) :
    arrivalYield id capacity payload = { Yield.nothing with requests := [.dispatchArrival id 0] } := by
  have none' : (capacity.bind fun f => f.read payload) = none := by
    cases capacity with
    | none => rfl
    | some c => exact unread c rfl
  rw [arrivalYield, none']

theorem targetYield_dispatches (id : FieldDesc) (capacity departure : Option FieldDesc) (payload : List Byte) :
    Dispatches id capacity departure payload (targetYield id capacity departure payload) := by
  have requests : (targetYield id capacity departure payload).requests =
      (dispatchYield id capacity departure payload).requests := rfl
  have dispatch : (targetYield id capacity departure payload).dispatch =
      (dispatchYield id capacity departure payload).dispatch := rfl
  constructor
  case skippedId =>
    intro none'
    rw [requests, dispatch, dispatchYield, none']
    exact ⟨rfl, rfl⟩
  case badId =>
    intro v here out
    rw [requests, dispatch, dispatchYield, here]
    dsimp only
    rw [if_neg (by omega)]
    exact ⟨rfl, rfl⟩
  case skippedDeparture =>
    intro v d here low high present none'
    rw [requests, dispatch, dispatchYield_inRange here low high, shortOf_eq, present, Option.any_some, none']
    exact ⟨rfl, rfl⟩
  case departs =>
    intro v d x here low high present read moves
    rw [requests, dispatch, dispatchYield_inRange here low high, shortOf_eq, departs_eq, present, Option.any_some,
      Option.any_some, read, Option.any_some, if_neg (by simp), if_pos (by simpa using moves)]
    exact ⟨rfl, rfl⟩
  case arrives =>
    intro v here low high still
    have arrival : dispatchYield id capacity departure payload = arrivalYield v.toNat capacity payload := by
      rw [dispatchYield_inRange here low high, shortOf_eq, departs_eq]
      cases departure with
      | none => rfl
      | some d => simp [still d rfl]
    rw [requests, dispatch, arrival]
    refine ⟨fun unread => ?_, fun c x present read => ⟨fun known => ?_, fun unknown => ?_⟩⟩
    · rw [arrivalYield_unknown unread]
      exact ⟨rfl, rfl⟩
    · rw [arrivalYield_known present read, if_pos ((capacityOk_iff_range x).2 known)]
      exact ⟨rfl, rfl⟩
    · rw [arrivalYield_known present read, if_neg (mt (capacityOk_iff_range x).1 unknown)]
      exact ⟨rfl, rfl⟩
  case unmapped =>
    unfold targetYield dispatchYield arrivalYield
    dsimp only
    repeat' split
    all_goals rfl
  case short =>
    dsimp only [targetYield]
    rw [shortOf_eq, shortOf_eq, shortOf_eq, departs_eq, Option.any_some]
    congr 1
    generalize (departure.any fun d => (d.read payload).any fun x => x != 0) = moves
    generalize (capacity.any fun d => (d.read payload).isNone) = skipped
    cases moves <;> cases skipped <;> rfl

theorem MatchEntry.yield_does (e : MatchEntry) (g : Signals) (payload : List Byte) (n : Nat) :
    e.Does g payload (e.yield g payload n) := by
  unfold MatchEntry.Does MatchEntry.yield
  cases e.action with
  | extract fields => exact ⟨rfl, rfl, rfl, rfl⟩
  | key offset => exact g.keyYield_presses offset payload
  | target id capacity departure => exact targetYield_dispatches id capacity departure payload
  | page set => exact ⟨rfl, rfl, rfl, rfl⟩

end Sys2Proof.Machine
end

section
/-!
A good frame matched in RUN (02, sections 2.1 to 2.9; R11, R26, R30, R31).
-/
namespace Sys2Proof.Machine
open Sys2Proof

theorem MatchEntry.pageSet_eq_some (e : MatchEntry) (set : Nat) : e.pageSet = some set ↔ e.action = .page set := by
  unfold MatchEntry.pageSet
  cases e.action <;> simp

theorem MatchEntry.pageSet_eq_none (e : MatchEntry) : e.pageSet = none ↔ ∀ k, e.action ≠ .page k := by
  unfold MatchEntry.pageSet
  cases e.action <;> simp

/-- The page sought among the matching entries is the first there is (R36). -/
theorem findSome?_pageSet_iff (entries : List (MatchEntry × Nat)) (set : Nat) :
    (entries.findSome? fun x => x.1.pageSet) = some set ↔ pageOf entries set := by
  simp only [List.findSome?_eq_some_iff, MatchEntry.pageSet_eq_some, MatchEntry.pageSet_eq_none, pageOf]

/-! ### The matching event -/

/-- What the matching entries of a frame yield, in their order. -/
def Signals.yields (g : Signals) (p : Port) (frame : List Byte) : List Yield :=
  (g.matching p frame).map fun x => x.1.yield g (framePayload frame) x.2

/-- The state with the matching entries counted and their writes done. -/
def State.matched (p : Port) (frame : List Byte) (s : State) : State :=
  (s.onSig fun g => { g with counters := g.counters.add (s.sig.yields p frame) }).writeSlots
    (standing ((s.sig.yields p frame).flatMap fun y => y.writes))

theorem State.matchFrame_consumed {s : State} {p : Port} {frame : List Byte}
    (consumed : ∃ x ∈ s.sig.matching p frame, x.1.consume = true) :
    s.matchFrame p frame = ((s.matched p frame).hand ((s.sig.yields p frame).flatMap fun y => y.requests), true,
      frame) := by
  have any : ((s.sig.matching p frame).any fun x => x.1.consume) = true := List.any_eq_true.2 consumed
  unfold State.matchFrame
  dsimp only
  rw [any]
  split <;> rfl

theorem any_consume_eq_false {entries : List (MatchEntry × Nat)} (kept : ¬ ∃ x ∈ entries, x.1.consume = true) :
    (entries.any fun x => x.1.consume) = false := by
  rw [← Bool.not_eq_true, List.any_eq_true]
  exact kept

theorem State.matchFrame_unchanged {s : State} {p : Port} {frame : List Byte}
    (kept : ¬ ∃ x ∈ s.sig.matching p frame, x.1.consume = true)
    (plain : p = .dp ∨ ∀ set, ¬ pageOf (s.sig.matching p frame) set) :
    s.matchFrame p frame =
      ((s.matched p frame).hand ((s.sig.yields p frame).flatMap fun y => y.requests), false, frame) := by
  unfold State.matchFrame
  dsimp only
  rw [any_consume_eq_false kept]
  split
  next set found =>
    have fromDp := plain.resolve_right fun none' => none' set ((findSome?_pageSet_iff _ _).1 found)
    rw [if_pos (by simp [fromDp])]
    rfl
  next => rfl

theorem State.matchFrame_page {s : State} {frame : List Byte} {set : Nat}
    (kept : ¬ ∃ x ∈ s.sig.matching .mp frame, x.1.consume = true)
    (page : pageOf (s.sig.matching .mp frame) set) :
    s.matchFrame .mp frame =
      ((overlayPage set frame (s.matched .mp frame)).1.hand ((s.sig.yields .mp frame).flatMap fun y => y.requests),
        false,
        (overlayPage set frame (s.matched .mp frame)).2) := by
  unfold State.matchFrame
  dsimp only
  rw [any_consume_eq_false kept, (findSome?_pageSet_iff _ _).2 page]
  rfl

/-- A good frame of a class that is not reserved is matched in RUN, and relayed unless it is consumed (R11). -/
theorem State.dispose_matches {s : State} {p : Port} {frame : List Byte}
    (plain : reservedClass (frameClass frame) = false) (mode : s.mgt.config = .run) :
    s.dispose p frame =
      if (s.matchFrame p frame).2.1 then (s.matchFrame p frame).1
      else (s.matchFrame p frame).1.relays p ⟨(s.matchFrame p frame).2.2, .endMark⟩ := by
  have notRequest : ¬ (frameClass frame = 0xF0 ∧ frameDestination frame = s.link.node) := by
    rintro ⟨request, -⟩
    rw [request] at plain
    exact absurd plain (by decide)
  rw [State.dispose, if_neg notRequest, if_neg (by simp [plain]), if_pos mode]
  simp only [State.offerRelay_eq]

/-! ### The slots, the counters and the notifications -/

theorem State.matched_find? (p : Port) (frame : List Byte) (s : State) (i : Fin 32) :
    (standing ((s.sig.yields p frame).flatMap fun y => y.writes)).find? (fun w => w.slot == i) =
      (s.sig.lastField p frame i).map fun x => SlotWrite.mk i x.2 (.entry x.1) := by
  rw [standing_find?, Signals.yields, List.flatMap_map, s.sig.lastField_eq]

theorem State.matched_slot (p : Port) (frame : List Byte) (s : State) (i : Fin 32) :
    (s.matched p frame).sig.slots[i] =
      match s.sig.lastField p frame i with
      | some (n, raw) => writtenSlot s.sig.slots[i] s.sig.config[i] raw s.time.tag (.entry n)
      | none => s.sig.slots[i] := by
  rw [State.matched, State.writeSlots_sig, Signals.foldl_writeSlot_slot _ (standing_nodup _), State.matched_find?]
  cases s.sig.lastField p frame i with
  | none => rfl
  | some x => rfl

/-- The slots the matching entries write, in the order of their writes. -/
def State.matchedSlots (p : Port) (frame : List Byte) (s : State) : List (Fin 32) :=
  (standing ((s.sig.yields p frame).flatMap fun y => y.writes)).map fun w => w.slot

theorem State.mem_matchedSlots (p : Port) (frame : List Byte) (s : State) (i : Fin 32) :
    i ∈ s.matchedSlots p frame ↔ s.sig.lastField p frame i ≠ none := by
  rw [State.matchedSlots, mem_slots_iff, State.matched_find?, ne_eq, Option.map_eq_none_iff]

theorem State.matched_eq {s : State} (mode : s.mgt.config = .run) (p : Port) (frame : List Byte) :
    s.matched p frame =
      { s with
        sig := { s.sig with
          slots := (s.matched p frame).sig.slots
          counters := s.sig.counters.add (s.sig.yields p frame) }
        handed := s.handed ++ (s.matchedSlots p frame).flatMap (s.matched p frame).sig.tells } :=
  State.writeSlots_run (by exact mode) _

/-- Settles O10: the yields are those of the matching entries, the slots written those of the writes that stand. -/
theorem matchedFrame : Obligations.MatchedFrame := by
  refine ⟨MatchEntry.matches_iff, FieldDesc.reads, fun p f s carried mode good plain run => ?_⟩
  have closed := exec_good carried mode good
  dsimp only
  generalize counted :
    (s.hears p .endMark (.aligned none) 0).onLink (fun l => l.count p fun k => { k with good := satInc 65535 k.good })
      = u
    at closed
  have sig : u.sig = s.sig := by rw [← counted]; rfl
  have inRun : u.mgt.config = .run := by rw [← counted]; exact run
  rw [State.dispose_matches plain inRun] at closed
  refine ⟨u.sig.yields p f.stored, u.matchedSlots p f.stored, u.matched p f.stored, ?_, fun n x y entry yielded => ?_,
    standing_nodup _, fun i => ?_, fun i => ?_, ?_, fun consumed => ?_, fun kept relayed => ?_, ?_⟩
  · rw [sig, Signals.yields, List.length_map]
  · rw [sig, Signals.yields, List.getElem?_map, entry] at yielded
    obtain rfl := Option.some.inj yielded
    exact x.1.yield_does s.sig _ x.2
  · rw [u.mem_matchedSlots, sig]
  · rw [u.matched_slot, sig, show u.time = s.time by rw [← counted]; rfl] <;> rfl
  · refine (u.matched_eq inRun p f.stored).trans ?_
    generalize u.matched p f.stored = t
    generalize u.matchedSlots p f.stored = written
    subst counted
    rfl
  · rw [closed, State.matchFrame_consumed (by rw [sig]; exact consumed)]
    rfl
  · rw [closed, State.matchFrame_unchanged (by rw [sig]; exact kept) (by rw [sig]; exact relayed)]
    rfl
  · intro set kept fromMp page
    subst fromMp
    rw [closed, State.matchFrame_page (by rw [sig]; exact kept) (by rw [sig]; exact page)]
    rfl

end Sys2Proof.Machine
end

section
/-!
Fields of an entry's data (R183, R192): what each reader of a field reads where the bytes of a value stand, and data
cut into its fields.
-/
namespace Sys2Proof.Machine
open Sys2Proof

/-! ### Numbers -/

/-- Induction on a list from its end. -/
theorem concat_induction {α : Type} {P : List α → Prop} (nil : P [])
    (concat : ∀ bs b, P bs → P (bs ++ [b])) (bs : List α) : P bs := by
  have reversed (cs : List α) : P cs.reverse := by
    induction cs with
    | nil => exact nil
    | cons c cs ih =>
      rw [List.reverse_cons]
      exact concat _ _ ih
  exact List.reverse_reverse bs ▸ reversed bs.reverse

theorem natOf_concat (bs : List Byte) (b : Byte) : natOf (bs ++ [b]) = natOf bs * 256 + b.toNat := by
  simp [natOf]

theorem bytesOf_succ (k n : Nat) : bytesOf (k + 1) n = bytesOf k (n / 256) ++ [BitVec.ofNat 8 n] := by
  rw [bytesOf, List.range_succ, List.map_append, bytesOf]
  congr 1
  · refine List.map_congr_left fun i within => ?_
    have place : k + 1 - 1 - i = (k - 1 - i) + 1 := by have := List.mem_range.1 within; omega
    rw [place, Nat.pow_succ', Nat.div_div_eq_div_mul]
  · simp

theorem natOf_bytesOf {k n : Nat} (fits : n < 256 ^ k) : natOf (bytesOf k n) = n := by
  induction k generalizing n with
  | zero => exact (Nat.lt_one_iff.1 fits).symm
  | succ k ih =>
    rw [bytesOf_succ, natOf_concat, ih (Nat.div_lt_of_lt_mul (by rw [← Nat.pow_succ']; exact fits)), BitVec.toNat_ofNat]
    exact Nat.div_add_mod' n 256

theorem bytesOf_natOf (bs : List Byte) : bytesOf bs.length (natOf bs) = bs := by
  induction bs using concat_induction with
  | nil => rfl
  | concat bs b ih =>
    have low := b.isLt
    rw [List.length_append, List.length_singleton, bytesOf_succ, natOf_concat,
      show (natOf bs * 256 + b.toNat) / 256 = natOf bs by omega, ih]
    congr 2
    exact BitVec.eq_of_toNat_eq (by rw [BitVec.toNat_ofNat]; omega)

theorem natOf_lt (bs : List Byte) : natOf bs < 256 ^ bs.length := by
  induction bs using concat_induction with
  | nil => exact Nat.one_pos
  | concat bs b ih =>
    have low := b.isLt
    rw [natOf_concat, List.length_append, List.length_singleton, Nat.pow_succ]
    omega

/-- Bytes hold a number exactly when they are its bytes. -/
theorem natOf_eq_iff {bs : List Byte} {k : Nat} (width : bs.length = k) (n : Nat) :
    natOf bs = n ↔ n < 256 ^ k ∧ bs = bytesOf k n := by
  subst width
  constructor
  · rintro rfl
    exact ⟨natOf_lt bs, (bytesOf_natOf bs).symm⟩
  · rintro ⟨fits, same⟩
    rw [same, natOf_bytesOf fits]

theorem intBytes_intOf (bs : List Byte) : intBytes bs.length (intOf bs) = bs := by
  have low := natOf_lt bs
  have value : (intOf bs % 256 ^ bs.length).toNat = natOf bs := by
    generalize span : (256 : Nat) ^ bs.length = m at low
    have cast : (256 : Int) ^ bs.length = m := by rw [← span, Int.natCast_pow]; rfl
    rw [intOf, cast, span]
    split
    · rw [Int.emod_eq_of_lt (by omega) (by omega)]
      exact Int.toNat_natCast _
    · rw [Int.sub_emod_right, Int.emod_eq_of_lt (by omega) (by omega)]
      exact Int.toNat_natCast _
  rw [intBytes, value, bytesOf_natOf]

theorem intOf_range (bs : List Byte) :
    -(256 ^ bs.length : Nat) ≤ 2 * intOf bs ∧ 2 * intOf bs < (256 ^ bs.length : Nat) := by
  have low := natOf_lt bs
  rw [intOf]
  generalize span : (256 : Nat) ^ bs.length = m at low
  have cast : (256 : Int) ^ bs.length = m := by rw [← span, Int.natCast_pow]; rfl
  rw [cast]
  split <;> omega

theorem intOf_intBytes {k : Nat} {x : Int} (low : -(256 ^ k : Nat) ≤ 2 * x) (high : 2 * x < (256 ^ k : Nat)) :
    intOf (intBytes k x) = x := by
  have length : (intBytes k x).length = k := intBytes_length k x
  rw [intOf, length, intBytes]
  generalize span : (256 : Nat) ^ k = m at low high
  have cast : (256 : Int) ^ k = m := by rw [← span, Int.natCast_pow]; rfl
  rw [cast]
  have residue : 0 ≤ x % m ∧ x % m < m := ⟨Int.emod_nonneg _ (by omega), Int.emod_lt_of_pos _ (by omega)⟩
  have cases : x % m = x ∨ x % m = x + m := by
    rcases Int.lt_or_le x 0 with negative | positive
    · right
      rw [← Int.add_emod_right, Int.emod_eq_of_lt (by omega) (by omega)]
    · exact Or.inl (Int.emod_eq_of_lt positive (by omega))
  rw [natOf_bytesOf (by omega)]
  split <;> omega

/-- Bytes hold a number with its sign exactly when they are its bytes. -/
theorem intOf_eq_iff {bs : List Byte} {k : Nat} (width : bs.length = k) (x : Int) :
    intOf bs = x ↔ (-(256 ^ k : Nat) ≤ 2 * x ∧ 2 * x < (256 ^ k : Nat)) ∧ bs = intBytes k x := by
  subst width
  constructor
  · rintro rfl
    exact ⟨intOf_range bs, (intBytes_intOf bs).symm⟩
  · rintro ⟨⟨low, high⟩, same⟩
    rw [same]
    exact intOf_intBytes low high

/-! ### Fields -/

theorem fieldAt_length {d : List Byte} {o k : Nat} (inside : o + k ≤ d.length) : (fieldAt d o k).length = k := by
  rw [fieldAt, List.length_take, List.length_drop]
  omega

@[simp] theorem byteAt_eq_iff {d : List Byte} {o : Nat} (inside : o + 1 ≤ d.length) (n : Nat) :
    byteAt d o = n ↔ n ≤ 255 ∧ fieldAt d o 1 = u8 n := by
  rw [byteAt, natAt, natOf_eq_iff (fieldAt_length inside)]
  exact and_congr_left' (by omega)

@[simp] theorem natAt_two_iff {d : List Byte} {o : Nat} (inside : o + 2 ≤ d.length) (n : Nat) :
    natAt d o 2 = n ↔ n ≤ 65535 ∧ fieldAt d o 2 = u16 n := by
  rw [natAt, natOf_eq_iff (fieldAt_length inside)]
  exact and_congr_left' (by omega)

@[simp] theorem natAt_four_iff {d : List Byte} {o : Nat} (inside : o + 4 ≤ d.length) (n : Nat) :
    natAt d o 4 = n ↔ n ≤ 4294967295 ∧ fieldAt d o 4 = u32 n := by
  have range : n < 256 ^ 4 ↔ n ≤ 4294967295 := by omega
  rw [natAt, natOf_eq_iff (fieldAt_length inside), range]
  refine and_congr_right fun fits => ?_
  rw [u32, Nat.min_eq_left fits]

@[simp] theorem intAt_two_iff {d : List Byte} {o : Nat} (inside : o + 2 ≤ d.length) (x : Int) :
    intAt d o 2 = x ↔ (-32768 ≤ x ∧ x ≤ 32767) ∧ fieldAt d o 2 = s16 x := by
  rw [intAt, intOf_eq_iff (fieldAt_length inside)]
  exact and_congr_left' (by omega)

@[simp] theorem intAt_four_iff {d : List Byte} {o : Nat} (inside : o + 4 ≤ d.length) (x : Int) :
    intAt d o 4 = x ↔ inS32 x ∧ fieldAt d o 4 = s32 x := by
  rw [intAt, intOf_eq_iff (fieldAt_length inside), s32, inS32]
  have range : (-(256 ^ 4 : Nat) ≤ 2 * x ∧ 2 * x < (256 ^ 4 : Nat)) ↔ -2147483648 ≤ x ∧ x ≤ 2147483647 := by omega
  rw [range]
  refine and_congr_right fun fits => ?_
  rw [clampS32_eq_max_min, show max (-2147483648) (min 2147483647 x) = x by omega]

@[simp] theorem natIn_eq_some_iff (lo hi n v : Nat) : natIn lo hi n = some v ↔ n = v ∧ lo ≤ v ∧ v ≤ hi := by
  rw [natIn, Option.ite_none_right_eq_some, Option.some_inj]
  grind

@[simp] theorem intIn_eq_some_iff (lo hi n v : Int) : intIn lo hi n = some v ↔ n = v ∧ lo ≤ v ∧ v ≤ hi := by
  rw [intIn, Option.ite_none_right_eq_some, Option.some_inj]
  grind

@[simp] theorem flagAt_eq_some_iff {d : List Byte} {o : Nat} (inside : o + 1 ≤ d.length) (b : Bool) :
    flagAt d o = some b ↔ fieldAt d o 1 = flagByte b := by
  have holds : byteAt d o = (if b then 1 else 0) ↔ fieldAt d o 1 = flagByte b := by
    rw [byteAt_eq_iff inside]
    exact and_iff_right (by split <;> omega)
  rw [← holds, flagAt]
  cases b <;> grind

theorem getElem?_eq_some_iff_codeIn {α : Type} [DecidableEq α] {l : List α} (distinct : l.Nodup) {v : α}
    (within : v ∈ l)
    (n : Nat) : l[n]? = some v ↔ n = codeIn l v := by
  obtain ⟨m, place⟩ := List.mem_iff_getElem?.1 within
  have code : codeIn l v = m := codeIn_of_getElem? distinct place
  constructor
  · exact fun here => (codeIn_of_getElem? distinct here).symm
  · rintro rfl
    rw [code, place]

theorem enumAt_eq_some_iff {α : Type} [DecidableEq α] {values : List α} (distinct : values.Nodup)
    (few : values.length ≤ 256) {d : List Byte} {o : Nat} (inside : o + 1 ≤ d.length) (v : α) :
    enumAt values d o = some v ↔ v ∈ values ∧ fieldAt d o 1 = enumByte values v := by
  have code (within : v ∈ values) : codeIn values v ≤ 255 := by
    obtain ⟨m, place⟩ := List.mem_iff_getElem?.1 within
    have below := (List.getElem?_eq_some_iff.1 place).1
    rw [codeIn_of_getElem? distinct place]
    omega
  have reads (within : v ∈ values) : enumAt values d o = some v ↔ fieldAt d o 1 = enumByte values v := by
    rw [enumAt, getElem?_eq_some_iff_codeIn distinct within, byteAt_eq_iff inside]
    exact and_iff_right (code within)
  exact ⟨fun here => ⟨List.mem_of_getElem? here, (reads (List.mem_of_getElem? here)).1 here⟩,
    fun ⟨within, field⟩ => (reads within).2 field⟩

theorem optFinAt_eq_some_iff {n : Nat} (few : n ≤ 255) {d : List Byte} {o : Nat} (inside : o + 1 ≤ d.length)
    (v : Option (Fin n)) : optFinAt n d o = some v ↔ fieldAt d o 1 = u8 (v.elim 255 Fin.val) := by
  have code : v.elim 255 Fin.val ≤ 255 := by
    cases v with
    | none => exact Nat.le_refl _
    | some x => have := x.isLt; simp only [Option.elim_some]; omega
  have holds := byteAt_eq_iff inside (v.elim 255 Fin.val)
  rw [and_iff_right code] at holds
  rw [← holds, optFinAt]
  cases v with
  | none => grind
  | some x =>
    have := x.isLt
    simp only [Option.elim_some]
    grind

theorem finAt_eq_some_iff {n : Nat} (few : n ≤ 256) {d : List Byte} {o : Nat} (inside : o + 1 ≤ d.length)
    (v : Fin n) : finAt n d o = some v ↔ fieldAt d o 1 = u8 v := by
  have low := v.isLt
  have holds := byteAt_eq_iff inside v.val
  rw [and_iff_right (by omega)] at holds
  rw [← holds, finAt]
  grind

@[simp] theorem ofNat_byteAt_iff {d : List Byte} {o : Nat} (inside : o + 1 ≤ d.length) (b : Byte) :
    BitVec.ofNat 8 (byteAt d o) = b ↔ fieldAt d o 1 = [b] := by
  obtain ⟨x, field⟩ := List.length_eq_one_iff.1 (fieldAt_length inside)
  rw [byteAt, natAt, field, natOf_one, BitVec.ofNat_toNat, BitVec.setWidth_eq]
  simp

/-! ### Data cut into fields -/

/-- Fields stand in data one behind the other, from an offset on. -/
@[simp] def fieldsAre (d : List Byte) : Nat → List (List Byte) → Prop
  | _, [] => True
  | o, b :: bs => fieldAt d o b.length = b ∧ fieldsAre d (o + b.length) bs

theorem fieldAt_add (d : List Byte) (o j k : Nat) : fieldAt d o (j + k) = fieldAt d o j ++ fieldAt d (o + j) k := by
  rw [fieldAt, List.take_add, List.drop_drop]
  rfl

theorem fieldAt_append_iff {d : List Byte} {o k : Nat} {a b : List Byte} (width : k = a.length + b.length)
    (inside : o + k ≤ d.length) :
    fieldAt d o k = a ++ b ↔ fieldAt d o a.length = a ∧ fieldAt d (o + a.length) b.length = b := by
  subst width
  rw [fieldAt_add]
  constructor
  · exact fun same => List.append_inj same (fieldAt_length (by omega))
  · rintro ⟨first, second⟩
    rw [first, second]

theorem fieldAt_eq_flatten_iff {d : List Byte} {o k : Nat} {fields : List (List Byte)}
    (width : k = fields.flatten.length) (inside : o + k ≤ d.length) :
    fieldAt d o k = fields.flatten ↔ fieldsAre d o fields := by
  induction fields generalizing o k with
  | nil => simp [width, fieldAt_zero]
  | cons b bs ih =>
    rw [List.flatten_cons, List.length_append] at width
    rw [List.flatten_cons, fieldAt_append_iff width inside, ih rfl (by omega), fieldsAre]

theorem fieldAt_whole (d : List Byte) : fieldAt d 0 d.length = d := List.take_length

theorem eq_flatten_iff (d : List Byte) (fields : List (List Byte)) :
    d = fields.flatten ↔ d.length = fields.flatten.length ∧ fieldsAre d 0 fields := by
  constructor
  · intro whole
    have length := congrArg List.length whole
    exact ⟨length, (fieldAt_eq_flatten_iff length (by omega)).1 (by rw [fieldAt_whole]; exact whole)⟩
  · rintro ⟨length, fields⟩
    have whole := (fieldAt_eq_flatten_iff length (by omega)).2 fields
    rwa [fieldAt_whole] at whole

end Sys2Proof.Machine
end

section
/-!
The readers of the table entries (R183, check 5): each reads data exactly when the data are the bytes of a content in
its range.
-/
namespace Sys2Proof.Machine
open Sys2Proof

theorem ofLength_eq_some_iff (n : Nat) (d : List Byte) (u : Unit) : ofLength n d = some u ↔ d.length = n := by
  rw [ofLength, Option.ite_none_right_eq_some]
  exact and_iff_left rfl

@[simp] theorem mem_directions (x : MatchDirection) : x ∈ directions := by cases x <;> simp [directions]
@[simp] theorem mem_fieldWidths (x : FieldWidth) : x ∈ fieldWidths := by cases x <;> simp [fieldWidths]
@[simp] theorem mem_keyFunctions (x : KeyFunction) : x ∈ keyFunctions := by cases x <;> simp [keyFunctions]
@[simp] theorem mem_queueModes (x : QueueMode) : x ∈ queueModes := by cases x <;> simp [queueModes]
@[simp] theorem mem_triggerSources (x : TriggerSource) : x ∈ triggerSources := by cases x <;> simp [triggerSources]
@[simp] theorem mem_items (x : Item) : x ∈ items := by cases x <;> simp [items]
@[simp] theorem mem_routeValues (x : Route) : x ∈ routeValues := by cases x <;> simp [routeValues]
@[simp] theorem mem_wides (x : Bool) : x ∈ wides := by cases x <;> simp [wides]

theorem readGap_eq_some_iff (d : List Byte) (v : Nat) : readGap d = some v ↔ (2 ≤ v ∧ v ≤ 15) ∧ d = u8 v := by
  rw [show u8 v = [u8 v].flatten by simp, eq_flatten_iff]
  by_cases len : d.length = 1
  · simp [readGap, ofLength, len]
    grind
  · simp [readGap, ofLength, len]

/-- Four bits read from a byte. -/
theorem nibble_eq_iff (n : Nat) (v : BitVec 4) : (n ≤ 15 ∧ BitVec.ofNat 4 n = v) ↔ n = v.toNat := by
  have low := v.isLt
  constructor
  · rintro ⟨fits, rfl⟩
    rw [BitVec.toNat_ofNat]
    omega
  · rintro rfl
    exact ⟨by omega, by simp⟩

theorem nibble_bind_eq_some_iff (n : Nat) (v : BitVec 4) :
    ((natIn 0 15 n).bind fun m => some (BitVec.ofNat 4 m)) = some v ↔ n = v.toNat := by
  rw [← nibble_eq_iff, natIn]
  by_cases fits : n ≤ 15
  · rw [if_pos ⟨Nat.zero_le n, fits⟩, Option.bind_some, Option.some_inj, and_iff_right fits]
  · rw [if_neg fun h => fits h.2]
    exact ⟨nofun, fun h => absurd h.1 fits⟩

theorem readNibble_eq_some_iff (d : List Byte) (v : BitVec 4) :
    ((ofLength 1 d).bind fun _ => (natIn 0 15 (byteAt d 0)).bind fun n => some (BitVec.ofNat 4 n)) = some v ↔
      d = u8 v.toNat := by
  have low := v.isLt
  rw [show u8 v.toNat = [u8 v.toNat].flatten by simp, eq_flatten_iff]
  by_cases len : d.length = 1
  · have field := byteAt_eq_iff (d := d) (o := 0) (by omega) v.toNat
    rw [and_iff_right (by omega)] at field
    simp [ofLength, len, -byteAt_eq_iff, ← field, nibble_bind_eq_some_iff]
  · simp [ofLength, len]

theorem readPermit_eq_some_iff (d : List Byte) (v : BitVec 4) : readPermit d = some v ↔ d = u8 v.toNat :=
  readNibble_eq_some_iff d v

theorem readNode_eq_some_iff (d : List Byte) (v : BitVec 4) : readNode d = some v ↔ d = u8 v.toNat :=
  readNibble_eq_some_iff d v

theorem readSignal_eq_some_iff (d : List Byte) (c : SlotConfig) :
    readSignal d = some c ↔
      (-32768 ≤ c.gain ∧ c.gain ≤ 32767 ∧ c.shift ≤ 15 ∧ inS32 c.offset ∧ c.timeout ≤ 65535) ∧ d = signalBytes c := by
  rw [show signalBytes c = [s16 c.gain, u8 c.shift, s32 c.offset, u16 c.timeout].flatten by simp [signalBytes],
    eq_flatten_iff]
  obtain ⟨gain, shift, offset, timeout⟩ := c
  by_cases len : d.length = 9
  · simp [readSignal, ofLength, len, Option.bind_eq_some_iff, -Bool.exists_bool]
    grind
  · simp [readSignal, ofLength, len]

theorem readRole_eq_some_iff (d : List Byte) (v : Option (Fin 32)) :
    readRole d = some v ↔ d = u8 (v.elim 255 Fin.val) := by
  rw [show u8 (v.elim 255 Fin.val) = [u8 (v.elim 255 Fin.val)].flatten by simp, eq_flatten_iff]
  by_cases len : d.length = 1
  · simp [readRole, ofLength, len, optFinAt_eq_some_iff]
  · simp [readRole, ofLength, len]

theorem readKey_eq_some_iff (d : List Byte) (e : KeyEntry) : readKey d = some e ↔ d = keyBytes e := by
  rw [show keyBytes e = [flagByte e.inUse, [e.raw], enumByte keyFunctions e.function].flatten by simp [keyBytes],
    eq_flatten_iff]
  obtain ⟨inUse, raw, function⟩ := e
  by_cases len : d.length = 3
  · simp [readKey, ofLength, len, Option.bind_eq_some_iff, -Bool.exists_bool,
      enumAt_eq_some_iff (values := keyFunctions) (by decide) (by decide)]
    grind
  · simp [readKey, ofLength, len]

theorem readWord_eq_some_iff (d : List Byte) (w : SampleWord) :
    readWord d = some w ↔ w.settle ≤ 3 ∧ d = wordBytes w := by
  rw [show wordBytes w = [u8 (w.channel.elim 255 Fin.val), u8 w.settle, flagByte w.brk, flagByte w.last,
    u8 (w.dest.elim 255 Fin.val)].flatten by simp [wordBytes_eq], eq_flatten_iff]
  obtain ⟨channel, settle, brk, last, dest⟩ := w
  by_cases len : d.length = 5
  · simp [readWord, ofLength, len, Option.bind_eq_some_iff, -Bool.exists_bool, optFinAt_eq_some_iff]
    grind
  · simp [readWord, ofLength, len]

theorem readBoundary_eq_some_iff (d : List Byte) (v : Nat) :
    readBoundary d = some v ↔ (1 ≤ v ∧ v ≤ 47) ∧ d = u8 v := by
  rw [show u8 v = [u8 v].flatten by simp, eq_flatten_iff]
  by_cases len : d.length = 1
  · simp [readBoundary, ofLength, len]
    grind
  · simp [readBoundary, ofLength, len]

theorem readReload_eq_some_iff (d : List Byte) (v : Nat) : readReload d = some v ↔ v ≤ 65535 ∧ d = u16 v := by
  rw [show u16 v = [u16 v].flatten by simp, eq_flatten_iff]
  by_cases len : d.length = 2
  · simp [readReload, ofLength, len]
  · simp [readReload, ofLength, len]

/-- The weigh parameter record is read field by field. -/
theorem readWeigh_fields (d : List Byte) (p : WeighRecord) :
    readWeigh d = some p ↔ d.length = 35 ∧ intIn (-9000) 9000 (intAt d 0 2) = some p.thetaS ∧
      intIn (-9000) 9000 (intAt d 2 2) = some p.thetaE ∧ natIn 0 1000 (natAt d 4 2) = some p.hysteresis ∧
      natIn 0 200000 (natAt d 6 4) = some p.headArea ∧ natIn 0 200000 (natAt d 10 4) = some p.rodArea ∧
      natIn 0 16 (byteAt d 15) = some p.minBins ∧ natIn 0 18000 (natAt d 20 2) = some p.tiltLimit ∧
      natIn 0 9000 (natAt d 22 2) = some p.pitchLimit ∧ natIn 0 500 (natAt d 26 2) = some p.pitchCoeff ∧
      natIn 0 50 (byteAt d 28) = some p.rateBand ∧ natIn 0 60000 (natAt d 29 2) = some p.pressureMax ∧
      natIn 0 60000 (natAt d 31 2) = some p.ratedLoad ∧ natIn 0 10000 (natAt d 33 2) = some p.zeroLimit ∧
      byteAt d 14 = p.minSamples ∧ natAt d 16 2 = p.spreadGood ∧ natAt d 18 2 = p.spreadReject ∧
      natAt d 24 2 = p.accelLimit := by
  constructor
  · intro read
    obtain ⟨u, length, read⟩ := Option.bind_eq_some_iff.1 read
    obtain ⟨thetaS, f0, read⟩ := Option.bind_eq_some_iff.1 read
    obtain ⟨thetaE, f1, read⟩ := Option.bind_eq_some_iff.1 read
    obtain ⟨hysteresis, f2, read⟩ := Option.bind_eq_some_iff.1 read
    obtain ⟨headArea, f3, read⟩ := Option.bind_eq_some_iff.1 read
    obtain ⟨rodArea, f4, read⟩ := Option.bind_eq_some_iff.1 read
    obtain ⟨minBins, f5, read⟩ := Option.bind_eq_some_iff.1 read
    obtain ⟨tiltLimit, f6, read⟩ := Option.bind_eq_some_iff.1 read
    obtain ⟨pitchLimit, f7, read⟩ := Option.bind_eq_some_iff.1 read
    obtain ⟨pitchCoeff, f8, read⟩ := Option.bind_eq_some_iff.1 read
    obtain ⟨rateBand, f9, read⟩ := Option.bind_eq_some_iff.1 read
    obtain ⟨pressureMax, f10, read⟩ := Option.bind_eq_some_iff.1 read
    obtain ⟨ratedLoad, f11, read⟩ := Option.bind_eq_some_iff.1 read
    obtain ⟨zeroLimit, f12, read⟩ := Option.bind_eq_some_iff.1 read
    obtain rfl := Option.some.inj read
    exact ⟨(ofLength_eq_some_iff _ _ _).1 length, f0, f1, f2, f3, f4, f5, f6, f7, f8, f9, f10, f11, f12, rfl, rfl, rfl,
      rfl⟩
  · rintro ⟨length, f0, f1, f2, f3, f4, f5, f6, f7, f8, f9, f10, f11, f12, f13, f14, f15, f16⟩
    rw [readWeigh, (ofLength_eq_some_iff _ _ ()).2 length, f0, f1, f2, f3, f4, f5, f6, f7, f8, f9, f10, f11, f12, f13,
      f14, f15, f16]
    rfl

theorem readWeigh_eq_some_iff (d : List Byte) (p : WeighRecord) :
    readWeigh d = some p ↔ p.stored ∧ d = weighBytes p := by
  rw [show weighBytes p = [s16 p.thetaS, s16 p.thetaE, u16 p.hysteresis, u32 p.headArea, u32 p.rodArea, u8 p.minSamples,
    u8 p.minBins, u16 p.spreadGood, u16 p.spreadReject, u16 p.tiltLimit, u16 p.pitchLimit, u16 p.accelLimit,
    u16 p.pitchCoeff, u8 p.rateBand, u16 p.pressureMax, u16 p.ratedLoad, u16 p.zeroLimit].flatten by
    simp [weighBytes], eq_flatten_iff, readWeigh_fields]
  by_cases len : d.length = 35
  · simp [len, WeighRecord.stored]
    grind
  · simp [len]

/-- The cycle record is read field by field. -/
theorem readCycle_fields (d : List Byte) (k : CycleRecord) :
    readCycle d = some k ↔ d.length = 20 ∧ intIn (-9000) 9000 (intAt d 0 2) = some k.thetaDig ∧
      intIn (-9000) 9000 (intAt d 2 2) = some k.thetaCarry ∧ intIn (-18000) 18000 (intAt d 4 2) = some k.tauDump ∧
      natIn 0 60000 (natAt d 6 2) = some k.pDig ∧ natIn 0 2550 (natAt d 8 2) = some k.parkedDwell ∧
      natIn 0 2550 (natAt d 10 2) = some k.digDwell ∧ natIn 0 2550 (natAt d 12 2) = some k.liftDwell ∧
      natIn 0 2550 (natAt d 14 2) = some k.carryDwell ∧ natIn 0 2550 (natAt d 16 2) = some k.dumpDwell ∧
      natIn 0 2550 (natAt d 18 2) = some k.returnDwell := by
  constructor
  · intro read
    obtain ⟨u, length, read⟩ := Option.bind_eq_some_iff.1 read
    obtain ⟨thetaDig, f0, read⟩ := Option.bind_eq_some_iff.1 read
    obtain ⟨thetaCarry, f1, read⟩ := Option.bind_eq_some_iff.1 read
    obtain ⟨tauDump, f2, read⟩ := Option.bind_eq_some_iff.1 read
    obtain ⟨pDig, f3, read⟩ := Option.bind_eq_some_iff.1 read
    obtain ⟨parked, f4, read⟩ := Option.bind_eq_some_iff.1 read
    obtain ⟨dig, f5, read⟩ := Option.bind_eq_some_iff.1 read
    obtain ⟨lift, f6, read⟩ := Option.bind_eq_some_iff.1 read
    obtain ⟨carry, f7, read⟩ := Option.bind_eq_some_iff.1 read
    obtain ⟨dump, f8, read⟩ := Option.bind_eq_some_iff.1 read
    obtain ⟨back, f9, read⟩ := Option.bind_eq_some_iff.1 read
    obtain rfl := Option.some.inj read
    exact ⟨(ofLength_eq_some_iff _ _ _).1 length, f0, f1, f2, f3, f4, f5, f6, f7, f8, f9⟩
  · rintro ⟨length, f0, f1, f2, f3, f4, f5, f6, f7, f8, f9⟩
    rw [readCycle, (ofLength_eq_some_iff _ _ ()).2 length, f0, f1, f2, f3, f4, f5, f6, f7, f8, f9]
    rfl

theorem readCycle_eq_some_iff (d : List Byte) (k : CycleRecord) :
    readCycle d = some k ↔ k.stored ∧ d = cycleBytes k := by
  rw [show cycleBytes k = [s16 k.thetaDig, s16 k.thetaCarry, s16 k.tauDump, u16 k.pDig, u16 k.parkedDwell,
    u16 k.digDwell,
    u16 k.liftDwell, u16 k.carryDwell, u16 k.dumpDwell, u16 k.returnDwell].flatten by simp [cycleBytes], eq_flatten_iff,
    readCycle_fields]
  by_cases len : d.length = 20
  · simp [len, CycleRecord.stored]
    grind
  · simp [len]

theorem readAccount_eq_some_iff (d : List Byte) (p : AccountRecord) :
    readAccount d = some p ↔ (p.full ≤ 100 ∧ p.tolerance ≤ 100) ∧ d = accountBytes p := by
  rw [show accountBytes p = [u8 p.full, u8 p.tolerance].flatten by simp [accountBytes], eq_flatten_iff]
  cases p
  by_cases len : d.length = 2
  · simp [readAccount, ofLength, len, Option.bind_eq_some_iff, -Bool.exists_bool]
    grind
  · simp [readAccount, ofLength, len]

theorem readOverlay_eq_some_iff (d : List Byte) (e : OverlayEntry) :
    readOverlay d = some e ↔ (e.set ≤ 3 ∧ e.offset ≤ 59 ∧ e.divisor ∈ divisors) ∧ d = overlayBytes e := by
  rw [show overlayBytes e = [flagByte e.enable, u8 e.set, u8 e.offset, enumByte wides e.wide, enumByte items e.item,
    enumByte divisors e.divisor, flagByte e.fill].flatten by simp [overlayBytes], eq_flatten_iff]
  cases e
  by_cases len : d.length = 7
  · simp [readOverlay, ofLength, len, Option.bind_eq_some_iff, -Bool.exists_bool,
      enumAt_eq_some_iff (values := wides) (by decide) (by decide),
      enumAt_eq_some_iff (values := items) (by decide) (by decide),
      enumAt_eq_some_iff (values := divisors) (by decide) (by decide)]
    grind
  · simp [readOverlay, ofLength, len]

theorem readRoute_eq_some_iff (d : List Byte) (v : Route) : readRoute d = some v ↔ d = enumByte routeValues v := by
  rw [show enumByte routeValues v = [enumByte routeValues v].flatten by simp, eq_flatten_iff]
  by_cases len : d.length = 1
  · simp [readRoute, ofLength, len, enumAt_eq_some_iff (values := routeValues) (by decide) (by decide)]
  · simp [readRoute, ofLength, len]

theorem readShift_fields (d : List Byte) (e : ShiftEntry) :
    readShift d = some e ↔ d.length = 3 ∧ flagAt d 0 = some e.enable ∧ natIn 0 23 (byteAt d 1) = some e.hour ∧
      natIn 0 59 (byteAt d 2) = some e.minute := by
  constructor
  · intro read
    obtain ⟨u, length, read⟩ := Option.bind_eq_some_iff.1 read
    obtain ⟨enable, f0, read⟩ := Option.bind_eq_some_iff.1 read
    obtain ⟨hour, f1, read⟩ := Option.bind_eq_some_iff.1 read
    obtain ⟨minute, f2, read⟩ := Option.bind_eq_some_iff.1 read
    obtain rfl := Option.some.inj read
    exact ⟨(ofLength_eq_some_iff _ _ _).1 length, f0, f1, f2⟩
  · rintro ⟨length, f0, f1, f2⟩
    rw [readShift, (ofLength_eq_some_iff _ _ ()).2 length, f0, f1, f2]
    rfl

theorem readShift_eq_some_iff (d : List Byte) (e : ShiftEntry) :
    readShift d = some e ↔ (e.hour ≤ 23 ∧ e.minute ≤ 59) ∧ d = shiftBytes e := by
  rw [show shiftBytes e = [flagByte e.enable, u8 e.hour, u8 e.minute].flatten by simp [shiftBytes], eq_flatten_iff,
    readShift_fields]
  by_cases len : d.length = 3
  · simp [len]
    grind
  · simp [len]

theorem readSetup_fields (q : QueueId) (d : List Byte) (r : QueueSetup) :
    readSetup q d = some r ↔ d.length = 4 ∧ enumAt queueModes d 0 = some r.mode ∧
      enumAt triggerSources d 1 = some r.trigger ∧ flagAt d 2 = some r.arm ∧ (q = .slow → byteAt d 3 ≤ 1) ∧
      BitVec.ofNat 8 (byteAt d 3) = r.resume := by
  constructor
  · intro read
    obtain ⟨u, length, read⟩ := Option.bind_eq_some_iff.1 read
    obtain ⟨mode, f0, read⟩ := Option.bind_eq_some_iff.1 read
    obtain ⟨trigger, f1, read⟩ := Option.bind_eq_some_iff.1 read
    obtain ⟨arm, f2, read⟩ := Option.bind_eq_some_iff.1 read
    have length := (ofLength_eq_some_iff _ _ _).1 length
    cases q with
    | fast =>
      obtain rfl := Option.some.inj read
      exact ⟨length, f0, f1, f2, nofun, rfl⟩
    | slow =>
      obtain ⟨resume, f3, read⟩ := Option.bind_eq_some_iff.1 read
      obtain rfl := Option.some.inj read
      obtain ⟨rfl, -, least⟩ := (natIn_eq_some_iff _ _ _ _).1 f3
      exact ⟨length, f0, f1, f2, fun _ => least, rfl⟩
  · rintro ⟨length, f0, f1, f2, least, f3⟩
    rw [readSetup, (ofLength_eq_some_iff _ _ ()).2 length, f0, f1, f2]
    obtain ⟨mode, trigger, arm, resume⟩ := r
    subst f3
    cases q with
    | fast => rfl
    | slow =>
      have policy : natIn 0 1 (byteAt d 3) = some (byteAt d 3) :=
        (natIn_eq_some_iff 0 1 _ _).2 ⟨rfl, Nat.zero_le _, least rfl⟩
      rw [policy]
      rfl

theorem readSetup_eq_some_iff (q : QueueId) (d : List Byte) (r : QueueSetup) :
    readSetup q d = some r ↔ (q = .slow → r.resume.toNat ≤ 1) ∧ d = setupBytes r := by
  rw [show setupBytes r = [enumByte queueModes r.mode, enumByte triggerSources r.trigger, flagByte r.arm,
    [r.resume]].flatten by simp [setupBytes], eq_flatten_iff, readSetup_fields]
  by_cases len : d.length = 4
  · have value (field : fieldAt d 3 1 = [r.resume]) : byteAt d 3 = r.resume.toNat := by
      rw [byteAt, natAt, field, natOf_one]
    simp [len, -byteAt_eq_iff, enumAt_eq_some_iff (values := queueModes) (by decide) (by decide),
      enumAt_eq_some_iff (values := triggerSources) (by decide) (by decide)]
    grind
  · simp [len]

end Sys2Proof.Machine
end

section
/-!
Parts of an entry behind a presence byte (R183, R192; logs 26 and 35), and the readers of the CALIBRATION table.
-/
namespace Sys2Proof.Machine
open Sys2Proof

/-! ### Absent parts set to 0 -/

theorem fieldAt_getElem? (d : List Byte) (o k i : Nat) : (fieldAt d o k)[i]? = if i < k then d[o + i]? else none := by
  rw [fieldAt, List.getElem?_take, List.getElem?_drop]

theorem zeroAbsent_getElem? {p w : Nat} {d : List Byte} (inside : p + 1 + w ≤ d.length) (i : Nat) :
    (zeroAbsent p w d)[i]? = if byteAt d p = 0 ∧ p < i ∧ i < p + 1 + w then some 0 else d[i]? := by
  rw [zeroAbsent]
  split
  next absent =>
    simp only [List.getElem?_append, List.getElem?_take, List.getElem?_drop, List.getElem?_replicate,
      List.length_append,
      List.length_take, List.length_replicate, absent, true_and]
    grind
  next present => rw [if_neg (by simp [present])]

theorem zeroAbsent_length {p w : Nat} {d : List Byte} (inside : p + 1 + w ≤ d.length) :
    (zeroAbsent p w d).length = d.length := by
  rw [zeroAbsent]
  split
  · simp only [List.length_append, List.length_take, List.length_replicate, List.length_drop]
    omega
  · rfl

/-- A field that no byte set to 0 touches. -/
theorem fieldAt_zeroAbsent_apart {p w o k : Nat} {d : List Byte} (inside : p + 1 + w ≤ d.length)
    (apart : o + k ≤ p + 1 ∨ p + 1 + w ≤ o) : fieldAt (zeroAbsent p w d) o k = fieldAt d o k := by
  refine List.ext_getElem? fun i => ?_
  rw [fieldAt_getElem?, fieldAt_getElem?, zeroAbsent_getElem? inside]
  grind

theorem byteAt_zeroAbsent_apart {p w o : Nat} {d : List Byte} (inside : p + 1 + w ≤ d.length)
    (apart : o ≤ p ∨ p + 1 + w ≤ o) : byteAt (zeroAbsent p w d) o = byteAt d o := by
  rw [byteAt, natAt, fieldAt_zeroAbsent_apart inside (by omega)]
  rfl

/-- The part behind a presence byte of 0. -/
theorem fieldAt_zeroAbsent_absent {p w : Nat} {d : List Byte} (inside : p + 1 + w ≤ d.length)
    (absent : byteAt d p = 0) :
    fieldAt (zeroAbsent p w d) (p + 1) w = List.replicate w 0 := by
  refine List.ext_getElem? fun i => ?_
  rw [fieldAt_getElem?, zeroAbsent_getElem? inside, List.getElem?_replicate]
  grind

theorem zeroAbsent_present {p w : Nat} {d : List Byte} (present : byteAt d p ≠ 0) : zeroAbsent p w d = d :=
  if_neg present

/-- Data whose absent part is 0 stay as they are. -/
theorem zeroAbsent_eq_self {p w : Nat} {d : List Byte} (inside : p + 1 + w ≤ d.length)
    (zeros : byteAt d p = 0 → fieldAt d (p + 1) w = List.replicate w 0) : zeroAbsent p w d = d := by
  refine List.ext_getElem? fun i => ?_
  rw [zeroAbsent_getElem? inside]
  split
  next absent =>
    have at_ : (fieldAt d (p + 1) w)[i - (p + 1)]? = (List.replicate w (0 : Byte))[i - (p + 1)]? :=
      by rw [zeros absent.1]
    rw [fieldAt_getElem?, List.getElem?_replicate, if_pos (by omega), if_pos (by omega),
      show p + 1 + (i - (p + 1)) = i by omega] at at_
    exact at_.symm
  next => rfl

/-! ### Two parts, one behind the other -/

section
variable {p w q v : Nat} {d : List Byte} (apart : p + 1 + w ≤ q) (inside : q + 1 + v ≤ d.length)
include apart inside

theorem zeroAbsent_both_length : (zeroAbsent q v (zeroAbsent p w d)).length = d.length := by
  have first : (zeroAbsent p w d).length = d.length := zeroAbsent_length (by omega)
  rw [zeroAbsent_length (by omega), first]

theorem zeroAbsent_both_getElem? (i : Nat) :
    (zeroAbsent q v (zeroAbsent p w d))[i]? =
      if byteAt d q = 0 ∧ q < i ∧ i < q + 1 + v then some 0
      else if byteAt d p = 0 ∧ p < i ∧ i < p + 1 + w then some 0 else d[i]? := by
  have first : (zeroAbsent p w d).length = d.length := zeroAbsent_length (by omega)
  rw [zeroAbsent_getElem? (by omega), zeroAbsent_getElem? (by omega), byteAt_zeroAbsent_apart (by omega) (Or.inr apart)]

theorem byteAt_zeroAbsent_both {n : Nat} (place : n ≤ p ∨ n = q) :
    byteAt (zeroAbsent q v (zeroAbsent p w d)) n = byteAt d n := by
  have first : (zeroAbsent p w d).length = d.length := zeroAbsent_length (by omega)
  rw [byteAt_zeroAbsent_apart (by omega) (by omega), byteAt_zeroAbsent_apart (by omega) (by omega)]

theorem zeroAbsent_both_again :
    zeroAbsent q v (zeroAbsent p w (zeroAbsent q v (zeroAbsent p w d))) = zeroAbsent q v (zeroAbsent p w d) := by
  have length := zeroAbsent_both_length apart inside
  refine List.ext_getElem? fun i => ?_
  rw [zeroAbsent_both_getElem? apart (by omega), byteAt_zeroAbsent_both apart inside (Or.inr rfl),
    byteAt_zeroAbsent_both apart inside (Or.inl (Nat.le_refl p)), zeroAbsent_both_getElem? apart inside]
  grind

theorem fieldAt_zeroAbsent_first {o k : Nat} (before : o + k ≤ q + 1) :
    fieldAt (zeroAbsent q v (zeroAbsent p w d)) o k = fieldAt (zeroAbsent p w d) o k := by
  have first : (zeroAbsent p w d).length = d.length := zeroAbsent_length (by omega)
  exact fieldAt_zeroAbsent_apart (by omega) (Or.inl before)

theorem fieldAt_zeroAbsent_second {o k : Nat} (behind : p + 1 + w ≤ o) :
    fieldAt (zeroAbsent q v (zeroAbsent p w d)) o k = fieldAt (zeroAbsent q v d) o k := by
  refine List.ext_getElem? fun i => ?_
  rw [fieldAt_getElem?, fieldAt_getElem?, zeroAbsent_both_getElem? apart inside, zeroAbsent_getElem? inside]
  grind

end

/-! ### Optional parts -/

/-- The bytes of an optional part: its presence byte, and the part or as many bytes of 0. -/
def optLayout {α : Type} (w : Nat) (bytes : α → List Byte) : Option α → List Byte
  | some a => u8 1 ++ bytes a
  | none => u8 0 ++ List.replicate w 0

/-- A reader of an optional part: it reads the part behind a presence byte of 1, and nothing behind one of 0. -/
structure ReadsOptional {α : Type} (d : List Byte) (o : Nat) (part : Option α) (read : Option (Option α)) : Prop where
  absent : byteAt d o = 0 → read = some none
  present : byteAt d o = 1 → read = part.map some
  unfit : 1 < byteAt d o → read = none

theorem optLayout_length {α : Type} {w : Nat} {bytes : α → List Byte} (width : ∀ a, (bytes a).length = w)
    (x : Option α) : (optLayout w bytes x).length = 1 + w := by
  cases x <;> simp [optLayout, width]

theorem fieldAt_eq_optLayout_iff {α : Type} {w : Nat} {bytes : α → List Byte} (width : ∀ a, (bytes a).length = w)
    {d : List Byte} {o : Nat} (inside : o + 1 + w ≤ d.length) (x : Option α) :
    fieldAt d o (1 + w) = optLayout w bytes x ↔
      byteAt d o = (if x.isSome then 1 else 0) ∧ fieldAt d (o + 1) w = x.elim (List.replicate w 0) bytes := by
  have split (a b : List Byte) (one : a.length = 1) (rest : b.length = w) :
      fieldAt d o (1 + w) = a ++ b ↔ fieldAt d o 1 = a ∧ fieldAt d (o + 1) w = b := by
    rw [fieldAt_append_iff (by omega) (by omega), one, rest]
  cases x with
  | none => simp [optLayout, split _ _ (u8_length 0), byteAt_eq_iff (d := d) (o := o) (by omega)]
  | some a => simp [optLayout, split _ _ (u8_length 1), width, byteAt_eq_iff (d := d) (o := o) (by omega)]

theorem ReadsOptional.eq_some_iff {α : Type} {d : List Byte} {o w : Nat} {part : Option α} {read : Option (Option α)}
    (reads : ReadsOptional d o part read) {bytes : α → List Byte} (width : ∀ a, (bytes a).length = w) {ok : α → Prop}
    (inner : ∀ a, part = some a ↔ ok a ∧ fieldAt d (o + 1) w = bytes a) (inside : o + 1 + w ≤ d.length) (x : Option α) :
    read = some x ↔ (∀ a, x = some a → ok a) ∧ fieldAt (zeroAbsent o w d) o (1 + w) = optLayout w bytes x := by
  have inside' : o + 1 + w ≤ (zeroAbsent o w d).length := by rw [zeroAbsent_length inside]; exact inside
  rw [fieldAt_eq_optLayout_iff width inside', byteAt_zeroAbsent_apart inside (Or.inl (Nat.le_refl o))]
  rcases Nat.lt_trichotomy (byteAt d o) 1 with absent | present | unfit
  · have zero : byteAt d o = 0 := by omega
    rw [reads.absent zero, fieldAt_zeroAbsent_absent inside zero]
    cases x <;> simp [zero]
  · rw [reads.present present, zeroAbsent_present (by omega)]
    cases x <;> simp [present, inner]
  · rw [reads.unfit unfit]
    cases x <;> simp <;> omega

/-! ### The CALIBRATION table -/

theorem readForce_optional (d : List Byte) (o : Nat) :
    ReadsOptional d o (some (intAt d (o + 1) 4)) (readForce d o) where
  absent zero := by simp [readForce, flagAt, zero]
  present one := by simp [readForce, flagAt, one]
  unfit large := by simp [readForce, flagAt_unfit large]

theorem readForce_eq_some_iff {d : List Byte} {o : Nat} (inside : o + 5 ≤ d.length) (x : Option Int) :
    readForce d o = some x ↔
      (∀ n, x = some n → inS32 n) ∧ fieldAt (zeroAbsent o 4 d) o 5 = optLayout 4 s32 x := by
  refine (readForce_optional d o).eq_some_iff s32_length (fun n => ?_) (by omega) x
  rw [Option.some_inj, intAt_four_iff (by omega)]

theorem readCalHead_fields (c : CalRecord) (d : List Byte) (r : CalRecord) :
    readCalHead c d = some r ↔ d.length = 10 ∧ natIn 500 30000 (natAt d 0 2) = some r.mref ∧
      intIn (-30000) 30000 (intAt d 2 2) = some r.zeroOffset ∧ natIn 0 1000000 (natAt d 6 4) = some r.minDelta ∧
      natAt d 4 2 = r.rate ∧ r.empty = c.empty ∧ r.reference = c.reference := by
  constructor
  · intro read
    obtain ⟨u, length, read⟩ := Option.bind_eq_some_iff.1 read
    obtain ⟨mref, f0, read⟩ := Option.bind_eq_some_iff.1 read
    obtain ⟨zero, f1, read⟩ := Option.bind_eq_some_iff.1 read
    obtain ⟨delta, f2, read⟩ := Option.bind_eq_some_iff.1 read
    obtain rfl := Option.some.inj read
    exact ⟨(ofLength_eq_some_iff _ _ _).1 length, f0, f1, f2, rfl, rfl, rfl⟩
  · rintro ⟨length, f0, f1, f2, f3, empty, reference⟩
    rw [readCalHead, (ofLength_eq_some_iff _ _ ()).2 length, f0, f1, f2, f3, ← empty, ← reference]
    rfl

theorem readCalHead_eq_some_iff (c : CalRecord) (d : List Byte) (r : CalRecord) :
    readCalHead c d = some r ↔
      (500 ≤ r.mref ∧ r.mref ≤ 30000 ∧ -30000 ≤ r.zeroOffset ∧ r.zeroOffset ≤ 30000 ∧ r.rate ≤ 65535 ∧
        r.minDelta ≤ 1000000) ∧
      (r.empty = c.empty ∧ r.reference = c.reference) ∧ d = calHeadBytes r := by
  rw [show calHeadBytes r = [u16 r.mref, s16 r.zeroOffset, u16 r.rate, u32 r.minDelta].flatten by simp [calHeadBytes],
    eq_flatten_iff, readCalHead_fields]
  by_cases len : d.length = 10
  · simp [len]
    grind
  · simp [len]

/-- A record with the forces of one bin replaced. -/
def CalRecord.withBin (c : CalRecord) (b : Nat) (e r : Option Int) : CalRecord :=
  { c with empty := c.empty.setIfInBounds b e, reference := c.reference.setIfInBounds b r }

theorem zeroForces_eq_iff {d : List Byte} (length : d.length = 10) (e r : Option Int) :
    zeroAbsent 5 4 (zeroAbsent 0 4 d) = optLayout 4 s32 e ++ optLayout 4 s32 r ↔
      fieldAt (zeroAbsent 0 4 d) 0 5 = optLayout 4 s32 e ∧ fieldAt (zeroAbsent 5 4 d) 5 5 = optLayout 4 s32 r := by
  have widths : ∀ x, (optLayout 4 s32 x).length = 5 := optLayout_length s32_length
  rw [show optLayout 4 s32 e ++ optLayout 4 s32 r = [optLayout 4 s32 e, optLayout 4 s32 r].flatten by simp,
    eq_flatten_iff, zeroAbsent_both_length (by omega) (by omega), length]
  simp only [fieldsAre, widths, List.flatten_cons, List.length_append, List.flatten_nil, List.length_nil, true_and,
    and_true, Nat.zero_add]
  rw [fieldAt_zeroAbsent_first (by omega) (by omega) (by omega),
    fieldAt_zeroAbsent_second (by omega) (by omega) (by omega)]

theorem readCalBin_eq_some_iff (c : CalRecord) (b : Nat) (d : List Byte) (v : CalRecord) :
    readCalBin c b d = some v ↔
      ∃ e r, (∀ x, e = some x → inS32 x) ∧ (∀ x, r = some x → inS32 x) ∧ v = c.withBin b e r ∧ d.length = 10 ∧
        zeroAbsent 5 4 (zeroAbsent 0 4 d) = optLayout 4 s32 e ++ optLayout 4 s32 r := by
  constructor
  · intro read
    obtain ⟨u, length, read⟩ := Option.bind_eq_some_iff.1 read
    have length := (ofLength_eq_some_iff _ _ _).1 length
    obtain ⟨e, first, read⟩ := Option.bind_eq_some_iff.1 read
    obtain ⟨r, second, read⟩ := Option.bind_eq_some_iff.1 read
    obtain ⟨inE, fieldE⟩ := (readForce_eq_some_iff (by omega) e).1 first
    obtain ⟨inR, fieldR⟩ := (readForce_eq_some_iff (by omega) r).1 second
    exact ⟨e, r, inE, inR, (Option.some.inj read).symm, length, (zeroForces_eq_iff length e r).2 ⟨fieldE, fieldR⟩⟩
  · rintro ⟨e, r, inE, inR, rfl, length, layout⟩
    obtain ⟨fieldE, fieldR⟩ := (zeroForces_eq_iff length e r).1 layout
    rw [readCalBin, (ofLength_eq_some_iff _ _ ()).2 length, (readForce_eq_some_iff (by omega) e).2 ⟨inE, fieldE⟩,
      (readForce_eq_some_iff (by omega) r).2 ⟨inR, fieldR⟩]
    rfl

end Sys2Proof.Machine
end

section
/-!
The reader of a MATCH entry (R27, R28, R183).
-/
namespace Sys2Proof.Machine
open Sys2Proof

/-! ### Field descriptors -/

theorem descBytes_length (f : FieldDesc) : (descBytes f).length = 5 := by simp [descBytes]

theorem readDesc_eq_some_iff {d : List Byte} {o : Nat} (inside : o + 5 ≤ d.length) (f : FieldDesc) :
    readDesc d o = some f ↔ f.inRange ∧ fieldAt d o 5 = descBytes f := by
  have layout : descBytes f = [u8 f.offset, enumByte fieldWidths f.width, u8 f.bit, flagByte f.lowFirst,
      flagByte f.signed].flatten := by simp [descBytes]
  rw [layout, fieldAt_eq_flatten_iff (by simp) inside]
  obtain ⟨offset, width, bit, low, signed⟩ := f
  have i0 : o + 1 ≤ d.length := by omega
  have i1 : o + 1 + 1 ≤ d.length := by omega
  have i2 : o + 2 + 1 ≤ d.length := by omega
  have i3 : o + 3 + 1 ≤ d.length := by omega
  have i4 : o + 4 + 1 ≤ d.length := by omega
  simp [readDesc, Option.bind_eq_some_iff, -Bool.exists_bool, FieldDesc.inRange, i0, i1, i2, i3, i4, Nat.add_assoc,
    enumAt_eq_some_iff (values := fieldWidths) (by decide) (by decide)]
  grind

theorem readOptDesc_optional (d : List Byte) (o : Nat) : ReadsOptional d o (readDesc d (o + 1)) (readOptDesc d o) where
  absent zero := by simp [readOptDesc, flagAt, zero]
  present one := by
    simp only [readOptDesc, flagAt, one]
    cases readDesc d (o + 1) <;> rfl
  unfit large := by simp [readOptDesc, flagAt_unfit large]

theorem optDescBytes_eq (x : Option FieldDesc) : optDescBytes x = optLayout 5 descBytes x := by
  cases x <;> rfl

theorem readOptDesc_eq_some_iff {d : List Byte} {o : Nat} (inside : o + 6 ≤ d.length) (x : Option FieldDesc) :
    readOptDesc d o = some x ↔
      (∀ f, x = some f → f.inRange) ∧ fieldAt (zeroAbsent o 5 d) o 6 = optDescBytes x := by
  rw [optDescBytes_eq]
  exact (readOptDesc_optional d o).eq_some_iff descBytes_length (readDesc_eq_some_iff (by omega)) (by omega) x

/-! ### Lists of fields -/

theorem fieldsBytes_length (fields : List (FieldDesc × Fin 32)) :
    (fields.flatMap fun f => descBytes f.1 ++ u8 f.2).length = 6 * fields.length := by
  induction fields with
  | nil => rfl
  | cons f fields ih =>
    rw [List.flatMap_cons, List.length_append, ih, List.length_append, descBytes_length, u8_length, List.length_cons]
    omega

theorem readFields_eq_some_iff {d : List Byte} {o n : Nat} (inside : o + 6 * n ≤ d.length)
    (fields : List (FieldDesc × Fin 32)) :
    readFields d o n = some fields ↔ fields.length = n ∧ (∀ f ∈ fields, f.1.inRange) ∧
      fieldAt d o (6 * n) = fields.flatMap fun f => descBytes f.1 ++ u8 f.2 := by
  induction n generalizing o fields with
  | zero =>
    rw [readFields, Option.some_inj, Nat.mul_zero, fieldAt_zero]
    constructor
    · rintro rfl
      exact ⟨rfl, by simp, rfl⟩
    · exact fun ⟨empty, _⟩ => (List.length_eq_zero_iff.1 empty).symm
  | succ n ih =>
    have rest := fun tail => ih (o := o + 6) (by omega) tail
    cases fields with
    | nil =>
      simp [readFields, Option.bind_eq_some_iff]
    | cons f fields =>
      have cut : fieldAt d o (6 * (n + 1)) = (descBytes f.1 ++ u8 f.2) ++
        fields.flatMap (fun f => descBytes f.1 ++ u8 f.2) ↔
          (fieldAt d o 5 = descBytes f.1 ∧ fieldAt d (o + 5) 1 = u8 f.2) ∧
            fieldAt d (o + 6) (6 * n) = fields.flatMap (fun f => descBytes f.1 ++ u8 f.2) := by
        rw [show 6 * (n + 1) = 5 + 1 + 6 * n by omega, fieldAt_add, fieldAt_add]
        constructor
        · intro same
          obtain ⟨front, back⟩ := List.append_inj same (by
            rw [← fieldAt_add, fieldAt_length (by omega), List.length_append, descBytes_length, u8_length])
          obtain ⟨desc, slot⟩ := List.append_inj front (by rw [fieldAt_length (by omega), descBytes_length])
          exact ⟨⟨desc, slot⟩, back⟩
        · rintro ⟨⟨desc, slot⟩, back⟩
          rw [desc, slot, back]
      rw [List.flatMap_cons, cut]
      simp [readFields, Option.bind_eq_some_iff, readDesc_eq_some_iff (d := d) (o := o) (by omega),
        finAt_eq_some_iff (n := 32) (d := d) (o := o + 5) (by omega) (by omega), rest]
      grind

/-! ### Actions -/

/-- The code of an action (R27). -/
def MatchAction.code : MatchAction → Nat
  | .extract _ => 0
  | .key _ => 1
  | .target _ _ _ => 2
  | .page _ => 3

/-- The bytes of an action behind its code. -/
def MatchAction.data : MatchAction → List Byte
  | .extract fields => u8 fields.length ++ fields.flatMap fun f => descBytes f.1 ++ u8 f.2
  | .key offset => u8 offset
  | .target id capacity departure => descBytes id ++ optDescBytes capacity ++ optDescBytes departure
  | .page set => u8 set

theorem actionBytes_eq_code (a : MatchAction) : actionBytes a = u8 a.code ++ a.data := by
  cases a <;> simp [actionBytes, MatchAction.code, MatchAction.data]

theorem optDescBytes_length (x : Option FieldDesc) : (optDescBytes x).length = 6 := by
  rw [optDescBytes_eq, optLayout_length descBytes_length]

/-- An action in its range (R27). -/
def MatchAction.inRange (a : MatchAction) : Prop :=
  (∀ f ∈ a.descriptors, f.inRange) ∧
    match a with
    | .extract fields => fields.length ≤ 3
    | .key offset => offset ≤ 59
    | .target _ _ _ => True
    | .page set => set ≤ 3

theorem asRead_match (index : Nat) (d : List Byte) :
    asRead 2 index d = if byteAt d 10 = 2 then zeroAbsent 22 5 (zeroAbsent 16 5 d) else d := by
  simp [asRead]

theorem readAction_code {d : List Byte} {a : MatchAction} (read : readAction d 10 = some a) : byteAt d 10 = a.code := by
  unfold readAction at read
  dsimp only at read
  split at read
  next code =>
    obtain ⟨n, -, read⟩ := Option.bind_eq_some_iff.1 read
    split at read
    · obtain ⟨fields, -, read⟩ := Option.bind_eq_some_iff.1 read
      obtain rfl := Option.some.inj read
      exact code
    · cases read
  next code =>
    split at read
    · obtain ⟨n, -, rfl⟩ := Option.map_eq_some_iff.1 read
      exact code
    · cases read
  next code =>
    split at read
    · obtain ⟨id, -, read⟩ := Option.bind_eq_some_iff.1 read
      obtain ⟨capacity, -, read⟩ := Option.bind_eq_some_iff.1 read
      obtain ⟨departure, -, read⟩ := Option.bind_eq_some_iff.1 read
      obtain rfl := Option.some.inj read
      exact code
    · cases read
  next code =>
    split at read
    · obtain ⟨n, -, rfl⟩ := Option.map_eq_some_iff.1 read
      exact code
    · cases read
  next => cases read

theorem readAction_extract_iff {d : List Byte} (long : 12 ≤ d.length) (code : byteAt d 10 = 0)
    (fields : List (FieldDesc × Fin 32)) :
    readAction d 10 = some (.extract fields) ↔ (MatchAction.extract fields).inRange ∧
      d.length = 11 + (MatchAction.extract fields).data.length ∧
      fieldAt d 11 (MatchAction.extract fields).data.length = (MatchAction.extract fields).data := by
  have data : (MatchAction.extract fields).data.length = 1 + 6 * fields.length := by
    rw [MatchAction.data, List.length_append, fieldsBytes_length, u8_length]
  have inRange : (MatchAction.extract fields).inRange ↔ (∀ f ∈ fields, f.1.inRange) ∧ fields.length ≤ 3 := by
    simp [MatchAction.inRange, MatchAction.descriptors]
  have unfolded : readAction d 10 = (natIn 0 3 (byteAt d 11)).bind fun n =>
      if d.length - 10 = 2 + 6 * n then (readFields d 12 n).bind fun fields => some (.extract fields) else none := by
    rw [readAction, code]
    rfl
  have count := byteAt_eq_iff (d := d) (o := 11) (by omega) fields.length
  rw [inRange, data, unfolded]
  constructor
  · intro read
    obtain ⟨n, number, read⟩ := Option.bind_eq_some_iff.1 read
    obtain ⟨length, read⟩ := Option.ite_none_right_eq_some.1 read
    obtain ⟨listed, read, same⟩ := Option.bind_eq_some_iff.1 read
    cases same
    obtain ⟨number, -, few⟩ := (natIn_eq_some_iff _ _ _ _).1 number
    obtain ⟨many, ranges, behind⟩ := (readFields_eq_some_iff (by omega) fields).1 read
    subst many
    refine ⟨⟨ranges, few⟩, by omega, ?_⟩
    rw [MatchAction.data, fieldAt_append_iff (by rw [fieldsBytes_length, u8_length]) (by omega), fieldsBytes_length]
    exact ⟨(count.1 number).2, behind⟩
  · rintro ⟨⟨ranges, few⟩, length, layout⟩
    rw [MatchAction.data, fieldAt_append_iff (by rw [fieldsBytes_length, u8_length]) (by omega),
      fieldsBytes_length] at layout
    obtain ⟨number, behind⟩ := layout
    refine Option.bind_eq_some_iff.2 ⟨fields.length, (natIn_eq_some_iff _ _ _ _).2
      ⟨count.2 ⟨by omega, number⟩, Nat.zero_le _, few⟩, ?_⟩
    rw [if_pos (by omega), (readFields_eq_some_iff (o := 12) (by omega) fields).2 ⟨rfl, ranges, behind⟩]
    rfl

theorem readAction_target_iff {d : List Byte} (code : byteAt d 10 = 2) (id : FieldDesc)
    (capacity departure : Option FieldDesc) :
    readAction d 10 = some (.target id capacity departure) ↔ (MatchAction.target id capacity departure).inRange ∧
      d.length = 11 + (MatchAction.target id capacity departure).data.length ∧
      fieldAt (zeroAbsent 22 5 (zeroAbsent 16 5 d)) 11 (MatchAction.target id capacity departure).data.length =
        (MatchAction.target id capacity departure).data := by
  have data : (MatchAction.target id capacity departure).data.length = 17 := by
    simp only [MatchAction.data, List.length_append, descBytes_length, optDescBytes_length]
  have inRange : (MatchAction.target id capacity departure).inRange ↔
      id.inRange ∧ (∀ f, capacity = some f → f.inRange) ∧ ∀ f, departure = some f → f.inRange := by
    cases capacity <;> cases departure <;> simp [MatchAction.inRange, MatchAction.descriptors]
  have unfolded : readAction d 10 = if d.length - 10 = 18 then
      (readDesc d 11).bind fun id => (readOptDesc d 16).bind fun capacity => (readOptDesc d 22).bind fun departure =>
        some (.target id capacity departure) else none := by
    rw [readAction, code]
    rfl
  rw [inRange, data, unfolded]
  by_cases length : d.length = 28
  · have layout : fieldAt (zeroAbsent 22 5 (zeroAbsent 16 5 d)) 11 17 =
          (MatchAction.target id capacity departure).data ↔
        fieldAt d 11 5 = descBytes id ∧ fieldAt (zeroAbsent 16 5 d) 16 6 = optDescBytes capacity ∧
          fieldAt (zeroAbsent 22 5 d) 22 6 = optDescBytes departure := by
      rw [show (MatchAction.target id capacity departure).data =
          [descBytes id, optDescBytes capacity, optDescBytes departure].flatten by simp [MatchAction.data],
        fieldAt_eq_flatten_iff (by simp [descBytes_length, optDescBytes_length])
          (by rw [zeroAbsent_both_length (by omega) (by omega)]; omega)]
      simp only [fieldsAre, descBytes_length, optDescBytes_length, and_true]
      rw [fieldAt_zeroAbsent_first (by omega) (by omega) (by omega),
        fieldAt_zeroAbsent_first (by omega) (by omega) (by omega),
        fieldAt_zeroAbsent_second (by omega) (by omega) (by omega), fieldAt_zeroAbsent_apart (by omega) (by omega)]
    rw [layout, if_pos (by omega)]
    simp [Option.bind_eq_some_iff, readDesc_eq_some_iff (d := d) (o := 11) (by omega),
      readOptDesc_eq_some_iff (d := d) (o := 16) (by omega), readOptDesc_eq_some_iff (d := d) (o := 22) (by omega),
        length]
    grind
  · simp [length, show d.length - 10 ≠ 18 by omega]

/-- The data of an action of a code are read where they stand, behind the head of ten bytes and the code. -/
theorem readAction_eq_some_iff {d : List Byte} (long : 12 ≤ d.length) {a : MatchAction} (code : byteAt d 10 = a.code)
    (index : Nat) :
    readAction d 10 = some a ↔ a.inRange ∧ d.length = 11 + a.data.length ∧
      fieldAt (asRead 2 index d) 11 a.data.length = a.data := by
  rw [asRead_match]
  cases a with
  | extract fields =>
    rw [if_neg (by rw [code]; exact nofun)]
    exact readAction_extract_iff long code fields
  | key offset =>
    have one : byteAt d 10 = 1 := code
    have data : (MatchAction.key offset).data.length = 1 := u8_length _
    rw [if_neg (by omega), data]
    by_cases len : d.length = 12
    · simp [readAction, one, len, MatchAction.inRange, MatchAction.descriptors, MatchAction.data]
      grind
    · simp [readAction, one, show d.length - 10 ≠ 2 by omega, len]
  | target id capacity departure =>
    rw [if_pos (show byteAt d 10 = 2 from code)]
    exact readAction_target_iff code id capacity departure
  | page set =>
    have three : byteAt d 10 = 3 := code
    have data : (MatchAction.page set).data.length = 1 := u8_length _
    rw [if_neg (by omega), data]
    by_cases len : d.length = 12
    · simp [readAction, three, len, MatchAction.inRange, MatchAction.descriptors, MatchAction.data]
      grind
    · simp [readAction, three, show d.length - 10 ≠ 2 by omega, len]

/-! ### The entry -/

theorem MatchEntry.inRange_iff (e : MatchEntry) : e.inRange ↔ e.minLength ≤ 60 ∧ e.action.inRange := Iff.rfl

/-- A MATCH entry is read field by field. -/
theorem readMatch_fields (d : List Byte) (e : MatchEntry) :
    readMatch d = some e ↔ 12 ≤ d.length ∧ flagAt d 0 = some e.enable ∧ enumAt directions d 1 = some e.direction ∧
      byteAt d 4 = e.sourceValue.toNat ∧ byteAt d 5 = e.sourceMask.toNat ∧ natIn 0 60 (byteAt d 8) = some e.minLength ∧
      flagAt d 9 = some e.consume ∧ readAction d 10 = some e.action ∧ BitVec.ofNat 8 (byteAt d 2) = e.classValue ∧
      BitVec.ofNat 8 (byteAt d 3) = e.classMask ∧ BitVec.ofNat 8 (byteAt d 6) = e.byte0Value ∧
      BitVec.ofNat 8 (byteAt d 7) = e.byte0Mask := by
  have nibble (n m : Nat) (v : BitVec 4) (read : natIn 0 15 n = some m) (value : BitVec.ofNat 4 m = v) :
    n = v.toNat := by
    obtain ⟨rfl, -, fits⟩ := (natIn_eq_some_iff _ _ _ _).1 read
    exact (nibble_eq_iff n v).1 ⟨fits, value⟩
  have nibble' (n : Nat) (v : BitVec 4) (same : n = v.toNat) : natIn 0 15 n = some v.toNat := by
    have low := v.isLt
    exact (natIn_eq_some_iff _ _ _ _).2 ⟨same, Nat.zero_le _, by omega⟩
  constructor
  · intro read
    unfold readMatch at read
    split at read
    next => cases read
    next long =>
      obtain ⟨enable, f0, read⟩ := Option.bind_eq_some_iff.1 read
      obtain ⟨direction, f1, read⟩ := Option.bind_eq_some_iff.1 read
      obtain ⟨sv, f2, read⟩ := Option.bind_eq_some_iff.1 read
      obtain ⟨sm, f3, read⟩ := Option.bind_eq_some_iff.1 read
      obtain ⟨minLength, f4, read⟩ := Option.bind_eq_some_iff.1 read
      obtain ⟨consume, f5, read⟩ := Option.bind_eq_some_iff.1 read
      obtain ⟨action, f6, read⟩ := Option.bind_eq_some_iff.1 read
      obtain rfl := Option.some.inj read
      exact ⟨Nat.le_of_not_lt long, f0, f1, nibble _ _ _ f2 rfl, nibble _ _ _ f3 rfl, f4, f5, f6, rfl, rfl, rfl, rfl⟩
  · rintro ⟨long, f0, f1, f2, f3, f4, f5, f6, f7, f8, f9, f10⟩
    rw [readMatch, if_neg (by omega), f0, f1, nibble' _ _ f2, nibble' _ _ f3, f4, f5, f6, f7, f8, f9, f10]
    refine congrArg some ?_
    simp

/-- The head of a MATCH entry, with the code of its action. -/
def MatchEntry.head (e : MatchEntry) : List (List Byte) :=
  [flagByte e.enable, enumByte directions e.direction, [e.classValue], [e.classMask], u8 e.sourceValue.toNat,
    u8 e.sourceMask.toNat, [e.byte0Value], [e.byte0Mask], u8 e.minLength, flagByte e.consume, u8 e.action.code]

theorem matchBytes_eq_head (e : MatchEntry) : matchBytes e = e.head.flatten ++ e.action.data := by
  rw [matchBytes, actionBytes_eq_code]
  simp [MatchEntry.head]

theorem MatchEntry.head_length (e : MatchEntry) : e.head.flatten.length = 11 := by simp [MatchEntry.head]

theorem matchBytes_length (e : MatchEntry) : (matchBytes e).length = 11 + e.action.data.length := by
  rw [matchBytes_eq_head, List.length_append, e.head_length]

theorem MatchAction.code_le (a : MatchAction) : a.code ≤ 255 := by cases a <;> simp [MatchAction.code]

theorem MatchAction.data_pos (a : MatchAction) : 1 ≤ a.data.length := by
  cases a <;> simp [MatchAction.data, descBytes_length]
  omega

/-- The head stands where the readers of its fields read. -/
theorem MatchEntry.head_stands_iff {d : List Byte} (long : 12 ≤ d.length) (e : MatchEntry) :
    e.minLength ≤ 60 ∧ fieldsAre d 0 e.head ↔
      (flagAt d 0 = some e.enable ∧ enumAt directions d 1 = some e.direction ∧
        byteAt d 4 = e.sourceValue.toNat ∧ byteAt d 5 = e.sourceMask.toNat ∧
          natIn 0 60 (byteAt d 8) = some e.minLength ∧
        flagAt d 9 = some e.consume ∧ BitVec.ofNat 8 (byteAt d 2) = e.classValue ∧
        BitVec.ofNat 8 (byteAt d 3) = e.classMask ∧ BitVec.ofNat 8 (byteAt d 6) = e.byte0Value ∧
        BitVec.ofNat 8 (byteAt d 7) = e.byte0Mask) ∧ byteAt d 10 = e.action.code := by
  have value : e.sourceValue.toNat ≤ 255 := by have := e.sourceValue.isLt; omega
  have mask : e.sourceMask.toNat ≤ 255 := by have := e.sourceMask.isLt; omega
  have code := e.action.code_le
  rw [flagAt_eq_some_iff (by omega), enumAt_eq_some_iff (by decide) (by decide) (by omega), byteAt_eq_iff (by omega),
    byteAt_eq_iff (by omega), natIn_eq_some_iff, byteAt_eq_iff (by omega), flagAt_eq_some_iff (by omega),
    ofNat_byteAt_iff (by omega), ofNat_byteAt_iff (by omega), ofNat_byteAt_iff (by omega), ofNat_byteAt_iff (by omega),
    byteAt_eq_iff (by omega)]
  simp [MatchEntry.head, value, mask, code]
  grind

theorem fieldAt_zeroAbsent_front {p w o k : Nat} {d : List Byte} (front : o + k ≤ p + 1) (inside : o + k ≤ d.length) :
    fieldAt (zeroAbsent p w d) o k = fieldAt d o k := by
  rw [zeroAbsent]
  split
  · refine List.ext_getElem? fun i => ?_
    simp only [fieldAt_getElem?, List.append_assoc, List.getElem?_append, List.getElem?_take, List.length_take]
    grind
  · rfl

theorem fieldAt_asRead_head (index : Nat) {d : List Byte} (long : 11 ≤ d.length) :
    fieldAt (asRead 2 index d) 0 11 = fieldAt d 0 11 := by
  rw [asRead_match]
  split
  · have longer : 11 ≤ (zeroAbsent 16 5 d).length := by
      have front := congrArg List.length (fieldAt_zeroAbsent_front (p := 16) (w := 5) (o := 0) (k := 11)
        (by omega) long)
      rw [fieldAt_length (d := d) (by omega), fieldAt, List.drop_zero, List.length_take] at front
      omega
    rw [fieldAt_zeroAbsent_front (by omega) longer, fieldAt_zeroAbsent_front (by omega) long]
  · rfl

/-- Data whose action code and length agree keep their length when the absent descriptors are set to 0. -/
theorem asRead_match_length (index : Nat) {d : List Byte} {a : MatchAction} (code : byteAt d 10 = a.code)
    (length : d.length = 11 + a.data.length) : (asRead 2 index d).length = d.length := by
  rw [asRead_match]
  split
  next target =>
    cases a with
    | target id capacity departure =>
      have data : (MatchAction.target id capacity departure).data.length = 17 := by
        simp only [MatchAction.data, List.length_append, descBytes_length, optDescBytes_length]
      exact zeroAbsent_both_length (by omega) (by omega)
    | _ => rw [target] at code; cases code
  next => rfl

theorem matchBytes_eq_asRead_iff {d : List Byte} (e : MatchEntry) (index : Nat)
    (length : d.length = 11 + e.action.data.length) :
    matchBytes e = asRead 2 index d ↔
      fieldsAre d 0 e.head ∧ fieldAt (asRead 2 index d) 11 e.action.data.length = e.action.data := by
  have some' := e.action.data_pos
  have head := fieldAt_asRead_head index (d := d) (by omega)
  have stands : fieldAt d 0 11 = e.head.flatten ↔ fieldsAre d 0 e.head :=
    fieldAt_eq_flatten_iff e.head_length.symm (by omega)
  have cut (same : (asRead 2 index d).length = d.length) :
      asRead 2 index d = e.head.flatten ++ e.action.data ↔
        fieldAt (asRead 2 index d) 0 11 = e.head.flatten ∧
          fieldAt (asRead 2 index d) 11 e.action.data.length = e.action.data := by
    have whole := fieldAt_append_iff (d := asRead 2 index d) (o := 0) (k := (asRead 2 index d).length)
      (a := e.head.flatten) (b := e.action.data) (by rw [e.head_length, same, length]) (by omega)
    rwa [fieldAt_whole, e.head_length] at whole
  rw [matchBytes_eq_head, eq_comm, ← stands, ← head]
  constructor
  · intro whole
    refine (cut ?_).1 whole
    rw [whole, List.length_append, e.head_length, length]
  · intro parts
    have code : byteAt d 10 = e.action.code := by
      have place := stands.1 (head ▸ parts.1)
      simp only [MatchEntry.head, fieldsAre, u8_length, flagByte_length, enumByte_length, List.length_singleton,
        and_true] at place
      obtain ⟨-, -, -, -, -, -, -, -, -, -, last⟩ := place
      exact (byteAt_eq_iff (by omega) _).2 ⟨e.action.code_le, last⟩
    exact (cut (asRead_match_length index code length)).2 parts

theorem readMatch_eq_some_iff (d : List Byte) (e : MatchEntry) (index : Nat) :
    readMatch d = some e ↔
      e.inRange ∧ d.length = (matchBytes e).length ∧ matchBytes e = asRead 2 index d := by
  have some' := e.action.data_pos
  rw [readMatch_fields, matchBytes_length, e.inRange_iff]
  by_cases length : d.length = 11 + e.action.data.length
  · have head := e.head_stands_iff (d := d) (by omega)
    rw [matchBytes_eq_asRead_iff e index length]
    constructor
    · rintro ⟨long, f0, f1, f2, f3, f4, f5, action, f6, f7, f8, f9⟩
      have code := readAction_code action
      obtain ⟨fits, stands⟩ := head.2 ⟨⟨f0, f1, f2, f3, f4, f5, f6, f7, f8, f9⟩, code⟩
      obtain ⟨ranges, -, behind⟩ := (readAction_eq_some_iff long code index).1 action
      exact ⟨⟨fits, ranges⟩, length, stands, behind⟩
    · rintro ⟨⟨fits, ranges⟩, -, stands, behind⟩
      obtain ⟨⟨f0, f1, f2, f3, f4, f5, f6, f7, f8, f9⟩, code⟩ := head.1 ⟨fits, stands⟩
      have action := (readAction_eq_some_iff (by omega) code index).2 ⟨ranges, length, behind⟩
      exact ⟨by omega, f0, f1, f2, f3, f4, f5, action, f6, f7, f8, f9⟩
  · constructor
    · rintro ⟨long, f0, f1, f2, f3, f4, f5, action, f6⟩
      exact absurd ((readAction_eq_some_iff long (readAction_code action) index).1 action).2.1 length
    · exact fun ⟨_, same, _⟩ => absurd same length

end Sys2Proof.Machine
end

section
/-!
Writing a table's entry (R183): the data that an entry takes are those that the model's readers read.
-/
namespace Sys2Proof.Machine
open Sys2Proof

theorem asRead_plain {table : Nat} (plain : table ≠ 2 ∧ table ≠ 12) (index : Nat) (d : List Byte) :
    asRead table index d = d := by
  simp [asRead, plain]

theorem State.takes_of_asRead {table index : Nat} {d : List Byte} (same : asRead table index d = d) (s t : State) :
    s.Takes table index d t ↔ s.Sets table index t ∧ d = t.entry table index := by
  rw [State.Takes, same]
  constructor
  · exact fun ⟨sets, _, bytes⟩ => ⟨sets, bytes.symm⟩
  · exact fun ⟨sets, bytes⟩ => ⟨sets, congrArg List.length bytes, bytes.symm⟩

theorem State.takes_plain {table : Nat} (plain : table ≠ 2 ∧ table ≠ 12) (s : State) (index : Nat) (d : List Byte)
    (t : State) : s.Takes table index d t ↔ s.Sets table index t ∧ d = t.entry table index :=
  State.takes_of_asRead (asRead_plain plain index d) s t

/-- The bytes of an entry just set. -/
theorem elim_setIfInBounds {α : Type} {k n : Nat} (inside : n < k) (xs : Vector α k) (x : α) (bytes : α → List Byte) :
    ((xs.setIfInBounds n x)[n]?).elim [] bytes = bytes x := by
  rw [Vector.getElem?_setIfInBounds_self_of_lt inside]
  rfl

section
variable (s t : State) (d : List Byte)

theorem State.writeTable_gap : s.writeTable 0 0 d = some t ↔ s.Takes 0 0 d t := by
  rw [State.takes_plain (by decide)]
  constructor
  · intro written
    obtain ⟨v, read, rfl⟩ := Option.map_eq_some_iff.1 written
    obtain ⟨⟨low, high⟩, bytes⟩ := (readGap_eq_some_iff d v).1 read
    exact ⟨.gap v low high, bytes⟩
  · rintro ⟨sets, bytes⟩
    cases sets with
    | gap v low high => exact Option.map_eq_some_iff.2 ⟨v, (readGap_eq_some_iff d v).2 ⟨⟨low, high⟩, bytes⟩, rfl⟩

theorem State.writeTable_permit {n : Nat} (inside : n < 2) : s.writeTable 1 n d = some t ↔ s.Takes 1 n d t := by
  rw [State.takes_plain (by decide)]
  obtain ⟨p, place⟩ : ∃ p, (n, p) = (0, Port.mp) ∨ (n, p) = (1, .dp) := by
    obtain rfl | rfl : n = 0 ∨ n = 1 := by omega
    · exact ⟨.mp, .inl rfl⟩
    · exact ⟨.dp, .inr rfl⟩
  constructor
  · intro written
    obtain ⟨v, read, rfl⟩ := Option.map_eq_some_iff.1 written
    have bytes := (readPermit_eq_some_iff d v).1 read
    obtain ⟨rfl, rfl⟩ | ⟨rfl, rfl⟩ := place.imp Prod.mk.inj Prod.mk.inj
    · exact ⟨.permit 0 .mp v (.inl rfl), bytes⟩
    · exact ⟨.permit 1 .dp v (.inr rfl), bytes⟩
  · rintro ⟨sets, bytes⟩
    cases sets with
    | permit _ p v place =>
      obtain ⟨rfl, rfl⟩ | ⟨rfl, rfl⟩ := place.imp Prod.mk.inj Prod.mk.inj
      · exact Option.map_eq_some_iff.2 ⟨v, (readPermit_eq_some_iff d v).2 bytes, rfl⟩
      · exact Option.map_eq_some_iff.2 ⟨v, (readPermit_eq_some_iff d v).2 bytes, rfl⟩

theorem State.entry_match (n : Nat) : s.entry 2 n = (s.sig.matchTable[n]?).elim [] matchBytes := by
  rw [show matchBytes = _ from funext matchBytes_eq]
  rfl

theorem State.writeTable_match {n : Nat} (inside : n < 24) : s.writeTable 2 n d = some t ↔ s.Takes 2 n d t := by
  rw [State.Takes, State.entry_match]
  constructor
  · intro written
    obtain ⟨e, read, rfl⟩ := Option.map_eq_some_iff.1 written
    obtain ⟨range, length, bytes⟩ := (readMatch_eq_some_iff d e n).1 read
    refine ⟨.matching n e range, ?_⟩
    dsimp only [State.onSig]
    rw [elim_setIfInBounds inside]
    exact ⟨length, bytes⟩
  · rintro ⟨sets, taken⟩
    cases sets with
    | matching _ e range =>
      rw [elim_setIfInBounds inside] at taken
      exact Option.map_eq_some_iff.2 ⟨e, (readMatch_eq_some_iff d e n).2 ⟨range, taken⟩, rfl⟩

theorem State.writeTable_signal {n : Nat} (inside : n < 32) : s.writeTable 3 n d = some t ↔ s.Takes 3 n d t := by
  rw [State.takes_plain (by decide)]
  constructor
  · intro written
    obtain ⟨c, read, rfl⟩ := Option.map_eq_some_iff.1 written
    obtain ⟨⟨low, high, shift, offset, timeout⟩, bytes⟩ := (readSignal_eq_some_iff d c).1 read
    exact ⟨.signal n c low high shift offset timeout, bytes.trans (elim_setIfInBounds inside _ _ _).symm⟩
  · rintro ⟨sets, bytes⟩
    cases sets with
    | signal _ c low high shift offset timeout =>
      exact Option.map_eq_some_iff.2 ⟨c, (readSignal_eq_some_iff d c).2
        ⟨⟨low, high, shift, offset, timeout⟩, bytes.trans (elim_setIfInBounds inside _ _ _)⟩, rfl⟩

theorem State.writeTable_role {n : Nat} (inside : n < 7) : s.writeTable 4 n d = some t ↔ s.Takes 4 n d t := by
  rw [State.takes_plain (by decide)]
  have held (v : Option (Fin 32)) : (((s.sig.roles.setIfInBounds n v)[n]?).getD none) = v := by
    rw [Vector.getElem?_setIfInBounds_self_of_lt inside]
    rfl
  have entry (v : Option (Fin 32)) :
      u8 ((((s.sig.roles.setIfInBounds n v)[n]?).getD none).elim 255 Fin.val) = u8 (v.elim 255 Fin.val) := by rw [held]
  constructor
  · intro written
    obtain ⟨v, read, rfl⟩ := Option.map_eq_some_iff.1 written
    exact ⟨.role n v, ((readRole_eq_some_iff d v).1 read).trans (entry v).symm⟩
  · rintro ⟨sets, bytes⟩
    cases sets with
    | role _ v => exact Option.map_eq_some_iff.2 ⟨v, (readRole_eq_some_iff d v).2 (bytes.trans (entry v)), rfl⟩

theorem State.writeTable_key {n : Nat} (inside : n < 16) : s.writeTable 5 n d = some t ↔ s.Takes 5 n d t := by
  rw [State.takes_plain (by decide)]
  constructor
  · intro written
    obtain ⟨e, read, rfl⟩ := Option.map_eq_some_iff.1 written
    exact ⟨.key n e, ((readKey_eq_some_iff d e).1 read).trans (elim_setIfInBounds inside _ _ _).symm⟩
  · rintro ⟨sets, bytes⟩
    cases sets with
    | key _ e =>
      exact Option.map_eq_some_iff.2 ⟨e,
        (readKey_eq_some_iff d e).2 (bytes.trans (elim_setIfInBounds inside _ _ _)), rfl⟩

theorem State.entry_word {n : Nat} (inside : n < 48) : s.entry 6 n = (s.acq.words[n]?).elim [] wordBytes := by
  rw [show wordBytes = _ from funext wordBytes_eq]
  exact if_neg (by omega)

theorem State.writeTable_word {n : Nat} (inside : n < 48) : s.writeTable 6 n d = some t ↔ s.Takes 6 n d t := by
  rw [State.takes_plain (by decide), State.entry_word t inside]
  have writes : s.writeTable 6 n d =
      (readWord d).map fun v => s.onAcq fun a => { a with words := a.words.setIfInBounds n v } := if_neg (by omega)
  rw [writes]
  constructor
  · intro written
    obtain ⟨w, read, rfl⟩ := Option.map_eq_some_iff.1 written
    obtain ⟨settle, bytes⟩ := (readWord_eq_some_iff d w).1 read
    exact ⟨.word n w inside settle, bytes.trans (elim_setIfInBounds inside _ _ _).symm⟩
  · rintro ⟨sets, bytes⟩
    cases sets with
    | word _ w _ settle =>
      exact Option.map_eq_some_iff.2 ⟨w,
        (readWord_eq_some_iff d w).2 ⟨settle, bytes.trans (elim_setIfInBounds inside _ _ _)⟩, rfl⟩
    | boundary => omega

theorem State.writeTable_boundary : s.writeTable 6 48 d = some t ↔ s.Takes 6 48 d t := by
  rw [State.takes_plain (by decide)]
  constructor
  · intro written
    obtain ⟨b, read, rfl⟩ := Option.map_eq_some_iff.1 written
    obtain ⟨⟨low, high⟩, bytes⟩ := (readBoundary_eq_some_iff d b).1 read
    exact ⟨.boundary b low high, bytes⟩
  · rintro ⟨sets, bytes⟩
    cases sets with
    | word _ w inside => omega
    | boundary b low high =>
      exact Option.map_eq_some_iff.2 ⟨b, (readBoundary_eq_some_iff d b).2 ⟨⟨low, high⟩, bytes⟩, rfl⟩

theorem State.writeTable_setup {n : Nat} (inside : n < 2) : s.writeTable 7 n d = some t ↔ s.Takes 7 n d t := by
  rw [State.takes_plain (by decide)]
  obtain ⟨q, place⟩ : ∃ q, (n, q) = (0, QueueId.fast) ∨ (n, q) = (1, .slow) := by
    obtain rfl | rfl : n = 0 ∨ n = 1 := by omega
    · exact ⟨.fast, .inl rfl⟩
    · exact ⟨.slow, .inr rfl⟩
  constructor
  · intro written
    obtain ⟨r, read, rfl⟩ := Option.map_eq_some_iff.1 written
    obtain ⟨resume, bytes⟩ := (readSetup_eq_some_iff (queueOf n) d r).1 read
    obtain ⟨rfl, rfl⟩ | ⟨rfl, rfl⟩ := place.imp Prod.mk.inj Prod.mk.inj
    · exact ⟨.setup 0 .fast r (.inl rfl) resume, bytes⟩
    · exact ⟨.setup 1 .slow r (.inr rfl) resume, bytes⟩
  · rintro ⟨sets, bytes⟩
    cases sets with
    | setup _ q r place resume =>
      obtain ⟨rfl, rfl⟩ | ⟨rfl, rfl⟩ := place.imp Prod.mk.inj Prod.mk.inj
      · exact Option.map_eq_some_iff.2 ⟨r, (readSetup_eq_some_iff .fast d r).2 ⟨resume, bytes⟩, rfl⟩
      · exact Option.map_eq_some_iff.2 ⟨r, (readSetup_eq_some_iff .slow d r).2 ⟨resume, bytes⟩, rfl⟩

theorem State.writeTable_reload {n : Nat} (inside : n < 3) : s.writeTable 8 n d = some t ↔ s.Takes 8 n d t := by
  rw [State.takes_plain (by decide)]
  constructor
  · intro written
    obtain ⟨v, read, rfl⟩ := Option.map_eq_some_iff.1 written
    obtain ⟨high, bytes⟩ := (readReload_eq_some_iff d v).1 read
    exact ⟨.reload n v high, bytes.trans (elim_setIfInBounds inside _ _ _).symm⟩
  · rintro ⟨sets, bytes⟩
    cases sets with
    | reload _ v high =>
      exact Option.map_eq_some_iff.2 ⟨v,
        (readReload_eq_some_iff d v).2 ⟨high, bytes.trans (elim_setIfInBounds inside _ _ _)⟩, rfl⟩

theorem State.writeTable_weigh : s.writeTable 9 0 d = some t ↔ s.Takes 9 0 d t := by
  rw [State.takes_plain (by decide)]
  constructor
  · intro written
    obtain ⟨p, read, rfl⟩ := Option.map_eq_some_iff.1 written
    obtain ⟨stored, bytes⟩ := (readWeigh_eq_some_iff d p).1 read
    exact ⟨.weigh p stored, bytes⟩
  · rintro ⟨sets, bytes⟩
    cases sets with
    | weigh p stored =>
      exact Option.map_eq_some_iff.2 ⟨p, (readWeigh_eq_some_iff d p).2 ⟨stored, bytes⟩, rfl⟩

theorem State.writeTable_cycle : s.writeTable 10 0 d = some t ↔ s.Takes 10 0 d t := by
  rw [State.takes_plain (by decide)]
  constructor
  · intro written
    obtain ⟨k, read, rfl⟩ := Option.map_eq_some_iff.1 written
    obtain ⟨stored, bytes⟩ := (readCycle_eq_some_iff d k).1 read
    exact ⟨.cycle k stored, bytes⟩
  · rintro ⟨sets, bytes⟩
    cases sets with
    | cycle k stored =>
      exact Option.map_eq_some_iff.2 ⟨k, (readCycle_eq_some_iff d k).2 ⟨stored, bytes⟩, rfl⟩

theorem State.writeTable_account : s.writeTable 11 0 d = some t ↔ s.Takes 11 0 d t := by
  rw [State.takes_plain (by decide)]
  constructor
  · intro written
    obtain ⟨p, read, rfl⟩ := Option.map_eq_some_iff.1 written
    obtain ⟨⟨full, tolerance⟩, bytes⟩ := (readAccount_eq_some_iff d p).1 read
    exact ⟨.account p full tolerance, bytes⟩
  · rintro ⟨sets, bytes⟩
    cases sets with
    | account p full tolerance =>
      exact Option.map_eq_some_iff.2 ⟨p, (readAccount_eq_some_iff d p).2 ⟨⟨full, tolerance⟩, bytes⟩, rfl⟩

theorem State.entry_overlay (n : Nat) : s.entry 13 n = (s.rep.overlay[n]?).elim [] overlayBytes := by
  unfold overlayBytes
  simp only [wideByte_eq]
  rfl

theorem State.writeTable_overlay {n : Nat} (inside : n < 16) : s.writeTable 13 n d = some t ↔ s.Takes 13 n d t := by
  rw [State.takes_plain (by decide), State.entry_overlay]
  constructor
  · intro written
    obtain ⟨e, read, rfl⟩ := Option.map_eq_some_iff.1 written
    obtain ⟨⟨set, offset, divisor⟩, bytes⟩ := (readOverlay_eq_some_iff d e).1 read
    exact ⟨.overlay n e set offset divisor, bytes.trans (elim_setIfInBounds inside _ _ _).symm⟩
  · rintro ⟨sets, bytes⟩
    cases sets with
    | overlay _ e set offset divisor =>
      exact Option.map_eq_some_iff.2 ⟨e, (readOverlay_eq_some_iff d e).2
        ⟨⟨set, offset, divisor⟩, bytes.trans (elim_setIfInBounds inside _ _ _)⟩, rfl⟩

theorem State.writeTable_shift {n : Nat} (inside : n < 3) : s.writeTable 15 n d = some t ↔ s.Takes 15 n d t := by
  rw [State.takes_plain (by decide)]
  constructor
  · intro written
    obtain ⟨e, read, rfl⟩ := Option.map_eq_some_iff.1 written
    obtain ⟨⟨hour, minute⟩, bytes⟩ := (readShift_eq_some_iff d e).1 read
    exact ⟨.shift n e hour minute, bytes.trans (elim_setIfInBounds inside _ _ _).symm⟩
  · rintro ⟨sets, bytes⟩
    cases sets with
    | shift _ e hour minute =>
      exact Option.map_eq_some_iff.2 ⟨e, (readShift_eq_some_iff d e).2
        ⟨⟨hour, minute⟩, bytes.trans (elim_setIfInBounds inside _ _ _)⟩, rfl⟩

end

end Sys2Proof.Machine
end

section
/-!
WRITE_ENTRY (R183): the CALIBRATION and ROUTE tables, the checks of the command, and the entry as it reads back.
-/
namespace Sys2Proof.Machine
open Sys2Proof

section
variable (s t : State) (d : List Byte)

/-! ### The CALIBRATION table (R111) -/

theorem State.writeTable_calHead : s.writeTable 12 0 d = some t ↔ s.Takes 12 0 d t := by
  rw [State.takes_of_asRead (by simp [asRead])]
  have writes : s.writeTable 12 0 d =
      ((readCalHead s.cal.active d).map fun r => { s.cal with active := r }).map fun v => s.onCal fun _ => v := rfl
  rw [writes, Option.map_map]
  constructor
  · intro written
    obtain ⟨r, read, rfl⟩ := Option.map_eq_some_iff.1 written
    obtain ⟨⟨low, high, zeroLow, zeroHigh, rate, delta⟩, ⟨empty, reference⟩, bytes⟩ :=
      (readCalHead_eq_some_iff _ d r).1 read
    obtain ⟨empty', reference', mref, zero, rate', delta'⟩ := r
    subst empty reference
    exact ⟨.calibration mref zero rate' delta' low high zeroLow zeroHigh rate delta, bytes⟩
  · rintro ⟨sets, bytes⟩
    cases sets with
    | calibration mref zero rate delta low high zeroLow zeroHigh rateHigh deltaHigh =>
      exact Option.map_eq_some_iff.2 ⟨_, (readCalHead_eq_some_iff _ d
        { s.cal.active with mref := mref, zeroOffset := zero, rate := rate, minDelta := delta }).2
        ⟨⟨low, high, zeroLow, zeroHigh, rateHigh, deltaHigh⟩, ⟨rfl, rfl⟩, bytes⟩, rfl⟩
    | bin _ e r least => omega

theorem State.writeTable_deadline : s.writeTable 12 17 d = some t ↔ s.Takes 12 17 d t := by
  rw [State.takes_of_asRead (by simp [asRead])]
  have writes : s.writeTable 12 17 d =
      ((readReload d).map fun v => { s.cal with deadline := v }).map fun v => s.onCal fun _ => v := rfl
  rw [writes, Option.map_map]
  constructor
  · intro written
    obtain ⟨v, read, rfl⟩ := Option.map_eq_some_iff.1 written
    obtain ⟨high, bytes⟩ := (readReload_eq_some_iff d v).1 read
    exact ⟨.deadline v high, bytes⟩
  · rintro ⟨sets, bytes⟩
    cases sets with
    | deadline v high => exact Option.map_eq_some_iff.2 ⟨v, (readReload_eq_some_iff d v).2 ⟨high, bytes⟩, rfl⟩
    | bin _ e r least most => omega

/-- The entry of a bin (R111; log 26). -/
theorem State.entry_bin {n : Nat} (least : 1 ≤ n) (most : n ≤ 16) :
    s.entry 12 n = optLayout 4 s32 ((s.cal.active.empty[n - 1]?).getD none) ++
      optLayout 4 s32 ((s.cal.active.reference[n - 1]?).getD none) := by
  have notHead : n ≠ 0 := by omega
  have notDeadline : n ≠ 17 := by omega
  simp only [State.entry, notHead, notDeadline, if_false]
  cases (s.cal.active.empty[n - 1]?).getD none <;> cases (s.cal.active.reference[n - 1]?).getD none <;> rfl

theorem asRead_bin {n : Nat} (least : 1 ≤ n) (most : n ≤ 16) :
    asRead 12 n d = zeroAbsent 5 4 (zeroAbsent 0 4 d) := by
  have notHead : n ≠ 0 := by omega
  have notDeadline : n ≠ 17 := by omega
  simp [asRead, notHead, notDeadline]

/-- A state with the forces of one bin replaced holds them in the bin's entry. -/
theorem State.entry_withBin {n : Nat} (least : 1 ≤ n) (most : n ≤ 16) (e r : Option Int)
    (held : t.cal.active = s.cal.active.withBin (n - 1) e r) :
    t.entry 12 n = optLayout 4 s32 e ++ optLayout 4 s32 r := by
  have inside : n - 1 < 16 := by omega
  rw [t.entry_bin least most, held]
  simp only [CalRecord.withBin, Vector.getElem?_setIfInBounds_self_of_lt inside, Option.getD_some]

theorem State.writeTable_bin {n : Nat} (least : 1 ≤ n) (most : n ≤ 16) :
    s.writeTable 12 n d = some t ↔ s.Takes 12 n d t := by
  have notHead : n ≠ 0 := by omega
  have notDeadline : n ≠ 17 := by omega
  have writes : s.writeTable 12 n d =
      ((readCalBin s.cal.active (n - 1) d).map fun r => { s.cal with active := r }).map fun v => s.onCal fun _ =>
        v := by
    simp only [State.writeTable, Calibration.write, notHead, notDeadline, if_false]
  rw [State.Takes, writes, Option.map_map, asRead_bin d least most]
  have length (e r : Option Int) : (optLayout 4 s32 e ++ optLayout 4 s32 r).length = 10 := by
    rw [List.length_append, optLayout_length s32_length, optLayout_length s32_length]
  constructor
  · intro written
    obtain ⟨v, read, rfl⟩ := Option.map_eq_some_iff.1 written
    obtain ⟨e, r, inE, inR, rfl, ten, layout⟩ := (readCalBin_eq_some_iff _ _ d v).1 read
    refine ⟨.bin n e r least most inE inR, ?_⟩
    rw [State.entry_withBin s _ least most e r rfl, length]
    exact ⟨ten, layout.symm⟩
  · rintro ⟨sets, ten, layout⟩
    cases sets with
    | calibration => omega
    | deadline => omega
    | bin _ e r _ _ inE inR =>
      rw [State.entry_withBin s _ least most e r rfl] at ten layout
      exact Option.map_eq_some_iff.2 ⟨_, (readCalBin_eq_some_iff _ _ d _).2
        ⟨e, r, inE, inR, rfl, ten.trans (length e r), layout.symm⟩, rfl⟩

/-! ### The ROUTE table (R173, R179) -/

theorem State.writeTable_route {n : Nat} (inside : n < 8) : s.writeTable 14 n d = some t ↔ s.Takes 14 n d t := by
  rw [State.takes_plain (by decide)]
  have drains : routeDrains n = if n = 3 then [.loadDrain] else [] := by
    unfold routeDrains
    have kinds : (n = 3 ∨ n = 8 ∨ n = 9) ↔ n = 3 := by omega
    simp only [kinds]
  have writes : s.writeTable 14 n d =
      ((readRoute d).map fun v => { s.rep with routes := s.rep.routes.setIfInBounds n v }).map fun v =>
        (s.onRep fun _ => v).hand (if n = 3 then [.loadDrain] else []) := by
    rw [← drains]
    exact congrArg (Option.map _) (if_pos inside)
  have entry (u : State) (v : Route) (held : u.rep.routes = s.rep.routes.setIfInBounds n v) :
      u.entry 14 n = enumByte routeValues v := by
    refine (if_pos inside).trans ?_
    rw [held, Vector.getElem?_setIfInBounds_self_of_lt inside]
    rfl
  rw [writes, Option.map_map]
  constructor
  · intro written
    obtain ⟨v, read, rfl⟩ := Option.map_eq_some_iff.1 written
    exact ⟨.route n v inside, ((readRoute_eq_some_iff d v).1 read).trans (entry _ v rfl).symm⟩
  · rintro ⟨sets, bytes⟩
    cases sets with
    | route _ v =>
      exact Option.map_eq_some_iff.2 ⟨v, (readRoute_eq_some_iff d v).2 (bytes.trans (entry _ v rfl)), rfl⟩
    | node _ p v place =>
      obtain ⟨rfl, -⟩ | ⟨rfl, -⟩ := place.imp Prod.mk.inj Prod.mk.inj <;> omega

theorem State.writeTable_node {n : Nat} (inside : n = 8 ∨ n = 9) : s.writeTable 14 n d = some t ↔ s.Takes 14 n d t := by
  rw [State.takes_plain (by decide)]
  constructor
  · intro written
    obtain rfl | rfl := inside
    · obtain ⟨r, read, rfl⟩ := Option.map_eq_some_iff.1 written
      obtain ⟨v, node, rfl⟩ := Option.map_eq_some_iff.1 read
      exact ⟨.node 8 .mp v (.inl rfl), (readNode_eq_some_iff d v).1 node⟩
    · obtain ⟨r, read, rfl⟩ := Option.map_eq_some_iff.1 written
      obtain ⟨v, node, rfl⟩ := Option.map_eq_some_iff.1 read
      exact ⟨.node 9 .dp v (.inr rfl), (readNode_eq_some_iff d v).1 node⟩
  · rintro ⟨sets, bytes⟩
    cases sets with
    | route _ v below => omega
    | node _ p v place =>
      have written := congrArg (Option.map fun v => { s.rep with nodes := s.rep.nodes.set p v })
        ((readNode_eq_some_iff d v).2 (by
          obtain ⟨rfl, rfl⟩ | ⟨rfl, rfl⟩ := place.imp Prod.mk.inj Prod.mk.inj <;> exact bytes))
      obtain ⟨rfl, rfl⟩ | ⟨rfl, rfl⟩ := place.imp Prod.mk.inj Prod.mk.inj
      · exact Option.map_eq_some_iff.2 ⟨_, written, rfl⟩
      · exact Option.map_eq_some_iff.2 ⟨_, written, rfl⟩

/-! ### Every table -/

/-- A write of an entry of a table takes data exactly when the entry takes them. -/
theorem State.writeTable_eq_some_iff {table index n : Nat} (counts : entryCounts[table]? = some n)
    (inside : index < n) :
    s.writeTable table index d = some t ↔ s.Takes table index d t := by
  match table with
  | 0 =>
    obtain rfl := Option.some.inj counts
    obtain rfl := Nat.lt_one_iff.1 inside
    exact s.writeTable_gap t d
  | 1 =>
    obtain rfl := Option.some.inj counts
    exact s.writeTable_permit t d inside
  | 2 =>
    obtain rfl := Option.some.inj counts
    exact s.writeTable_match t d inside
  | 3 =>
    obtain rfl := Option.some.inj counts
    exact s.writeTable_signal t d inside
  | 4 =>
    obtain rfl := Option.some.inj counts
    exact s.writeTable_role t d inside
  | 5 =>
    obtain rfl := Option.some.inj counts
    exact s.writeTable_key t d inside
  | 6 =>
    obtain rfl := Option.some.inj counts
    by_cases boundary : index = 48
    · subst boundary
      exact s.writeTable_boundary t d
    · exact s.writeTable_word t d (by omega)
  | 7 =>
    obtain rfl := Option.some.inj counts
    exact s.writeTable_setup t d inside
  | 8 =>
    obtain rfl := Option.some.inj counts
    exact s.writeTable_reload t d inside
  | 9 =>
    obtain rfl := Option.some.inj counts
    obtain rfl := Nat.lt_one_iff.1 inside
    exact s.writeTable_weigh t d
  | 10 =>
    obtain rfl := Option.some.inj counts
    obtain rfl := Nat.lt_one_iff.1 inside
    exact s.writeTable_cycle t d
  | 11 =>
    obtain rfl := Option.some.inj counts
    obtain rfl := Nat.lt_one_iff.1 inside
    exact s.writeTable_account t d
  | 12 =>
    obtain rfl := Option.some.inj counts
    obtain rfl | rfl | between : index = 0 ∨ index = 17 ∨ (1 ≤ index ∧ index ≤ 16) := by omega
    · exact s.writeTable_calHead t d
    · exact s.writeTable_deadline t d
    · exact s.writeTable_bin t d between.1 between.2
  | 13 =>
    obtain rfl := Option.some.inj counts
    exact s.writeTable_overlay t d inside
  | 14 =>
    obtain rfl := Option.some.inj counts
    by_cases route : index < 8
    · exact s.writeTable_route t d route
    · exact s.writeTable_node t d (by omega)
  | 15 =>
    obtain rfl := Option.some.inj counts
    exact s.writeTable_shift t d inside
  | k + 16 => cases counts

end

end Sys2Proof.Machine
end

section
/-!
WRITE_ENTRY (R183): the checks of the command in their order, and the entry as it reads back.
-/
namespace Sys2Proof.Machine
open Sys2Proof

/-! ### Writing what was read -/

theorem PerQueue.set_set {α : Type} (x : PerQueue α) (q : QueueId) (a b : α) : (x.set q a).set q b = x.set q b := by
  cases q <;> rfl

/-- A content set once more leaves every table as it is. -/
theorem State.Sets.again {s t : State} {table index : Nat} (sets : s.Sets table index t) :
    ∃ u, t.Sets table index u ∧ u = { t with handed := u.handed } := by
  cases sets with
  | gap v low high => exact ⟨_, .gap v low high, rfl⟩
  | permit _ p v place => exact ⟨_, .permit index p v place, by simp only [PerPort.set_set]⟩
  | matching _ e range => exact ⟨_, .matching index e range, by simp only [Vector.setIfInBounds_setIfInBounds]⟩
  | signal _ c low high shift offset timeout =>
    exact ⟨_, .signal index c low high shift offset timeout, by simp only [Vector.setIfInBounds_setIfInBounds]⟩
  | role _ v => exact ⟨_, .role index v, by simp only [Vector.setIfInBounds_setIfInBounds]⟩
  | key _ e => exact ⟨_, .key index e, by simp only [Vector.setIfInBounds_setIfInBounds]⟩
  | word _ w inside settle =>
    exact ⟨_, .word index w inside settle, by simp only [Vector.setIfInBounds_setIfInBounds]⟩
  | boundary b low high => exact ⟨_, .boundary b low high, rfl⟩
  | setup _ q r place resume => exact ⟨_, .setup index q r place resume, by simp only [PerQueue.set_set]⟩
  | reload _ v high => exact ⟨_, .reload index v high, by simp only [Vector.setIfInBounds_setIfInBounds]⟩
  | weigh p stored => exact ⟨_, .weigh p stored, rfl⟩
  | cycle k stored => exact ⟨_, .cycle k stored, rfl⟩
  | account p full tolerance => exact ⟨_, .account p full tolerance, rfl⟩
  | calibration mref zero rate delta low high zeroLow zeroHigh rateHigh deltaHigh =>
    exact ⟨_, .calibration mref zero rate delta low high zeroLow zeroHigh rateHigh deltaHigh, rfl⟩
  | bin _ e r least most inE inR =>
    exact ⟨_, .bin index e r least most inE inR, by simp only [Vector.setIfInBounds_setIfInBounds]⟩
  | deadline v high => exact ⟨_, .deadline v high, rfl⟩
  | overlay _ e set offset divisor =>
    exact ⟨_, .overlay index e set offset divisor, by simp only [Vector.setIfInBounds_setIfInBounds]⟩
  | route _ v inside => exact ⟨_, .route index v inside, by simp only [Vector.setIfInBounds_setIfInBounds]⟩
  | node _ p v place => exact ⟨_, .node index p v place, by simp only [PerPort.set_set]⟩
  | shift _ e hour minute => exact ⟨_, .shift index e hour minute, by simp only [Vector.setIfInBounds_setIfInBounds]⟩

theorem readAction_target_length {d : List Byte} {a : MatchAction} (long : 12 ≤ d.length) (code : byteAt d 10 = 2)
    (read : readAction d 10 = some a) : d.length = 28 := by
  have action := readAction_code read
  have length := ((readAction_eq_some_iff long action 0).1 read).2.1
  cases a with
  | target id capacity departure =>
    have data : (MatchAction.target id capacity departure).data.length = 17 := by
      simp only [MatchAction.data, List.length_append, descBytes_length, optDescBytes_length]
    omega
  | _ => rw [code] at action; cases action

theorem asRead_match_again {d : List Byte} {e : MatchEntry} (read : readMatch d = some e) (index : Nat) :
    asRead 2 index (asRead 2 index d) = asRead 2 index d := by
  obtain ⟨long, -, -, -, -, -, -, action, -⟩ := (readMatch_fields d e).1 read
  by_cases code : byteAt d 10 = 2
  · have length := readAction_target_length long code action
    rw [asRead_match index d, if_pos code, asRead_match,
      byteAt_zeroAbsent_both (by omega) (by omega) (Or.inl (by omega)), if_pos code,
      zeroAbsent_both_again (by omega) (by omega)]
  · rw [asRead_match index d, if_neg code, asRead_match, if_neg code]

/-- The bytes an entry reads back as read back as themselves. -/
theorem State.Takes.asRead_again {s t : State} {table index n : Nat} {d : List Byte}
    (counts : entryCounts[table]? = some n)
    (inside : index < n) (taken : s.Takes table index d t) :
    asRead table index (asRead table index d) = asRead table index d := by
  by_cases matching : table = 2
  · subst matching
    obtain ⟨e, read, -⟩ := Option.map_eq_some_iff.1 ((s.writeTable_eq_some_iff t d counts inside).2 taken)
    exact asRead_match_again read index
  by_cases bin : table = 12 ∧ index ≠ 0 ∧ index ≠ 17
  · obtain ⟨rfl, notHead, notDeadline⟩ := bin
    obtain rfl := Option.some.inj counts
    have least : 1 ≤ index := by omega
    have most : index ≤ 16 := by omega
    have length : d.length = 10 := by
      rw [taken.2.1, t.entry_bin least most, List.length_append, optLayout_length s32_length,
        optLayout_length s32_length]
    rw [asRead_bin d least most, asRead_bin _ least most]
    exact zeroAbsent_both_again (by omega) (by omega)
  · have plain (x : List Byte) : asRead table index x = x := by simp only [asRead, matching, bin, false_and, if_false]
    rw [plain, plain]

theorem State.Takes.again {s t : State} {table index n : Nat} {d : List Byte} (counts : entryCounts[table]? = some n)
    (inside : index < n) (taken : s.Takes table index d t) :
    ∃ u, t.Takes table index (asRead table index d) u ∧ u = { t with handed := u.handed } := by
  obtain ⟨u, sets, kept⟩ := taken.1.again
  have entry : u.entry table index = asRead table index d := by
    rw [kept, ← taken.2.2]
    rfl
  exact ⟨u, ⟨sets, congrArg List.length entry.symm, entry.trans (taken.asRead_again counts inside).symm⟩, kept⟩

/-! ### The checks -/

theorem Acquisition.bothOff_iff (a : Acquisition) : a.bothOff = true ↔ ∀ q, (a.queue q).state = .off := by
  rw [Acquisition.bothOff, Bool.and_eq_true, beq_iff_eq, beq_iff_eq]
  refine ⟨fun ⟨fast, slow⟩ q => ?_, fun off => ⟨off .fast, off .slow⟩⟩
  cases q
  · exact fast
  · exact slow

section
variable {s : State} {req : Request}

theorem State.doWriteEntry_refused (mode : s.mgt.config = .config) {status : Status}
    (check : tableCheck (byteAt req.data 0) (byteAt req.data 1) = some status) :
    s.doWriteEntry req = refuse s status := by
  unfold State.doWriteEntry
  dsimp only
  rw [if_neg (Classical.not_not.2 mode), check]

theorem State.doWriteEntry_busy (mode : s.mgt.config = .config)
    (check : tableCheck (byteAt req.data 0) (byteAt req.data 1) = none)
    (acquires : byteAt req.data 0 = 6 ∨ byteAt req.data 0 = 7) (runs : ¬ ∀ q, (s.acq.queue q).state = .off) :
    s.doWriteEntry req = refuse s .busy := by
  have busy : (byteAt req.data 0 = 6 ∨ byteAt req.data 0 = 7) ∧ (!s.acq.bothOff) = true :=
    ⟨acquires, by rw [Bool.not_eq_true', ← Bool.not_eq_true, Acquisition.bothOff_iff]; exact runs⟩
  unfold State.doWriteEntry
  dsimp only
  rw [if_neg (Classical.not_not.2 mode), check]
  exact if_pos busy

theorem State.doWriteEntry_writes (mode : s.mgt.config = .config)
    (check : tableCheck (byteAt req.data 0) (byteAt req.data 1) = none)
    (free : (byteAt req.data 0 ≠ 6 ∧ byteAt req.data 0 ≠ 7) ∨ ∀ q, (s.acq.queue q).state = .off) :
    s.doWriteEntry req =
      (s.writeTable (byteAt req.data 0) (byteAt req.data 1) (req.data.drop 2)).elim (refuse s .badValue)
        fun t => answerOk t [] := by
  have notBusy : ¬ ((byteAt req.data 0 = 6 ∨ byteAt req.data 0 = 7) ∧ (!s.acq.bothOff) = true) := by
    rintro ⟨acquires, runs⟩
    have off : ¬ ∀ q, (s.acq.queue q).state = .off := by simpa [← Acquisition.bothOff_iff] using runs
    exact free.elim (fun apart => acquires.elim apart.1 apart.2) off
  unfold State.doWriteEntry
  dsimp only
  rw [if_neg (Classical.not_not.2 mode), check]
  dsimp only
  rw [if_neg notBusy]
  cases s.writeTable (byteAt req.data 0) (byteAt req.data 1) (req.data.drop 2) <;> rfl

end

/-- Settles O58: the checks in their order; data pass the last exactly when the entry takes them. -/
theorem entriesReadBack : Obligations.EntriesReadBack := by
  refine ⟨fun req s admitted long => ?_, fun table index n d s t counts inside taken => ⟨?_, taken.again counts inside⟩⟩
  · dsimp only
    have refused : ∀ {status}, State.doWriteEntry req (s.take (.writeEntry req)) = refuse _ status →
        exec (.writeEntry req) s = .next (s.answers (.writeEntry req) req status []) :=
      exec_admitted_refuse (c := .writeEntry req) rfl rfl admitted long
    refine ⟨fun mode => refused (if_pos mode), fun mode => ⟨fun above => refused ?_, fun n counts =>
      ⟨fun above => refused ?_, fun inside acquires runs => refused ?_, fun inside free => ⟨fun none' => refused ?_,
        fun t taken => ?_⟩⟩⟩⟩
    · exact State.doWriteEntry_refused (s := s.take (.writeEntry req)) mode (tableCheck_badTable above _)
    · exact State.doWriteEntry_refused (s := s.take (.writeEntry req)) mode (tableCheck_badIndex counts above)
    · exact State.doWriteEntry_busy (s := s.take (.writeEntry req)) mode (tableCheck_none counts inside) acquires runs
    · rw [State.doWriteEntry_writes (s := s.take (.writeEntry req)) mode (tableCheck_none counts inside) free]
      cases written : State.writeTable (s.take (.writeEntry req)) (byteAt req.data 0) (byteAt req.data 1)
          (req.data.drop 2) with
      | none => rfl
      | some t => exact absurd ((State.writeTable_eq_some_iff _ t _ counts inside).1 written) (none' t)
    · refine exec_admitted_body (c := .writeEntry req) (t := t) (status := .ok) (data := []) rfl rfl admitted long ?_
      refine (State.doWriteEntry_writes (s := s.take (.writeEntry req)) mode
        (tableCheck_none counts inside) free).trans ?_
      rw [(State.writeTable_eq_some_iff (s.take (.writeEntry req)) t _ counts inside).2 taken]
      rfl
  · rw [State.readTable_eq, taken.2.2]

end Sys2Proof.Machine
end
